-- ==== Sys2Proof/Word.lean ====
section
/-!
DEFINITION. Word.lean: the value types of the object dictionary (R303, Table 14-1), as bit vectors, and the
plain enumerations that several chapters share.
-/
namespace Sys2Proof

/-- A byte (U8). -/
abbrev Byte := BitVec 8
/-- A U16 or I16 value. -/
abbrev U16 := BitVec 16
/-- A U32 or I32 value. -/
abbrev U32 := BitVec 32
/-- A U64 value. -/
abbrev U64 := BitVec 64

/-- The three object-access carriers (Table 13-1). -/
inductive Carrier where
  | can | t1s | svh
  deriving DecidableEq, Repr, Inhabited

end Sys2Proof
end

