-- ==== Sys2Proof/Syntax.lean ====
section
/-!
DEFINITION. Syntax.lean: the commands the block takes, one constructor per row of spec/opcode_table.json.
A command carries what its sender supplies: the fields of a packet or of an object-access request, the answer of a
partner, a measured value, or the observations that the hardware itself makes inside the step.
-/
namespace Sys2Proof

/-- How a packet arrived (R163): whole, with its end misplaced, or with an invalid code or a disparity error on a lane
inside it. -/
inductive Arrival where
  | whole | badFrame
  | badSymbol (lane : Fin 4) (disparity : Bool)
  deriving DecidableEq, Repr, Inhabited

/-- A Svarn packet as received: the header of Table 8-4, the payload and the CRC-32C that follows them (R162). `gap` are the
invalid codes and disparity errors that the receiver met on its lanes since the packet before (R159). -/
structure Packet where
  arrival : Arrival
  kind : Byte
  flags : Byte
  length : U16
  seq : U16
  info : U16
  a : U32
  b : U32
  payload : List Byte
  crc : U32
  gap : List (Fin 4 × Bool) := []
  deriving DecidableEq, Repr

/-- The Ethernet envelope of a 10BASE-T1S frame: the requester's source address and an IEEE 802.1Q tag, echoed in
the response (R282, R286). Zero and none on the other carriers. -/
structure Envelope where
  mac : BitVec 48
  tag : Option U32
  deriving DecidableEq, Repr

/-- Where an object-access request comes from and how it is addressed (R283, R285 to R287). -/
structure Requester where
  carrier : Carrier
  src : BitVec 10
  dest : BitVec 10
  tid : Byte
  envelope : Envelope
  deriving DecidableEq, Repr

/-- The head of the frame that carries a PDU (R285, R286): FUNC, VERSION, the destination MAC of a T1S frame (none: that of the
device or the broadcast address), and whether LENGTH is larger than the frame holds. -/
structure FrameHead where
  func : Byte := 3
  version : Byte := 1
  toMac : Option (BitVec 48) := none
  overlong : Bool := false
  deriving DecidableEq, Repr, Inhabited

/-- The rest of a PDU (Table 13-4): the object, SEG, the LENGTH field as sent, and the data bytes. `reservedSet`
says that a reserved header bit of the frame is non-zero. -/
structure Pdu where
  index : U16
  sub : Byte
  seg : Byte
  length : U16
  data : List Byte
  reservedSet : Bool
  head : FrameHead := {}
  deriving DecidableEq, Repr

/-- What one training attempt of a Svarn-E link meets (Table 8-11): whether the return lane locked by 500 µs,
whether STATUS answered by 700 µs and if it said LIMP, and the descriptor bytes received by 1500 µs. -/
structure TrainObs where
  locked : Bool
  answered : Bool
  limp : Bool
  descriptor : List Byte
  deriving DecidableEq, Repr

/-- The outcome of one xSPI read: an error reported by the port, or none. -/
inductive FlashRead where
  | ok | error
  deriving DecidableEq, Repr, Inhabited

/-- What the outside supplies to a boot (R380 to R384, Table 18-5): the training attempts of each link in order,
the xSPI outcomes of the Hedgerow copy and of the Gorse images, the SFDP data, whether Cairn takes writes, and the CORE
cycles from release to the start of the frame grid, whether a word of the Hedgerow store has a parity error, and for
PORST_N_RELEASE how long the pin stays high (R395). -/
structure BootEnv where
  train0 : List TrainObs
  train1 : List TrainObs
  hedgeRead : FlashRead
  gorseRead : FlashRead
  flashSizeKiB : U32
  jedecId : U32
  eraseMs : Nat
  programUs : Nat
  cairnOk : Bool
  cycles : Nat
  hedgeParity : Bool := false
  highNs : Nat := 1000
  deriving DecidableEq, Repr, Inhabited

/-- What the hardware finds while it renders the band of a frame slot: how many codes of each tile are missing when
the encoder must send (R145), the layers with a source row missing from the line buffer (R155), the field-memory
words that turn out to be uncorrectable (R272), the box entries with a parity error (R113), the pixels of each tile
whose warp sums fail the residue check (R245), and the Hedgerow store words with a parity error (R234). -/
structure SlotObs where
  late0 : Nat
  late1 : Nat
  missing : Byte
  uncorrectable : List Nat
  boxParity : List (Fin 64)
  residue0 : List Nat
  residue1 : List Nat
  storeParity : List Nat
  deriving DecidableEq, Repr

/-- The clock that sends a Sync (R300). -/
structure SyncSource where
  identity : U64
  priority1 : Byte
  deriving DecidableEq, Repr

/-- A twin telegram on a network carrier: DEST of its frame (R283), its bytes, the head of a T1S frame, and whether a reserved
bit of that head is set (R286). -/
structure TwinCopy where
  dest : BitVec 10
  bytes : List Byte
  head : FrameHead := { func := 1 }
  reservedSet : Bool := false
  deriving DecidableEq, Repr

/-- The two reads of a PMBus poll (R213, R370): the limit word and the status word, none for a read that failed. -/
structure PmbusAnswer where
  limit : Option U16
  status : Option U16
  deriving DecidableEq, Repr

/-- What a handshake step finds: whether a save of the retention store reads back right, and whether Cairn has not finished
its last write (Table 17-2). -/
structure StepFindings where
  saveOk : Bool
  writing : Bool
  deriving DecidableEq, Repr

/-- Bits that a lane receives in a PRBS session, in their order (R185). -/
structure LaneBits where
  lane : Fin 8
  bits : List Bool
  deriving DecidableEq, Repr

/-- The commands, in the order of spec/opcode_table.json. `porstNAssert` carries how long the pin stays low, 1 µs where
nothing is said. -/
inductive Instr where
  -- resets and boot
  | porstNRelease (env : BootEnv)
  | supplyReset (env : BootEnv)
  | managementWatchdogExpiry (env : BootEnv)
  | resetCmd (r : Requester) (value : U32) (env : BootEnv)
  | pllNotLockedReset (env : BootEnv)
  | testReset (testEn : Bool) (env : BootEnv)
  | pllLockLoss
  -- frame
  | frameSlotStart (slot : Fin 68) (obs : SlotObs)
  | ticketClose
  -- layers
  | commit (r : Requester) (layer : Fin 8) (tag : U16) (gateKind gateNum : BitVec 4)
  | commitCancel (r : Requester) (layer : Fin 8)
  | commitDiscard (r : Requester) (layer : Fin 8)
  | groupCommit (r : Requester) (mask : Byte) (gateKind gateNum : BitVec 4) (tag : U16)
  | commitCheckEnd (layer : Fin 8)
  -- Svarn-H
  | streamPacket (p : Packet)
  | bulkWrite (p : Packet)
  | bulkRead (p : Packet)
  | quickPacket (p : Packet)
  | boxExpiry (id : Fin 64)
  | quickChannelStale
  | objPacket (p : Packet)
  | eventTransmit
  | svarnHLinkLoss
  -- Svarn-E
  | trainingAttempt (n : Fin 2) (obs : TrainObs)
  | trainingRetry (n : Fin 2)
  | sveRetrain (r : Requester) (n : Fin 2) (fwdPs retPs : BitVec 2)
  | svhRetrain (r : Requester) (txPs : BitVec 2)
  | svarnELinkLoss (n : Fin 2) (lockLost : Bool)
  | tileAutoRun (n : Fin 2)
  | echoReceive (n : Fin 2) (p : Packet)
  | echoDeadline (n : Fin 2)
  | statusReceive (n : Fin 2) (p : Packet)
  | tempReceive (n : Fin 2) (p : Packet)
  | tempMissing (n : Fin 2)
  | diagReceive (n : Fin 2) (p : Packet)
  | vfReceive (n : Fin 2) (p : Packet)
  -- alignment and time base
  | fsyncEdge (highNs : Nat)
  | fsyncLoss
  | timeBaseSync (grandmaster : SyncSource) (intervalLog2 : Int) (offsetNs : Int)
  | timeBaseUnlockTimeout
  -- object access
  | read (r : Requester) (d : Pdu)
  | write (r : Requester) (d : Pdu)
  | readInit (r : Requester) (d : Pdu)
  | writeInit (r : Requester) (d : Pdu)
  | segment (r : Requester) (d : Pdu)
  | segmentLast (r : Requester) (d : Pdu)
  | abort (r : Requester) (d : Pdu)
  | segTimeout (c : Carrier)
  | busyResponse (c : Carrier)
  -- twin telegrams
  | twinTelegram (c : Carrier) (copy : TwinCopy)
  | twinWindowExpiry
  | twinTimeout
  | eventTelegram (c : Carrier)
  -- password and lamp commands
  | unlock (r : Requester) (password : List Byte)
  | lock (r : Requester)
  | pwNew (r : Requester) (password : List Byte)
  | unlockIdleExpiry
  | lockoutEnd
  | lampCmdOff (r : Requester)
  | lampCmdService (r : Requester)
  | lampCmdFallback (r : Requester)
  | lampCmdParked (r : Requester)
  | lampCmdTest (r : Requester)
  | lampCmdRecovery (r : Requester)
  | testSource (r : Requester) (value : Byte)
  | testCtrl (r : Requester) (value : U32)
  -- faults
  | faultReportAccept (parityError : Bool)
  | faultAck (r : Requester) (seq : U16)
  | faultClear (r : Requester) (seq : U16)
  -- banks, packs, schedules
  | bankOpen (r : Requester) (pair : Fin 8)
  | swapRequest (r : Requester) (pair : Fin 8)
  | bankCancel (r : Requester) (pair : Fin 8)
  | verificationEnd (pair : Fin 8)
  | deferLimitReached (pair : Fin 8)
  | loadFlash (r : Requester) (slot : Byte)
  | openHost (r : Requester)
  | closeHost (r : Requester)
  | packLoadEnd (flash : FlashRead)
  | activate (r : Requester)
  | activateTimeout
  | packCancel (r : Requester)
  | schedStart (r : Requester) (frame : U32)
  | schedStop (r : Requester)
  | scheduledCommit
  -- calibration, fault maps, currents
  | calBuildStart (n : Fin 2) (trigger : BitVec 4)
  | calBuildComplete (n : Fin 2)
  | fmapCommit (r : Requester) (n : Fin 2)
  | fmapCopyEnd (n : Fin 2) (corrupt : List (Nat × Byte))
  | fmapRetire (r : Requester) (n : Fin 2) (x : BitVec 11) (y : BitVec 9) (emitter : BitVec 2)
  | fmapClear (r : Requester) (n : Fin 2)
  | fmapRebuild (r : Requester) (n : Fin 2)
  | faultMapReplay (n : Fin 2)
  | scanPeriodExpiry
  | agePeriodExpiry
  | governorCompute
  | governorScaleMissing (n : Fin 2)
  | pmbusPoll (n : Fin 2) (answer : PmbusAnswer)
  | curFailLimitReached (n : Fin 2)
  | underrunLimitReached (layer : Fin 8)
  | hedgeRecheck (parity : List Nat)
  | scrubPass (corrected : List (Fin 48 × Nat)) (uncorrectable : List Nat)
  | spareCopyEnd (spare : Fin 2)
  -- DMA and check units
  | go (r : Requester) (channel : Fin 8)
  | stop (r : Requester) (channel : Fin 8) (movedBytes : Nat)
  | descriptorWriteBack (channel : Fin 8) (source : FlashRead) (failAt : Nat)
  | startMem (r : Requester) (channel : Fin 8) (alive : Byte)
  | feedOpen (r : Requester) (channel : Fin 8) (alive : Byte)
  | chkFeed (r : Requester) (channel : Fin 8) (bytes : List Byte)
  | feedClose (r : Requester) (channel : Fin 8) (alive : Byte)
  | checkAbort (r : Requester) (channel : Fin 8) (alive : Byte)
  | checkAlive (r : Option Requester) (channel : Fin 8) (alive : Byte)
  | checkJobEnd (channel : Fin 8) (source : FlashRead)
  -- ADC and TSENS
  | regularConversionEnd (microvolts : Nat)
  | adtrigEdge (rising : Bool) (heldCycles : Nat)
  | injectedSequenceEnd (microvolts : List Nat)
  | tsensReading (raw : Int) (railCode : Bool)
  | thermalRestart
  -- power
  | powerCmdRun (r : Requester)
  | powerCmdIdle (r : Requester)
  | powerCmdSleep (r : Requester)
  | powerCmdDeep (r : Requester)
  | powerCmdDew (r : Requester)
  | powerCmdOff (r : Requester)
  | handshakeAnswer (found : StepFindings)
  | wakeEvent (source : Fin 7) (decay : List (Fin 4 × Nat × Byte)) (env : BootEnv)
  | wakeAck (r : Requester)
  | dewSample (ain : List Nat)
  | supplySample (supply : Fin 4) (mv : U16)
  | longDip (supply : Fin 4)
  | clockMonitorWindow (counts : List U32)
  -- non-volatile storage
  | store (r : Requester)
  | storeEnd (writeOk : Bool)
  | restoreDefaults (r : Requester)
  | calsetWrite (r : Requester)
  | calsetWriteEnd (programmed : Bool)
  | registerWrite (r : Requester) (d : Pdu)
  -- the rows added at the end of the table
  | porstNAssert (lowNs : Nat := 1000)
  | svarnHLinkUp
  | svarnHRxIdleEntry (deep : Bool)
  | svarnHRxIdleExit
  | tsensNoConversion
  | handshakeTimeout
  | canBusOff
  | plcaActiveLoss
  | grandmasterSyncSend
  | safeClockReturn
  | prbsCheckerLock (received : LaneBits)
  deriving DecidableEq, Repr

end Sys2Proof
end

