-- ==== Sys2Proof/Machine/Bits.lean ====
section
/-!
DEFINITION. Machine/Bits.lean: little-endian fields of byte strings, saturating counters, update of one place of a
table, the sparse byte memory in its canonical form, and the CRC arithmetic of R326 and R327.
-/
namespace Sys2Proof.Machine

/-- Little-endian value of a byte string (R303). -/
def le : List Byte → Nat
  | [] => 0
  | b :: t => b.toNat + 256 * le t

/-- The `k` low bytes of `n`, little-endian. -/
def leBytes : Nat → Nat → List Byte
  | 0, _ => []
  | k + 1, n => BitVec.ofNat 8 n :: leBytes k (n / 256)

/-- Bytes `off` to `off + len - 1`. -/
def slice (l : List Byte) (off len : Nat) : List Byte := (l.drop off).take len

def byteAt (l : List Byte) (off : Nat) : Byte := l.getD off 0
def u16At (l : List Byte) (off : Nat) : U16 := BitVec.ofNat 16 (le (slice l off 2))
def u32At (l : List Byte) (off : Nat) : U32 := BitVec.ofNat 32 (le (slice l off 4))
def u64At (l : List Byte) (off : Nat) : U64 := BitVec.ofNat 64 (le (slice l off 8))
def allZero (l : List Byte) : Bool := l.all (· == 0)

/-- The bytes of a fixed-size value (Table 14-1). -/
def bytes8 (v : Byte) : List Byte := [v]
def bytes16 (v : U16) : List Byte := leBytes 2 v.toNat
def bytes32 (v : U32) : List Byte := leBytes 4 v.toNat
def bytes64 (v : U64) : List Byte := leBytes 8 v.toNat
def byteOfBool (b : Bool) : Byte := if b then 1 else 0
def natOfBool (b : Bool) : Nat := if b then 1 else 0

/-- A saturating U32 counter advances by `k`. -/
def satAdd (c : U32) (k : Nat) : U32 := BitVec.ofNat 32 (min (c.toNat + k) 0xFFFFFFFF)
/-- A saturating U32 counter advances by one. -/
def satInc (c : U32) : U32 := satAdd c 1
def satInc8 (c : Byte) : Byte := BitVec.ofNat 8 (min (c.toNat + 1) 255)
def satInc16 (c : U16) : U16 := BitVec.ofNat 16 (min (c.toNat + 1) 0xFFFF)

/-- A value clamped to an interval. -/
def clampInt (lo hi x : Int) : Int := max lo (min hi x)
/-- Saturation of an exact value into I32, at ±(2^31 − 1). -/
def satI32 (x : Int) : U32 := BitVec.ofInt 32 (clampInt (-(2 ^ 31 - 1)) (2 ^ 31 - 1) x)

/-- One place of a table replaced by its image. -/
def vmod {α : Type} {n : Nat} (v : Vector α n) (i : Fin n) (f : α → α) : Vector α n :=
  v.set i (f v[i])

/-- One place of a table replaced. -/
def vput {α : Type} {n : Nat} (v : Vector α n) (i : Fin n) (x : α) : Vector α n := v.set i x

/-- Every place of a table replaced by its image. -/
def vall {α β : Type} {n : Nat} (v : Vector α n) (f : α → β) : Vector β n := Vector.ofFn fun i => f v[i]

/-- A field of a word: `len` bits from bit `lo`, as a number. -/
def fld {w : Nat} (x : BitVec w) (lo len : Nat) : Nat := (x.toNat >>> lo) % 2 ^ len

/-! ### sparse bytes -/

/-- The byte at an address, `d` of the address where none is listed. -/
def cellGet (d : Nat → Byte) : List Host.Cell → Nat → Byte
  | [], x => d x
  | (a, v) :: t, x => if x = a then v else if x < a then d x else cellGet d t x

/-- One byte written; writing the value an unlisted address reads as removes the entry. -/
def cellPut (d : Nat → Byte) : List Host.Cell → Nat → Byte → List Host.Cell
  | [], x, v => if v = d x then [] else [(x, v)]
  | (a, w) :: t, x, v =>
    if x < a then (if v = d x then (a, w) :: t else (x, v) :: (a, w) :: t)
    else if x = a then (if v = d x then t else (x, v) :: t)
    else (a, w) :: cellPut d t x v

/-- Bytes written from an address upward. -/
def cellWrite (d : Nat → Byte) : List Host.Cell → Nat → List Byte → List Host.Cell
  | m, _, [] => m
  | m, a, b :: t => cellWrite d (cellPut d m a b) (a + 1) t

/-- `len` bytes read from an address upward. -/
def cellRead (d : Nat → Byte) (m : List Host.Cell) : Nat → Nat → List Byte
  | _, 0 => []
  | a, len + 1 => cellGet d m a :: cellRead d m (a + 1) len

/-- Every byte of a range takes the value an unlisted address reads as. -/
def cellClear (m : List Host.Cell) (a len : Nat) : List Host.Cell :=
  m.filter fun c => !(decide (a ≤ c.1) && decide (c.1 < a + len))

/-- The canonical form: addresses strictly rising and no entry equal to what an unlisted address reads as. -/
def cellWf (d : Nat → Byte) : List Host.Cell → Bool
  | [] => true
  | [(a, v)] => v != d a
  | (a, v) :: (b, w) :: t => v != d a && decide (a < b) && cellWf d ((b, w) :: t)

/-- Zeros of a fixed size, the value of a WO object too (R9, R288). -/
def zeros (n : Nat) : List Byte := List.replicate n 0
/-- Bytes padded with zeros to a size. -/
def padTo (n : Nat) (l : List Byte) : List Byte := l ++ zeros (n - l.length)

/-- What an unlisted byte of field memory reads as: zero, as the boot writes it (Table 18-5, log entry 5). -/
def fmReset (_ : Nat) : Byte := 0

/-- What an unlisted byte of flash reads as: erased (log entry 5). -/
def flashReset (_ : Nat) : Byte := 0xFF

/-! ### CRC -/

/-- A CRC of the menu (Table 15-6) or a custom one (R333). -/
structure CrcSpec where
  width : Nat
  poly : U64
  init : U64
  refIn : Bool
  refOut : Bool
  xorOut : U64
  deriving DecidableEq, Repr, Inhabited

def CrcSpec.mask (c : CrcSpec) : U64 := BitVec.ofNat 64 (2 ^ c.width - 1)

def crc8 : CrcSpec := ⟨8, 0x2F, 0xFF, false, false, 0xFF⟩
def crc16 : CrcSpec := ⟨16, 0x1021, 0xFFFF, false, false, 0⟩
def crc32 : CrcSpec := ⟨32, 0x04C11DB7, 0xFFFFFFFF, true, true, 0xFFFFFFFF⟩
def crc32c : CrcSpec := ⟨32, 0x1EDC6F41, 0xFFFFFFFF, true, true, 0xFFFFFFFF⟩
def crc64 : CrcSpec :=
  ⟨64, 0x42F0E1EBA9EA3693, 0xFFFFFFFFFFFFFFFF, true, true, 0xFFFFFFFFFFFFFFFF⟩

/-- The low `w` bits of a value in reverse order. -/
def reflect (x w : Nat) : Nat := (List.range w).foldl (fun acc i => 2 * acc + (x >>> i) % 2) 0

/-- One message bit into the register (R327). -/
def crcBit (c : CrcSpec) (reg : U64) (d : Bool) : U64 :=
  let fb := xor (reg.getLsbD (c.width - 1)) d
  let sh := (reg <<< 1) &&& c.mask
  if fb then sh ^^^ (c.poly &&& c.mask) else sh

/-- One message byte into the register (R327). -/
def crcByte (c : CrcSpec) (reg : U64) (b : Byte) : U64 :=
  let d : Nat := if c.refIn then reflect b.toNat 8 else b.toNat
  [7, 6, 5, 4, 3, 2, 1, 0].foldl (fun r i => crcBit c r (d.testBit i)) reg

def crcInit (c : CrcSpec) : U64 := c.init &&& c.mask
def crcFeed (c : CrcSpec) (reg : U64) (l : List Byte) : U64 := l.foldl (crcByte c) reg

/-- Reflection and final XOR (R327). -/
def crcFinish (c : CrcSpec) (reg : U64) : U64 :=
  ((if c.refOut then BitVec.ofNat 64 (reflect reg.toNat c.width) else reg) ^^^ c.xorOut) &&& c.mask

/-- The CRC of a byte string. -/
def crcOf (c : CrcSpec) (l : List Byte) : U64 := crcFinish c (crcFeed c (crcInit c) l)

def crc32cOf (l : List Byte) : U32 := (crcOf crc32c l).setWidth 32
def crc32Of (l : List Byte) : U32 := (crcOf crc32 l).setWidth 32
def crc16Of (l : List Byte) : U16 := (crcOf crc16 l).setWidth 16

/-- The fold of R228. -/
def fold32 (n : U32) : U32 := n * 0x9E3779B1

end Sys2Proof.Machine
end

