-- ==== Sys2Proof/Machine/Crypto.lean ====
section
/-!
DEFINITION. Machine/Crypto.lean: SHA-256 and the verification of an ECDSA signature on P-256, which R129, R256 and
R380 name without giving their arithmetic. PRESUMED (log entry 10): FIPS 180-4 and FIPS 186-4.
-/
namespace Sys2Proof.Machine

/-- The first 32 fraction bits of the `r`-th root of `p`, found bit by bit from the top. -/
def rootBits (r p : Nat) : U32 :=
  BitVec.ofNat 32 ((List.range 37).foldr (fun i x => if (x + 2 ^ i) ^ r ≤ p * 2 ^ (32 * r) then x + 2 ^ i else x) 0)

/-- The primes below 312, of which there are 64. -/
def shaPrimes : List Nat := (List.range 312).filter fun n => 1 < n && ((List.range n).drop 2).all fun d => n % d != 0

/-- Round constants: cube roots of the primes; the first chaining value: square roots of the first eight. -/
def shaConstants : List U32 := shaPrimes.map (rootBits 3)
def shaStart : List U32 := (shaPrimes.take 8).map (rootBits 2)

/-- Big-endian value of a byte string. -/
def be (l : List Byte) : Nat := l.foldl (fun acc b => 256 * acc + b.toNat) 0
/-- The `k` low bytes of `n`, big-endian. -/
def beBytes (k n : Nat) : List Byte := (leBytes k n).reverse

/-- The XOR of a word turned right by each amount, with a last term of its own. -/
def mixTurns (turns : List Nat) (last x : U32) : U32 := turns.foldl (fun acc k => acc ^^^ x.rotateRight k) last

/-- The word that enters a 16-word window of the schedule as its first word leaves. -/
def nextWord (win : List U32) : U32 :=
  let old := win.getD 1 0
  let recent := win.getD 14 0
  win.getD 0 0 + win.getD 9 0 + mixTurns [7, 18] (old >>> 3) old + mixTurns [17, 19] (recent >>> 10) recent

/-- The eight working words as two halves. -/
structure ShaWords where
  lo : U32 × U32 × U32 × U32
  hi : U32 × U32 × U32 × U32

/-- One round with the sum of its constant and its schedule word. -/
def ShaWords.turn (kw : U32) (s : ShaWords) : ShaWords :=
  let (a, b, c, d) := s.lo
  let (e, f, g, h) := s.hi
  let up := kw + h + (g ^^^ (e &&& (f ^^^ g))) + mixTurns [6, 11, 25] 0 e
  let down := ((a &&& (b ||| c)) ||| (b &&& c)) + mixTurns [2, 13, 22] 0 a
  ⟨(up + down, a, b, c), (d + up, e, f, g)⟩

/-- The rounds over a list of constants, the window of the schedule sliding by one word each. -/
def shaRounds : List U32 → List U32 → ShaWords → ShaWords
  | [], _, s => s
  | k :: ks, win, s => shaRounds ks (win.drop 1 ++ [nextWord win]) (s.turn (k + win.getD 0 0))

/-- One 64-byte block into the chaining value. -/
def shaBlock (h : List U32) (block : List Byte) : List U32 :=
  let x (i : Nat) : U32 := h.getD i 0
  let win := (List.range 16).map fun i => BitVec.ofNat 32 (be (slice block (4 * i) 4))
  let r := shaRounds shaConstants win ⟨(x 0, x 1, x 2, x 3), (x 4, x 5, x 6, x 7)⟩
  [x 0 + r.lo.1, x 1 + r.lo.2.1, x 2 + r.lo.2.2.1, x 3 + r.lo.2.2.2,
   x 4 + r.hi.1, x 5 + r.hi.2.1, x 6 + r.hi.2.2.1, x 7 + r.hi.2.2.2]

/-- A message cut into blocks of 64 bytes, as many as `k` says. -/
def shaChain : Nat → List Byte → List U32 → List U32
  | 0, _, h => h
  | k + 1, m, h => shaChain k (m.drop 64) (shaBlock h (m.take 64))

/-- SHA-256 of a byte string: a 0x80, zeros up to 8 short of a block, and the length in bits end the message. -/
def sha256 (m : List Byte) : List Byte :=
  let zeros := 63 - (m.length + 8) % 64
  let whole := m ++ 0x80 :: List.replicate zeros 0 ++ beBytes 8 (8 * m.length)
  (shaChain (whole.length / 64) whole shaStart).flatMap fun w => beBytes 4 w.toNat

def p256P : Nat := 0xffffffff00000001000000000000000000000000ffffffffffffffffffffffff
def p256N : Nat := 0xffffffff00000000ffffffffffffffffbce6faada7179e84f3b9cac2fc632551
def p256B : Nat := 0x5ac635d8aa3a93e7b3ebbd55769886bc651d06b0cc53b0f63bce3c3e27d2604b
def p256G : Nat × Nat :=
  (0x6b17d1f2e12c4247f8bce6e563a440f277037d812deb33a0f4a13945d898c296,
   0x4fe342e2fe1a7f9b8ee7eb4a7c0f9e162bce33576b315ececbb6406837bf51f5)

/-- `a ^ e` modulo `m`, over the 256 bits of `e`. -/
def powMod (m a e : Nat) : Nat :=
  (List.range 256).foldl
    (fun acc i => let sq := acc * acc % m; if e.testBit (255 - i) then sq * a % m else sq) 1

def invMod (m a : Nat) : Nat := powMod m (a % m) (m - 2)

/-- Addition of points of P-256; none is the point at infinity. -/
def ecAdd : Option (Nat × Nat) → Option (Nat × Nat) → Option (Nat × Nat)
  | none, q => q
  | p, none => p
  | some (x1, y1), some (x2, y2) =>
    let m := p256P
    if x1 = x2 ∧ (y1 + y2) % m = 0 then none
    else
      let l := if x1 = x2 then (3 * x1 * x1 + (m - 3)) * invMod m (2 * y1) % m
               else (y2 + m - y1) * invMod m (x2 + m - x1) % m
      let x3 := (l * l + 2 * m - x1 - x2) % m
      some (x3, (l * (x1 + m - x3) + m - y1) % m)

def ecMul (k : Nat) (p : Nat × Nat) : Option (Nat × Nat) :=
  (List.range 256).foldl
    (fun acc i => let d := ecAdd acc acc; if k.testBit (255 - i) then ecAdd d (some p) else d) none

/-- Verification of a signature (r then s, big-endian) over a digest with a public key (X then Y, big-endian). -/
def ecdsaOk (key digest sig : List Byte) : Bool :=
  let x := be (key.take 32); let y := be ((key.drop 32).take 32)
  let r := be (sig.take 32); let s := be ((sig.drop 32).take 32)
  let onCurve := decide (x < p256P) && decide (y < p256P) &&
    (y * y % p256P == (x * x * x + (p256P - 3) * x + p256B) % p256P)
  if !onCurve || r = 0 || s = 0 || decide (p256N ≤ r) || decide (p256N ≤ s) then false
  else
    let w := invMod p256N s
    let u1 := be digest * w % p256N
    let u2 := r * w % p256N
    match ecAdd (ecMul u1 p256G) (ecMul u2 (x, y)) with
    | none => false
    | some (x1, _) => x1 % p256N == r

end Sys2Proof.Machine
end

