-- ==== Sys2Proof/Config.lean ====
section
/-!
DEFINITION. Config.lean: the values the spec leaves open, as constants without a body. A free value is one of these
applied to the counter State.freeCount, so nothing can be proved of the value itself (log entry 3).
-/
namespace Sys2Proof.Config

/-- What one steering of the time base adds from then on for each CORE cycle, in 2^-32 ns: R300 has the device steer rate and
offset without a step and gives no law (log entry 7). -/
opaque steerRate : Nat → Int

/-- A clock of this identity and of the device's own priority1 loses against the device: the spec does not give the fields that
the best master clock algorithm compares between priority1 and the identity (R300, log entry 29). -/
opaque masterTie : BitVec 64 → Bool

/-- Of two other clocks of one priority1, the first identity's goes before the second's (R300, log entry 29). -/
opaque masterFirst : BitVec 64 → BitVec 64 → Bool

/-- A byte of a Cairn region whose layout the spec does not give (Table 18-6), by draw and address (log entry 8). -/
opaque cairnByte : Nat → Nat → Byte

/-- A byte of the calibration area of flash between the start of a CALSET write and its good end: the spec gives it no
value (log entry 9). -/
opaque flashNoise : Nat → Byte

/-- A byte that a read of a table meets in an uncorrectable field-memory word, by address: R272 gives its handling to the
reader and no value (log entry 99). -/
opaque uncorrectableByte : Nat → Byte

/-- An `int32` of a formula whose exact value lies outside I32, by that value (R209, log entry 23). -/
opaque int32Overflow : Int → BitVec 32

/-- A `uint32` of a formula whose exact value lies outside U32, by that value (R199, log entry 23). -/
opaque uint32Overflow : Nat → BitVec 32

/-- The mA of a LINEAR11 word whose value is negative, fractional or beyond U32 (R213, log entry 24). -/
opaque linear11Ma : BitVec 16 → BitVec 32

/-- What the outside supplies to the boot that follows a RESET_CMD written by a generic WRITE, by draw (log entry 25). -/
opaque bootEnv : Nat → BootEnv

/-- Bytes that a DMA descriptor has moved when a generic WRITE of CH_CTRL stops it, by draw (log entry 25). -/
opaque movedBytes : Nat → Nat

/-- Clock identity of the device as grandmaster, by its MAC address: the spec does not give the mapping (log entry 29). -/
opaque clockIdentity : BitVec 64 → BitVec 64

end Sys2Proof.Config
end

