-- ==== Sys2Proof/Machine/State.lean ====
section
/-!
DEFINITION. Machine/State.lean: the state of the block as plain data, one structure per part of the spec, every
field with its value right after reset (State.reset is the structure of all these defaults), and the reasons a
command can stop. A default whose docstring carries a mark is not given by the spec (notes/assumptions).
-/
namespace Sys2Proof.Machine

/-- Lamp states (Table 0-2). -/
inductive LampState where
  | off | start | service | fallback | limp | parked | test | recovery
  deriving DecidableEq, Repr, Inhabited

/-- Power states (Table 0-3). -/
inductive PowerState where
  | run | idle | sleep | deep | dew | off
  deriving DecidableEq, Repr, Inhabited

/-- Bank states (Table 6-3). -/
inductive BankState where
  | empty | opened | verifying | valid | failed | active
  deriving DecidableEq, Repr, Inhabited

/-- Pack states (Table 6-15). -/
inductive PackState where
  | idle | opened | loading | loaded | activating | failed
  deriving DecidableEq, Repr, Inhabited

/-- Svarn-E link states (Table 8-16). -/
inductive LinkState where
  | down | training | up | lost | failed
  deriving DecidableEq, Repr, Inhabited

/-- Light sources of a band (R235, R243): none, Sward, Hedgerow. -/
inductive Source where
  | dark | sward | hedgerow
  deriving DecidableEq, Repr, Inhabited

/-- The long operations of Table 13-7. -/
inductive LongOp where
  | activate | store | calset
  deriving DecidableEq, Repr, Inhabited

/-- A layer configuration: the objects of B + 0x0 and B + 0x1 (Table 3-5). -/
structure LayerConfig where
  cfg : U32 := 0xFF
  bufAddr : U32 := 0
  stride : U32 := 0
  width : U16 := 0
  height : U16 := 0
  paletteAddr : U32 := 0
  fill : U32 := 0
  placeU : U32 := 0
  placeV : U32 := 0
  stepU : U16 := 4096
  stepV : U16 := 4096
  deriving DecidableEq, Repr, Inhabited

/-- A snapshot of a commit (R53): the configuration with its tag and gate. -/
structure Snapshot where
  config : LayerConfig := {}
  tag : U16 := 0
  gateKind : BitVec 4 := 0
  gateNum : BitVec 4 := 0
  /-- members of the group commit that took it, 0 for a per-layer commit (R57) -/
  group : Byte := 0
  /-- the commit is one of the schedule's (R138, R139) -/
  scheduled : Bool := false
  deriving DecidableEq, Repr, Inhabited

/-- The inputs of a check from outside the snapshot, as they stood before the landing edge (R53): ESSENTIAL_MASK,
CTAB_VALID and the band span of each tile with a valid mesh. -/
structure CheckInputs where
  essential : Byte := 0
  ctabValid : U32 := 0
  span0 : Option U16 := none
  span1 : Option U16 := none
  deriving DecidableEq, Repr, Inhabited

/-- A snapshot under check: the gate event recorded during the check with its error flag (R55), the edge at which
the check ends, and whether a mesh swap has overtaken it (R61). -/
structure Check where
  snap : Snapshot := {}
  gate : Option Bool := none
  inputs : CheckInputs := {}
  due : Nat := 0
  overtaken : Bool := false
  deriving DecidableEq, Repr, Inhabited

/-- A buffer lease (R65): the range start, its length, the palette range of an I8 layer, tag and first frame. -/
structure Lease where
  addr : U32
  length : Nat
  palette : Option U32
  tag : U16
  first : U32
  deriving DecidableEq, Repr

/-- One layer (chapter 3, R155 to R157, R149). -/
structure Layer where
  staging : LayerConfig := {}
  committed : LayerConfig := {}
  /-- a hand-over of an enabled configuration has taken place and stands (VALID_BUF without the fence) -/
  hasBuffer : Bool := false
  pending : Option Snapshot := none
  /-- the pending snapshot is READY (WAITING otherwise) -/
  ready : Bool := false
  check : Option Check := none
  result : Byte := 0
  lastTag : U16 := 0
  edited : Bool := false
  frameOfEffect : U32 := 0
  notReadyCount : U32 := 0
  refusalCount : U32 := 0
  leaseOverwriteCount : U32 := 0
  lease : Option Lease := none
  releasedAddr : U32 := 0
  releasedTag : U16 := 0
  releasedLast : U32 := 0
  /-- a not-ready episode is in progress (R62) -/
  notReadyEpisode : Bool := false
  /-- a leased range has been written in this frame (R67) -/
  overwritten : Bool := false
  /-- palette RAM, 1 KiB once copied (R49) -/
  palette : List Byte := []
  /-- the palette copy met an uncorrectable word (R155) -/
  paletteBad : Bool := false
  underrunCount : U32 := 0
  underrunThisFrame : Bool := false
  /-- consecutive frames with an underrun, the present one not counted until it ends (R156) -/
  underrunRun : Nat := 0
  flipTime : U64 := 0
  deriving DecidableEq, Repr, Inhabited

/-- The group commit objects (R57, 0x2010). -/
structure Group where
  mask : Byte := 0
  result : Byte := 0
  deriving DecidableEq, Repr, Inhabited

/-- One version of a glare box (R95, Table 5-3), its capture time, the CORE cycle of its acceptance, and the number
of gate samples taken before it became visible (R96). -/
structure BoxVersion where
  cls : BitVec 3
  range : Byte
  azLeft : U16
  azRight : U16
  elTop : U16
  elBottom : U16
  velAz : Byte
  velEl : Byte
  margin : Byte
  capture : U64
  acceptedAt : Nat
  sinceSample : Nat
  deriving DecidableEq, Repr

/-- A RETAIN rectangle in fine steps (R96). -/
structure RetainBox where
  left : Int
  right : Int
  bottom : Int
  top : Int
  fullHeight : Bool
  core : U16
  deriving DecidableEq, Repr

/-- The stamp unit (chapter 5). -/
structure Stamp where
  live : Vector (Option BoxVersion) 64 := .replicate 64 none
  ticket : Vector (Option BoxVersion) 64 := .replicate 64 none
  retain : Vector (Option RetainBox) 64 := .replicate 64 none
  /-- LIVE and RETAIN as the last band gate sampled them (R107) -/
  gateLive : Vector (Option BoxVersion) 64 := .replicate 64 none
  gateRetain : Vector (Option RetainBox) 64 := .replicate 64 none
  samples : Nat := 0
  /-- the low-beam forcing of R110 is applied -/
  forcing : Bool := false
  status : U32 := 0xA0000000
  lastSeq : U16 := 0
  accepted : U32 := 0
  dropped : U32 := 0
  boxRejected : U32 := 0
  staleCount : U32 := 0
  /-- the CORE cycle of the last accepted QUICK packet, none before the first (QUICK_AGE, R98) -/
  acceptedAt : Option Nat := none
  /-- the channel is stale (R110) -/
  stale : Bool := true
  /-- the missing stamp table has been reported since reset (R103) -/
  noTableReported : Bool := false
  boxHold : U16 := 100
  quickStale : U16 := 100
  attenFloor : U16 := 655
  extrapLimit : U16 := 20
  boxFrame : Byte := 0
  deriving DecidableEq, Repr, Inhabited

/-- Aim, leveling and what the warp unit publishes per tile (chapter 2). -/
structure Warp where
  aimAz : Vector U16 2 := .replicate 2 0
  aimEl : Vector U16 2 := .replicate 2 0
  status : Vector U32 2 := .replicate 2 0
  oocCount : Vector U32 2 := .replicate 2 0
  /-- out-of-canvas pixels counted so far in subframe H -/
  oocRun : Vector Nat 2 := .replicate 2 0
  lastRefusal : Vector Byte 2 := .replicate 2 0
  level : U16 := 0
  levelApplied : U16 := 0
  levelSlew : U16 := 0
  levelTimeout : U16 := 0
  levelStaleValue : U16 := 512
  levelClampCount : U32 := 0
  /-- the CORE cycle at which a leveling value was last accepted (LEVEL_AGE, R35) -/
  levelAt : Option Nat := none
  levelEpisode : Bool := false
  residueErr : U32 := 0
  deriving DecidableEq, Repr, Inhabited

/-- One bank pair (chapter 6). -/
structure BankPair where
  bank0 : BankState := .empty
  bank1 : BankState := .empty
  pending : Bool := false
  lastResult : Byte := 0
  lastDefer : BitVec 4 := 0
  entry : List Byte := List.replicate 32 0
  deferCount : U32 := 0
  swapCount : U32 := 0
  frameOfSwap : U32 := 0
  /-- consecutive ticket closes at which the pending swap was deferred, and whether R123 reported it -/
  deferRun : Nat := 0
  deferReported : Bool := false
  /-- the pending request is a member of the activation group (R134) -/
  inGroup : Bool := false
  /-- the verification asked for last is that of a pack's directory entry (R121, R366) -/
  byPack : Bool := false
  /-- the verification ended between a supply warning and recovery and is to run again (R366) -/
  reverify : Bool := false
  /-- the CRC-32C that the builder recorded for each calibration bank (R125) -/
  builderCrc0 : U32 := 0
  builderCrc1 : U32 := 0
  /-- valid colour tables of each bank of pair 4 (R51) -/
  ctab0 : U32 := 0
  ctab1 : U32 := 0
  deriving DecidableEq, Repr, Inhabited

/-- A directory entry as the device holds it after reading a pack (Table 6-7). -/
structure DirEntry where
  kind : Byte
  target : Byte
  offset : U32
  length : U32
  dest : U32
  crc : U32
  version : U16
  reserved : Bool
  deriving DecidableEq, Repr

/-- Scene packs (R130 to R136). -/
structure Pack where
  state : PackState := .idle
  result : Byte := 0
  entry : Byte := 0xFF
  mixed : Bool := false
  activeId : U32 := 0
  loadedId : U32 := 0
  activeVersion : U16 := 0
  loadedVersion : U16 := 0
  signedOnly : Bool := true
  activateTimeout : U16 := 60
  /-- ticket closes since the ACTIVATE in progress (R135) -/
  activateCloses : Nat := 0
  /-- directory of the pack last loaded -/
  directory : List DirEntry := []
  /-- flash slot of the load in progress; none for a host load -/
  source : Option Byte := none
  /-- the load or activation in progress is that of the boot pack (R383) -/
  boot : Bool := false
  tableWriteRefused : U32 := 0
  /-- a STREAM or BULK write has been refused in this frame (R116) -/
  refusedThisFrame : Bool := false
  deferLimit : U16 := 240
  deriving DecidableEq, Repr, Inhabited

/-- The commit schedule player (R137 to R139). -/
structure Sched where
  running : Bool := false
  started : Bool := false
  stopped : Bool := false
  nextEntry : Nat := 0
  result : Byte := 0
  owned : Byte := 0
  /-- frame at which the present pass begins -/
  passStart : U32 := 0
  /-- layers of the scheduled commit whose check has not ended -/
  inFlight : Byte := 0
  deriving DecidableEq, Repr, Inhabited

/-- What the band gate of a frame slot samples (R107, R110), as it stood before the CORE edge of that slot. -/
structure GateSample where
  /-- the frame slot it belongs to -/
  slot : Nat
  live : Vector (Option BoxVersion) 64
  retain : Vector (Option RetainBox) 64
  stale : Bool
  deriving DecidableEq, Repr

/-- The frame grid and the ticket (chapter 7). Times on the grid are in 1/204 ns from reset (R142). -/
structure Frame where
  /-- the grid runs (from the boot's GRID stage on, in power state RUN) -/
  running : Bool := false
  /-- a ticket has closed since reset -/
  closed : Bool := false
  number : U32 := 0
  frameDiv : Byte := 40
  /-- FRAME_DIV in the ticket -/
  divUsed : Byte := 40
  /-- FRAME_DIV as the last frame slot start saw it (R141) -/
  divSeen : Byte := 40
  /-- the values written to FRAME_DIV since the last frame slot start, in order (R173) -/
  divWrites : List Byte := []
  /-- grid time of the current ticket, corrections of frame slot 0 included -/
  gridTime : Int := 0
  /-- CORE cycle of the current ticket close -/
  closeAt : Nat := 0
  slot : Nat := 0
  ticketTime : U64 := 0
  firstLight : U64 := 0
  alignMode : Byte := 0
  alignUsed : Byte := 0
  epoch : U64 := 0
  epochUsed : U64 := 0
  fsyncOut : Bool := false
  fsyncDelay : U16 := 0
  phaseSlew : U16 := 2000
  alignTol : U16 := 1000
  phaseError : U32 := 0
  aligned : Bool := false
  tbLockedSeen : Bool := false
  slewing : Bool := false
  relockCount : U32 := 0
  fsyncRejected : U32 := 0
  /-- time of the last accepted FSYNC edge, in CORE cycles; none before one and after a loss -/
  fsyncAt : Option Nat := none
  fsyncSeen : Bool := false
  /-- FSYNC_SEEN as the last ticket close published it (Table 7-8) -/
  fsyncShown : Bool := false
  /-- CORE cycles spent unlocked in ALIGN_MODE 0x01, up to `unlockedAt` -/
  unlockedCycles : Nat := 0
  unlockedAt : Nat := 0
  /-- the FSYNC pin drives its pulse from this ticket close (R151) -/
  fsyncPulse : Bool := false
  underrunLimit : Byte := 3
  ditherMode : Byte := 0
  ditherUsed : Byte := 0
  boxFrameUsed : Byte := 0
  aimAzUsed : Vector U16 2 := .replicate 2 0
  aimElUsed : Vector U16 2 := .replicate 2 0
  /-- the ticket's selection -/
  selection : Source := .dark
  /-- band renders run; step 1 of a power-state entry stops them (R354) -/
  rendering : Bool := true
  /-- late bands have been reported in this frame (R145) -/
  lateReported : Bool := false
  /-- the grid has started and its first ticket close is still to come -/
  fresh : Bool := true
  /-- frame slot 0 of this frame was lengthened by a jump, and the frame number that follows it in ALIGN_MODE 0x01 -/
  jumped : Bool := false
  nextNumber : Option U32 := none
  /-- number of the ticket before the current one (R66) -/
  prevNumber : U32 := 0
  /-- ticket closes that the clock has carried out before their TICKET_CLOSE was sent (R11, log entry 6) -/
  closesTaken : Nat := 0
  /-- the gate sample of the next band render, once the clock has reached its slot edge before FRAME_SLOT_START (R107) -/
  gate : Option GateSample := none
  deriving DecidableEq, Repr, Inhabited

/-- The time base (R300, R301). -/
structure TimeBase where
  /-- time-base ns at CORE cycle 0; the count is this plus 1.25 ns per cycle -/
  origin : Int := 0
  locked : Bool := false
  everLocked : Bool := false
  lockRun : Nat := 0
  offset : U32 := 0
  gmIdentity : U64 := 0
  syncAt : Option Nat := none
  intervalLog2 : Int := -3
  priority1 : Byte := 255
  logSync : Byte := 0xFD
  lockTol : U16 := 500
  isGrandmaster : Bool := false
  /-- priority1 of the clock that the device follows (R300) -/
  gmPriority : Byte := 255
  /-- Sync messages sent as grandmaster, and the CORE cycle of the last one -/
  syncsSent : Nat := 0
  sentAt : Option Nat := none
  /-- what the steering adds for each CORE cycle after `since`, in 2^-32 ns (R300) -/
  rate : Int := 0
  since : Nat := 0
  deriving DecidableEq, Repr, Inhabited

/-- An EVENT as queued: code, sequence, 16-byte body (R170). -/
structure Event where
  code : Byte
  seq : U16
  body : List Byte
  deriving DecidableEq, Repr

/-- A response PDU and where it goes (Table 13-4). -/
structure Response where
  cmd : Byte
  tid : Byte
  index : U16
  sub : Byte
  seg : Byte
  data : List Byte
  dest : BitVec 10
  envelope : Envelope
  deriving DecidableEq, Repr

/-- A frame as it leaves the port (R285, R286): the CAN FD identifier and data field; the destination, tag and payload of the
Ethernet frame; or the payload of the OBJ packet. -/
inductive Wire where
  | can (id : BitVec 29) (data : List Byte)
  | t1s (toMac : BitVec 48) (tag : Option U32) (payload : List Byte)
  | obj (payload : List Byte)
  deriving DecidableEq, Repr

/-- A READBACK packet: INFO, A and the bytes (R170, R323). -/
structure Readback where
  info : U16
  addr : U32
  bytes : List Byte
  deriving DecidableEq, Repr

/-- What the Svarn-H transmitter sent last. -/
inductive Outbound where
  | reply (r : Response)
  | event (e : Event)
  | readback (b : Readback)
  deriving DecidableEq, Repr

/-- One stream window (R165 to R167). -/
structure Window where
  base : U32 := 0
  size : U32 := 0
  seq : U16 := 0
  error : Bool := false
  opened : Bool := false
  errCount : U32 := 0
  eobCount : U32 := 0
  deriving DecidableEq, Repr, Inhabited

/-- The Svarn-H link (chapter 8). -/
structure SvarnH where
  txPs : BitVec 2 := 0
  rxPs : BitVec 2 := 0
  linkUp : Bool := false
  lanesLocked : BitVec 4 := 0
  crcErr : U32 := 0
  frameErr : U32 := 0
  eventLost : U32 := 0
  retrainCount : U32 := 0
  laneErr : Vector U32 4 := .replicate 4 0
  windows : Vector Window 16 := .replicate 16 {}
  events : List Event := []
  eventSeq : U16 := 0
  replies : List Response := []
  readbacks : List Readback := []
  sent : Option Outbound := none
  deriving DecidableEq, Repr, Inhabited

/-- A CMD packet to a tile (Table 8-7): OPCODE, TAG, parameters. -/
structure TileCmd where
  opcode : Byte
  tag : U16
  params : List Byte
  deriving DecidableEq, Repr

/-- A SYNC packet (R171). -/
structure Sync where
  slot : Byte
  latch : Byte
  frame : U32
  deriving DecidableEq, Repr

/-- A BAND packet (R172). -/
structure Band where
  band : BitVec 5
  sub : Bool
  frame : U32
  codes : List Byte
  source : Source
  deriving DecidableEq, Repr

/-- An ECHO that Stile awaits (R229): the SYNC's LATCH, frame, start, and the expected value. -/
structure EchoWait where
  latch : Byte
  frame : U32
  at_ : Nat
  expected : U32
  source : Source
  /-- an ECHO came in time: it matched or not -/
  got : Option Bool := none
  deriving DecidableEq, Repr

/-- One Svarn-E link and what the device holds of its tile (chapter 8). -/
structure Link where
  state : LinkState := .down
  trainResult : Byte := 0
  tileState : BitVec 4 := 0
  /-- FWD_PS and RET_PS of SVE_CTRL as written: the states that the lanes of a link that is UP take -/
  ctrl : U32 := 0
  fwdPs : BitVec 2 := 2
  retPs : BitVec 2 := 2
  lossTimeout : U16 := 1000
  trainAttempts : Byte := 3
  retCrcErr : U32 := 0
  retLaneErr : U32 := 0
  fwdDropped : U32 := 0
  retrainCount : U32 := 0
  /-- attempts of the present series, and the wait before the next one -/
  attempt : Nat := 0
  waiting : Bool := false
  /-- CORE cycle at which the last attempt failed (R178) -/
  failedAt : Nat := 0
  /-- the training that brings a lane back from L2 is in progress (R183) -/
  leavesL2 : Bool := false
  everUp : Bool := false
  /-- no Sward service until reset (R179) -/
  denied : Bool := false
  lastReturn : Nat := 0
  /-- the accepted descriptor, 4096 bytes (R190) -/
  descriptor : List Byte := []
  cmds : List TileCmd := []
  cmdTag : U16 := 1
  /-- CMD opcode and slots since it, for the skip of R209 -/
  slotsSinceCmd : Nat := 34
  /-- the device has sent RUN, and the first ticket close after RUN has passed (R402) -/
  running : Bool := false
  lit : Bool := false
  /-- sectors whose switches the device has commanded closed -/
  sectorsOn : U16 := 0xFFFF
  /-- CORE cycle of the last RESUME while a LIMP still counts as expected (R180) -/
  resumeAt : Option Nat := none
  limpExpected : Bool := false
  /-- RUN is due once STATUS reports PARK after the RESUME of a thermal restart (R348) -/
  runDue : Bool := false
  /-- the stuck-on list is whole (replayed since training, R194, R402) -/
  replayed : Bool := false
  overTemp : Bool := false
  sync : Option Sync := none
  band : Option Band := none
  echo : Option EchoWait := none
  deriving DecidableEq, Repr, Inhabited

/-- A pixel or emitter by position (Table 8-10). -/
structure Pos where
  x : BitVec 11
  y : BitVec 9
  e : BitVec 2
  deriving DecidableEq, Repr

/-- A rebuild in progress and its inputs, as they stood at its start (R125, R199, R200): TEMP_USED, the aa of each
sector, the codes other than NORMAL of the verified map by word index, whether the calibration set passes, and the
parameters of the arithmetic. -/
structure CalBuild where
  temp : Int
  aa : List Nat
  codes : List (Nat × Nat)
  calset : Bool
  dimRetire : Nat
  share : Nat
  tcoef : Nat
  deriving DecidableEq, Repr

/-- Fault map, calibration and ageing of one tile (chapter 9). -/
structure Diag where
  version : U16 := 0
  listFull : Bool := false
  stuckListFull : Bool := false
  commitFailed : Bool := false
  copying : Bool := false
  valid : Bool := false
  /-- the commit in progress is Gorse's repeat after a mismatch (R195) -/
  repeated : Bool := false
  /-- a commit has succeeded since the tile trained (trigger 0x7) -/
  committed : Bool := false
  crc : U32 := 0
  /-- CRC-32C formed by the copy in progress (R195) -/
  copyCrc : U32 := 0
  /-- a commit is due once the copy in progress has ended -/
  commitDue : Bool := false
  /-- codes other than NORMAL that the Cairn list stands for, by word index: those of the last verified commit and of a replay
  since (R196) -/
  good : List (Nat × Nat) := []
  /-- codes other than NORMAL of the verified map, by word index (R195, R200) -/
  verified : List (Nat × Nat) := []
  /-- `good` as the copy in progress was taken (R196) -/
  goodAtCopy : List (Nat × Nat) := []
  openCount : U32 := 0
  shortCount : U32 := 0
  stuckCount : U32 := 0
  dimCount : U32 := 0
  retiredCount : U32 := 0
  diagBad : U32 := 0
  stuck : List Pos := []
  strayFenced : U16 := 0
  gainClamped : U16 := 0
  builtClamped : U16 := 0
  lastTrigger : BitVec 4 := 0
  calsetMismatch : Bool := false
  queued : Bool := false
  building : Option CalBuild := none
  /-- a build waits for the first TEMP (R199) or for a verified map (R195) -/
  buildWait : Bool := false
  /-- the bank build has been retried once from the same inputs (R125) -/
  retried : Bool := false
  lastBuild : Option CalBuild := none
  calTemp : U16 := 0
  ageDvf : Vector U16 16 := .replicate 16 0
  ageBaseTemp : U16 := 0x8000
  /-- an ageing round waits for the VF answers of these sectors -/
  agePending : U16 := 0
  /-- the samples of the pending VF_SAMPLE are the baseline (R202) -/
  ageBaseline : Bool := false
  nextScan : BitVec 4 := 0
  /-- sectors whose DIAG_SCAN of R210 or of R197 has not ended -/
  scanTag : Option U16 := none
  scanRun : Bool := false
  /-- TAG of the scan of every sector before the first Sward service (R197), and that it has ended -/
  firstScan : Option U16 := none
  scanned : Bool := false
  deriving DecidableEq, Repr, Inhabited

/-- Current check, governor and tile temperature of one tile (R206 to R214). -/
structure Current where
  uaPerLsb : U16 := 2000
  offset : U16 := 0
  tau : U16 := 1000
  tolAbs : U32 := 150000
  tolRel : U16 := 0x1000
  pred : U32 := 0
  meas : U32 := 0
  dev : U32 := 0
  consecFail : Byte := 0
  skipped : Bool := false
  /-- comparisons that failed in a row since the run of R210 last ended -/
  limitRun : Nat := 0
  failCount : U32 := 0
  hSum : U32 := 0
  govScale : U16 := 0x8000
  /-- the scale Gorse wrote last, and the ticket closes since it was written (R19) -/
  govNext : U16 := 0x8000
  govAge : Nat := 0
  govFresh : Bool := false
  budget : U32 := 0
  pmbusLimit : U32 := 0
  derateLimit : U32 := 0
  /-- a good PMBus read holds -/
  pmbusGood : Option U32 := none
  /-- filtered prediction F in nA; none before the first slot with the link UP (R207) -/
  filter : Option Nat := none
  /-- F after the update for frame slot 17 or 51, and whether the marker skips the comparison (R209) -/
  markF : Nat := 0
  markSkip : Bool := true
  bandNow : Vector Nat 32 := .replicate 32 0
  bandNext : Option (Fin 32 × Nat) := none
  sumH : Nat := 0
  /-- QUI of the frame slot in progress -/
  quiNow : Nat := 0
  /-- the sum of the 32 H band currents, QUI at slot 67 and the scale G of the last complete frame (R212) -/
  frameSum : Nat := 0
  frameQui : Nat := 0
  frameG : Option U16 := none
  tempMax : U16 := 0x8000
  tempMean : U16 := 0x8000
  tempMissing : U32 := 0
  /-- consecutive frames without TEMP, and whether one came in this frame (R214) -/
  tempRun : Nat := 0
  tempSeen : Bool := false
  tempEpisode : Bool := false
  maxEpisode : Bool := false
  clampCount : U32 := 0
  clampRun : Nat := 0
  forcedZero : U32 := 0
  reservedFstate : U32 := 0
  deriving DecidableEq, Repr, Inhabited

/-- Parameters shared by both tiles (0x5000). -/
structure DiagCfg where
  compShare : Byte := 64
  dimRetire : Byte := 64
  scanPeriod : U16 := 1000
  agePeriod : U16 := 60
  calTstep : U16 := 50
  curFailLimit : Byte := 6
  govRise : U16 := 0x200
  tcoef : U16 := 262
  ageK : U16 := 164
  pmbusDefault : U32 := 4000
  deriving DecidableEq, Repr, Inhabited

/-- The photometric guard (chapter 10). -/
structure Guard where
  status : U32 := 0
  capFail : U32 := 0
  floorFail : U32 := 0
  strayFail : U32 := 0
  clampG : Vector U16 2 := .replicate 2 0x8000
  clampMargin : U16 := 0xE000
  shadowPass : U16 := 0
  zoneSum : Vector U64 32 := .replicate 32 0
  straySum : Vector U64 32 := .replicate 32 0
  /-- the sums being formed: road, stray of the present subframe, shadow -/
  road : Vector U64 32 := .replicate 32 0
  stray : Vector U64 32 := .replicate 32 0
  shadow : Vector U64 32 := .replicate 32 0
  /-- sectors of each tile with a listed pixel that contributed to the zone -/
  straySectors : Vector (U16 × U16) 32 := .replicate 32 (0, 0)
  capRun : Vector Nat 32 := .replicate 32 0
  floorRun : Vector Nat 32 := .replicate 32 0
  /-- consecutive cap failures of a zone while a clamp is in force on its tiles (R223) -/
  clampRun : Vector Nat 32 := .replicate 32 0
  /-- source of the last band render of the frame -/
  lastSource : Source := .dark
  sawSward : Bool := false
  sawHedgerow : Bool := false
  lastMixed : Bool := false
  /-- a shadow comparison or shadow rectangle failed in this frame (R237) -/
  shadowFail : Bool := false
  /-- the frame has carried the FALLBACK selection from its ticket -/
  shadowFrame : Bool := false
  deriving DecidableEq, Repr, Inhabited

/-- The signature of one rectangle as its bands are rendered (R227, R228). -/
structure Sig where
  reg : U32 := 0xFFFFFFFF
  frame : Option U32 := none
  uneven : Bool := false
  leftOut : Bool := false
  deriving DecidableEq, Repr, Inhabited

/-- Stile (R227 to R231). -/
structure Stile where
  frame : U32 := 0
  loaded : Bool := false
  echoDeadline : U16 := 8
  seqFaults : U32 := 0
  result : Vector U32 32 := .replicate 32 0
  miss : Vector U32 32 := .replicate 32 0
  run : Vector Nat 32 := .replicate 32 0
  echoMismatch : Vector U32 2 := .replicate 2 0
  echoLate : Vector U32 2 := .replicate 2 0
  hMiss : Vector U32 32 := .replicate 32 0
  hRun : Vector Nat 32 := .replicate 32 0
  sig : Vector Sig 32 := .replicate 32 {}
  hSig : Vector Sig 32 := .replicate 32 {}
  deriving DecidableEq, Repr, Inhabited

/-- The Hedgerow store (R232 to R237). -/
structure Hedge where
  image : List Byte := []
  locked : Bool := false
  checkOk : Bool := false
  bound : Bool := false
  lastFail : Byte := 0
  rects : Byte := 0
  imageId : U32 := 0
  crc64 : U64 := 0
  crc64Ref : U64 := 0
  recheck : U16 := 1000
  /-- the store passed every check of Table 10-12 at boot -/
  verified : Bool := false
  deriving DecidableEq, Repr, Inhabited

/-- A PRBS checker (R185): the last bits, the error-free bits in a row, its lock, and the errors of the bits at hand. -/
structure PrbsChecker where
  reg : BitVec 31 := 0
  run : Nat := 0
  locked : Bool := false
  errors : Nat := 0
  deriving DecidableEq, Repr, Inhabited

/-- Lamp state, demands and the multiplexer (chapter 11, R236). -/
structure Safety where
  lamp : LampState := .start
  power : PowerState := .run
  demand : BitVec 3 := 0
  testSource : Byte := 0
  /-- source the multiplexer passes now, and a Hedgerow or dark selection waiting for the next gate sample -/
  mux : Source := .dark
  muxNext : Option Source := none
  /-- the first Hedgerow band of START has been latched (Table 10-5) -/
  hedgeLatched : Bool := false
  /-- codes are 0 (PARKED, lamp OFF, dark TEST) -/
  parkDue : Bool := false
  /-- the first ticket close that selected Sward since reset has passed (R253) -/
  serviceSeen : Bool := false
  aliveMiss : U32 := 0
  aliveRun : Nat := 0
  /-- channel 2 writes between the L marker and frame slot 67: none, one in order, or out of order (R246) -/
  aliveWrites : Nat := 0
  aliveGood : Bool := true
  aliveOpen : Bool := false
  testCtrl : U32 := 0
  testRunning : Bool := false
  prbsErr : U32 := 0
  prbsLock : Byte := 0
  checkers : Vector PrbsChecker 8 := .replicate 8 {}
  deriving DecidableEq, Repr, Inhabited

/-- One twin-telegram copy held in the comparison window. -/
structure TwinWindow where
  seq : U16
  bytes : List Byte
  carrier : Carrier
  openedAt : Nat
  deriving DecidableEq, Repr

/-- The twin comparator (R248 to R254). -/
structure Twin where
  mode : Byte := 0
  modeUsed : Byte := 0
  window : U16 := 4000
  timeout : U16 := 50
  lastSeqCan : Option U16 := none
  lastSeqT1s : Option U16 := none
  canAt : Option Nat := none
  t1sAt : Option Nat := none
  open_ : Option TwinWindow := none
  recent : Option U16 := none
  decided : U16 := 0
  confirmed : U32 := 0
  unconfirmed : U32 := 0
  mismatch : U32 := 0
  dropped : U32 := 0
  /-- CORE cycle of the last confirmed telegram or of the start of supervision (R253) -/
  supervisedFrom : Option Nat := none
  timedOut : Bool := false
  /-- the class 1 report of R12 or R250 has been made at this start -/
  startReported : Bool := false
  deriving DecidableEq, Repr, Inhabited

/-- The password unlock (R255 to R257) and the change log (R258, R259). -/
structure Access where
  holder : Option (Carrier × BitVec 10) := none
  lastEffective : Nat := 0
  idle : U16 := 300
  generation : U32 := 0
  salt : List Byte := []
  hash : List Byte := []
  fails : BitVec 4 := 0
  lockoutFrom : Option Nat := none
  /-- FAILS and a running lockout as Cairn holds them (R257) -/
  failsStored : BitVec 4 := 0
  lockoutStored : Bool := false
  logCount : U32 := 0
  logIndex : U32 := 0
  /-- the last 4096 entries, newest first -/
  log : List (List Byte) := []
  deriving DecidableEq, Repr, Inhabited

/-- What a class 2 reaction covers (Table 12-5): layers, sectors of each tile, clamped tiles, tiles whose scale is
capped at 0x4000, and the forcing of R253. -/
structure Scope where
  layers : Byte := 0
  sectors0 : U16 := 0
  sectors1 : U16 := 0
  clamp : BitVec 2 := 0
  half : BitVec 2 := 0
  twin : Bool := false
  deriving DecidableEq, Repr, Inhabited

/-- A report in a unit's pending register (R264). `causes` are the reports it combines. -/
structure Report where
  unit : Byte
  cause : Byte
  index : Byte
  cls : Nat
  count : Nat := 1
  merged : Bool := false
  scope : Scope := {}
  causes : List (Byte × Byte × Byte × Nat) := []
  frame : U32 := 0
  slot : Byte := 0
  /-- frame of the latest report that the register holds (AGE, R265) -/
  latest : U32 := 0
  deriving DecidableEq, Repr, Inhabited

/-- One cause a record holds: unit, cause, index, class, the clean complete frames since its last report, and
whether it was reported in the frame in progress (R275, R276). -/
structure Held where
  unit : Byte
  cause : Byte
  index : Byte
  cls : Nat
  clean : Nat := 0
  seen : Bool := true
  /-- a later build has verified (the BUILD cause of Table 12-5) -/
  healed : Bool := false
  deriving DecidableEq, Repr, Inhabited

/-- A queued fault record (Table 12-2) with the collector's own data about it. -/
structure Record where
  seq : U16
  unit : Byte
  cause : Byte
  index : Byte
  count : U16
  frame : U32
  slot : Byte
  age : Byte
  cls : Nat
  clearReq : Bool := false
  inForce : Bool := false
  raised : Bool := false
  merged : Bool := false
  held : List Held := []
  scope : Scope := {}
  /-- ticket closes left in the run of the reaction (R270) -/
  runLeft : Nat := 0
  latched : Bool := false
  acked : Bool := false
  /-- the lamp has been in FALLBACK while the record was in force (R277) -/
  sawFallback : Bool := false
  /-- bits in which the CRC stored with the record differs from the CRC of its bytes (R269) -/
  crcError : U16 := 0
  deriving DecidableEq, Repr, Inhabited

/-- The fault collector (chapter 12). -/
structure Faults where
  queue : List Record := []
  pending : List Report := []
  nextSeq : U16 := 0
  lost : U32 := 0
  sel : Byte := 0
  /-- SEQ of the first record since the queue was last empty (R268) -/
  first : Option U16 := none
  heal : Byte := 8
  returnFrames : Byte := 2
  repeatLimit : Byte := 3
  histClass : Byte := 2
  ceLimit : U16 := 16
  fbLatched : Bool := false
  histCount : U32 := 0
  histIndex : U32 := 0
  /-- the last 2048 history entries, newest first -/
  history : List (List Byte) := []
  lostLogged : U32 := 0
  alertClass : Byte := 2
  spare : Vector Byte 2 := .replicate 2 0xFF
  /-- bank being copied into each spare, and a finished copy waiting for its ticket close (R274) -/
  copying : Vector Bool 2 := .replicate 2 false
  copied : Vector Bool 2 := .replicate 2 false
  ceCount : U32 := 0
  ueCount : U32 := 0
  deriving DecidableEq, Repr, Inhabited

/-- State in PD_AON that most resets keep (R375), and the pins it holds. -/
structure Aon where
  fell : Bool := false
  /-- class 3 records per unit and cause since power-on (R278) -/
  repeats : List (Byte × Byte × Nat) := []
  thermalHold : Bool := false
  /-- start of the thermal hold, and the highest raw reading since its shutdown (R350) -/
  holdFrom : Nat := 0
  tripPeak : Int := 0
  restarts : Byte := 0
  /-- reset source latched for the next boot, and consecutive PLL resets (R375, R376) -/
  source : Byte := 0
  pllResets : Nat := 0
  /-- the block is held in reset: PORST_N asserted, a supply below threshold, or a second PLL reset -/
  held : Bool := true
  /-- PORST_N is asserted -/
  porst : Bool := true
  /-- the lock loss of R373 has no record yet -/
  lockLossDue : Bool := false
  wakeOut : Bool := false
  deriving DecidableEq, Repr, Inhabited

/-- A request waiting at a port. -/
structure Request where
  r : Requester
  cmd : Byte
  d : Pdu
  /-- what the outside supplies to a RESET_CMD, and the bytes a STOP finds moved -/
  env : Option BootEnv := none
  moved : Option Nat := none
  /-- CORE cycle of its last byte (R296) -/
  arrived : Nat := 0
  deriving DecidableEq, Repr

/-- The last response sent to a node, for R290. -/
structure Answered where
  src : BitVec 10
  cmd : Byte
  tid : Byte
  index : U16
  sub : Byte
  seg : Byte
  arrived : Nat
  response : Option Response
  deriving DecidableEq, Repr

/-- A segmented transfer (R292). -/
structure Transfer where
  owner : BitVec 10
  tid : Byte
  isWrite : Bool
  index : U16
  sub : Byte
  total : Nat
  bytes : List Byte
  nextSeg : Byte
  lastAt : Nat
  envelope : Envelope
  deriving DecidableEq, Repr

/-- A request whose reply waits for a commit check, a power-state entry or a long operation. -/
inductive Awaits where
  | commit (layer : Fin 8)
  | group (mask : Byte)
  | power
  | long (op : LongOp)
  deriving DecidableEq, Repr

/-- The request in service on a port. -/
structure Service where
  q : Request
  awaits : Awaits
  startedAt : Nat
  boundMs : Nat
  deriving DecidableEq, Repr

/-- One object-access port (chapter 13). -/
structure Port where
  queue : List Request := []
  service : Option Service := none
  answered : List Answered := []
  last : Option Response := none
  /-- the last frame that the port formed -/
  wire : Option Wire := none
  transfer : Option Transfer := none
  descSel : U32 := 0x10001
  dropped : U32 := 0
  eventMask : Byte := 0x54
  eventLost : U32 := 0
  eventSeq : U16 := 0
  events : List Event := []
  sentEvent : Option Event := none
  rxOk : U32 := 0
  txOk : U32 := 0
  deriving DecidableEq, Repr, Inhabited

/-- Object access and the network controllers (chapters 13 and 14). -/
structure Net where
  can : Port := {}
  t1s : Port := {}
  svh : Port := { eventMask := 0x7E }
  /-- object access is served (R382) -/
  served : Bool := false
  /-- only the ranges of R384 are served -/
  romOnly : Bool := false
  nodeId : U16 := 1
  nodeActive : U16 := 1
  canNomRate : Byte := 0
  canDataRate : Byte := 1
  canStatus : U32 := 0
  busOffCount : U32 := 0
  plcaEnable : Bool := true
  plcaId : Byte := 1
  plcaCount : Byte := 8
  t1sStatus : U32 := 0
  fcsErr : U32 := 0
  collisions : U32 := 0
  segTimeout : U16 := 100
  deriving DecidableEq, Repr, Inhabited

/-- One DMA channel (chapter 15). -/
structure Channel where
  head : U32 := 0
  run : Bool := false
  pendingHead : Option U32 := none
  chainErr : Bool := false
  barrierWait : Bool := false
  lastErr : Byte := 0
  lastTag : U16 := 0
  cur : U32 := 0
  doneCount : U32 := 0
  badCount : U32 := 0
  chainCount : U32 := 0
  /-- the chain has ended but for the packets of its writes (R320) -/
  finishing : Bool := false
  /-- while barrierWait: bytes moved by the current descriptor and its error code -/
  moved : Nat := 0
  moveErr : Byte := 0
  deriving DecidableEq, Repr, Inhabited

/-- One check-unit channel (chapter 15). -/
structure Chk where
  cfg : U32 := 3
  addr : U32 := 0
  len : U32 := 0
  result : U64 := 0
  expect : U64 := 0
  err : Byte := 0
  alive : Byte := 0
  aliveOk : Bool := false
  aliveSeen : Bool := false
  mismatch : Bool := false
  isMatch : Bool := false
  done : Bool := false
  feedOpen : Bool := false
  busy : Bool := false
  foldN : U32 := 0
  poly : U64 := 0x1EDC6F41
  init : U64 := 0xFFFFFFFF
  xorout : U64 := 0xFFFFFFFF
  param : U16 := 0x0320
  mismatchCount : U32 := 0
  aliveErrCount : U32 := 0
  /-- the configuration and folded number sampled at the start of the job, and the register of a feed job -/
  jobCfg : U32 := 0
  jobAddr : U32 := 0
  jobLen : U32 := 0
  jobFold : U32 := 0
  jobSpec : CrcSpec := crc32c
  reg : U64 := 0
  deriving DecidableEq, Repr, Inhabited

/-- A job of check-unit channel 0 (R121, R195): the verification of a bank pair or of a fault-map copy. -/
inductive CheckJob where
  | bank (p : Fin 8)
  | fmap (n : Fin 2)
  deriving DecidableEq, Repr

/-- DMA engine, check units and the job list of check-unit channel 0 (R121). -/
structure Mgmt where
  channels : Vector Channel 8 := .replicate 8 {}
  badTotal : U32 := 0
  checks : Vector Chk 8 := .replicate 8 {}
  /-- jobs of check-unit channel 0 that have not ended, in order of request -/
  jobs : List CheckJob := []
  calsetSrc : U32 := 0
  calsetFailed : Bool := false
  calsetWriting : Bool := false
  /-- CALSET_SRC as the write in progress took it -/
  calsetFrom : U32 := 0
  calsetDigestOk : Bool := false
  /-- the write in progress has passed stage 1 (R388) -/
  calsetChecked : Bool := false
  calsetValid : Bool := false
  deriving DecidableEq, Repr, Inhabited

/-- One window comparator (R342). -/
structure Wcmp where
  cfg : U32 := 0x100
  limits : U32 := 0x0FFF0000
  run : Byte := 0
  alarmSeen : Bool := false
  alarm : Bool := false
  alarmCount : U32 := 0
  deriving DecidableEq, Repr, Inhabited

/-- The ADC (chapter 16). -/
structure Adc where
  refFault : Bool := false
  injBusy : Bool := false
  regRun : Bool := false
  ready : Bool := false
  refCode : U16 := 0
  roundCount : U32 := 0
  regLen : Byte := 4
  regSlot : Vector U16 16 :=
    #v[0x1400, 0x1500, 0x1600, 0x1700, 0, 0, 0, 0, 0, 0, 0, 0, 0, 0, 0, 0]
  /-- the round in progress: its set-up sampled at its start, and the position, 0 for the INT0 conversion -/
  roundLen : Byte := 4
  roundSlot : Vector U16 16 :=
    #v[0x1400, 0x1500, 0x1600, 0x1700, 0, 0, 0, 0, 0, 0, 0, 0, 0, 0, 0, 0]
  position : Nat := 0
  refRun : Nat := 0
  injCfg : U32 := 0x302
  injSlot : Vector U16 4 := #v[0x0001, 0x0101, 0x0201, 0x0301]
  injResult : Vector U32 4 := .replicate 4 0
  /-- trigger of the sequence in progress: 1 H marker, 2 L marker, 3 ADTRIG -/
  injSource : BitVec 2 := 0
  /-- the CORE cycle of that trigger (R339) -/
  injFrom : Nat := 0
  injDropped : U32 := 0
  injAbort : U32 := 0
  /-- a dropped marker trigger has been reported in this frame (R339) -/
  dropReported : Bool := false
  result : Vector U16 24 := .replicate 24 0
  wcmp : Vector Wcmp 8 := .replicate 8 {}
  dewCfg : U32 := 0
  dewLast : Bool := false
  dewWoke : Bool := false
  deriving DecidableEq, Repr, Inhabited

/-- TSENS and the thermal shutdown (chapter 16). -/
structure Tsens where
  raw : U16 := 0
  tj : U16 := 0
  peak : U16 := 0x8000
  last8 : List Int := []
  lastRaw : Option Int := none
  readingAt : Nat := 0
  broken : Bool := false
  brokenCause : Byte := 0
  goodRun : Nat := 0
  hotRun : Nat := 0
  valid : Bool := false
  derating : Bool := false
  latched : Bool := false
  brokenCount : U32 := 0
  jdFloor : U16 := 0x4000
  jdLimit : Vector U32 2 := .replicate 2 0
  timerFrom : Option Nat := none
  lampBefore : LampState := .start
  /-- Sward and the Hedgerow path are stopped (R347) -/
  stopped : Bool := false
  resumeDue : Bool := false
  recCount : U32 := 0
  recIndex : U32 := 0
  /-- the last 64 thermal records, newest first -/
  records : List (List Byte) := []
  deriving DecidableEq, Repr, Inhabited

/-- One monitored supply (R365 to R369). -/
structure Supply where
  mv : U16 := 0
  sagMin : U16 := 0xFFFF
  sagCount : U32 := 0
  sagLongest : U32 := 0
  warn : Bool := false
  seen : Bool := false
  long : Bool := false
  lowRun : Nat := 0
  highRun : Nat := 0
  dipFrom : Nat := 0
  deriving DecidableEq, Repr, Inhabited

/-- One retention bank: whether it holds a save, the values saved, its data bytes and its CRC-32C (R359). -/
structure RetBank where
  saved : Bool := false
  values : List (U16 × Byte × List Byte) := []
  data : List Byte := []
  crc : U32 := 0
  deriving DecidableEq, Repr, Inhabited

/-- The alignment state that retention bank 2 holds (Table 17-4): the fields of ALIGN_STATUS and the counts beside it. -/
structure AlignState where
  phaseError : U32 := 0
  aligned : Bool := false
  relockCount : U32 := 0
  fsyncRejected : U32 := 0
  unlockedCycles : Nat := 0
  deriving DecidableEq, Repr, Inhabited

/-- Power controller, supplies, wake and PMBus (chapter 17). -/
structure Power where
  lastRefusal : Byte := 0
  refusingDomain : BitVec 4 := 0xF
  lastWake : BitVec 4 := 0xF
  target : Option PowerState := none
  /-- handshake step that is asked next, 1 to 9; 10 when the handshake is complete -/
  step : Nat := 0
  rollingBack : Bool := false
  stopped : List Nat := []
  wakeCount : U32 := 0
  /-- the entry in progress, or IDLE, has put the Svarn-H transmit and receive lanes into L1 (R183) -/
  idledTx : Bool := false
  idledRx : Bool := false
  /-- level of ALERT_N that PD_AON holds: low (R358) -/
  alertHeld : Bool := false
  supplies : Vector Supply 4 := .replicate 4 {}
  sagLimit : U16 := 1000
  freezeLeft : BitVec 2 := 0
  frozen : Bool := false
  dewPeriod : U16 := 100
  dewConfirm : Byte := 2
  dewSamples : U32 := 0
  dewRun : Nat := 0
  wakeEn : Byte := 0x7F
  wakeTimer : U32 := 0
  enteredAt : Nat := 0
  retFail : BitVec 4 := 0
  retPass : BitVec 4 := 0
  retSaved : Bool := false
  retFailCount : U32 := 0
  ret : Vector RetBank 4 := .replicate 4 {}
  /-- bank 3 and bank 1 contents beyond objects (Table 17-4) -/
  retStuck0 : List Pos := []
  retStuck1 : List Pos := []
  retFaults : Faults := {}
  /-- STRAY_FENCED at the save: fences that only a reset lifts (R204) -/
  retStray : Vector U16 2 := .replicate 2 0
  retGov : Vector U16 2 := .replicate 2 0x8000
  retLayers : Vector Layer 8 := .replicate 8 {}
  retFrame : U32 := 0
  retLevel : U16 := 0
  retAlign : AlignState := {}
  retSupplies : Vector Supply 4 := .replicate 4 {}
  /-- the stuck-on lists were whole at the save (R194, R360) -/
  retReplayed : Vector Bool 2 := .replicate 2 false
  /-- reports held in SLEEP, oldest first, and those beyond the eighth (R362) -/
  heldReports : List Report := []
  heldLost : Nat := 0
  thermalWake : Bool := false
  /-- the second raw reading of that shutdown (R346, R350) -/
  thermalTrip : Int := 0
  thermalBroken : Bool := false
  pmbAddr : Vector Byte 2 := .replicate 2 0
  pmbStatus : Vector U16 2 := .replicate 2 0
  /-- a STATUS_WORD has been read since the boot (R370) -/
  pmbSeen : Vector Bool 2 := .replicate 2 false
  pmbFails : Vector Byte 2 := .replicate 2 0
  pmbErrCount : U32 := 0
  deriving DecidableEq, Repr, Inhabited

/-- Clock monitor and boot record (chapter 18). -/
structure Clocks where
  pllLocked : Bool := false
  lprcSuspect : Bool := false
  fail : BitVec 11 := 0
  count : Vector U32 11 := .replicate 11 0
  failRun : Vector Nat 11 := .replicate 11 0
  findings : U32 := 0
  bootStage : Byte := 0
  releasedAt : Nat := 0
  bootHedgerow : U32 := 0
  bootService : U32 := 0
  flashSize : U32 := 0
  jedecId : U32 := 0
  eraseMs : Nat := 0
  programUs : Nat := 0
  slotVer : Vector U32 2 := .replicate 2 0
  flashErr : U32 := 0
  gorseVersion : U32 := 0
  gorseBuild : U32 := 0
  gorseSlot : Byte := 0
  romVersion : U32 := 0
  wdtTimeout : U16 := 100
  bootPackSlot : Byte := 0
  minVersion : U32 := 0
  lastReset : Byte := 0
  deriving DecidableEq, Repr, Inhabited

/-- One persisted value (R308 to R310): object, bytes, CRC-32C as stored. -/
structure Stored where
  index : U16
  sub : Byte
  value : List Byte
  crc : U32
  deriving DecidableEq, Repr

/-- A fault-map list or ageing record of one tile serial number (R196, R202). -/
structure TileRecord where
  serial : U64
  faults : List U32
  baseline : Option (List (List Nat))
  baseTemp : U16
  deriving DecidableEq, Repr

/-- Cairn and the manufacture area (chapter 18). -/
structure Cairn where
  serial : U64 := 1
  mfgDate : U32 := 0
  mfgLot : List Byte := List.replicate 16 0
  mac : U64 := 0
  packKey : List Byte := List.replicate 64 0
  bootKeyHash : List Byte := List.replicate 32 0
  hedgeRef : U64 := 0
  mfgLocked : Bool := true
  writeFailed : Bool := false
  writeErr : U32 := 0
  /-- the next Cairn write fails after its retry (R385) -/
  failing : Bool := false
  /-- the CORE cycle of the last history, change-log, thermal-record or fault-map-list write (Table 17-2, step 8) -/
  wroteAt : Option Nat := none
  bootCount : U16 := 0
  storeCount : U32 := 0
  resetCount : Vector U32 8 := .replicate 8 0
  persisted : List Stored := []
  snapshot : List Stored := []
  /-- the snapshot being written by a STORE (R295, R311) -/
  writing : Option (List Stored) := none
  storeFailed : Bool := false
  skipIndex : U16 := 0
  skipped : Byte := 0
  tiles : List TileRecord := []
  deriving DecidableEq, Repr, Inhabited

/-- Field memory and flash as sparse bytes, addresses rising and no entry equal to what an unlisted address reads
as; and the field-memory words that read as uncorrectable (R272, R273). -/
structure Mem where
  fm : List Host.Cell := []
  bad : List Nat := []
  flash : List Host.Cell := []
  deriving DecidableEq, Repr, Inhabited

/-- The whole block. `clock` counts CORE cycles of 1.25 ns since PORST_N was first released; `freeCount` is the
model's own counter of free values drawn (DESIGN CHOICE, log entry 3). -/
structure State where
  pending : List Instr := []
  clock : Nat := 0
  freeCount : Nat := 0
  mem : Mem := {}
  layers : Vector Layer 8 := .replicate 8 {}
  group : Group := {}
  essential : Byte := 0
  stamp : Stamp := {}
  warp : Warp := {}
  banks : Vector BankPair 8 := .replicate 8 {}
  pack : Pack := {}
  sched : Sched := {}
  frame : Frame := {}
  tb : TimeBase := {}
  svh : SvarnH := {}
  links : Vector Link 2 := .replicate 2 {}
  diag : Vector Diag 2 := .replicate 2 {}
  current : Vector Current 2 := .replicate 2 {}
  diagCfg : DiagCfg := {}
  guard : Guard := {}
  stile : Stile := {}
  hedge : Hedge := {}
  safety : Safety := {}
  twin : Twin := {}
  access : Access := {}
  faults : Faults := {}
  aon : Aon := {}
  net : Net := {}
  mgmt : Mgmt := {}
  adc : Adc := {}
  tsens : Tsens := {}
  power : Power := {}
  clocks : Clocks := {}
  cairn : Cairn := {}
  deriving DecidableEq, Repr, Inhabited

/-- The block right after reset, before its boot runs: every field at its default above. -/
def State.reset : State := {}

/-- Reasons to stop with a fault. -/
inductive Fault where
  /-- Raised by no command of this block: the spec describes the outcome of every one (a refusal by an abort code, a
  drop, a report). Safe: the constructor keeps the type non-empty. -/
  | none
  deriving DecidableEq, Repr

/-- Reasons to refuse. -/
inductive Refusal where
  /-- Answered by a dispatch arm whose command has no meaning yet. Safe: nothing can be proved of it. -/
  | notModelled (mnemonic : String)
  deriving DecidableEq, Repr

end Sys2Proof.Machine
end

