-- ==== Sys2Proof/Machine/Ops.lean ====
section
/-!
DEFINITION. Machine/Ops.lean: the named operations that every family shares: the clock and the time base, free
values, events, reports into the pending registers, the fences in force, the lamp state, Cairn records, and field
memory with its leases, bank windows and uncorrectable words.
-/
namespace Sys2Proof.Machine

/-! ### places of the tables in State -/

def State.layer (s : State) (n : Fin 8) : Layer := s.layers[n]
def State.modLayer (s : State) (n : Fin 8) (f : Layer → Layer) : State :=
  { s with layers := vmod s.layers n f }
def State.bank (s : State) (p : Fin 8) : BankPair := s.banks[p]
def State.modBank (s : State) (p : Fin 8) (f : BankPair → BankPair) : State :=
  { s with banks := vmod s.banks p f }
def State.link (s : State) (n : Fin 2) : Link := s.links[n]
def State.modLink (s : State) (n : Fin 2) (f : Link → Link) : State :=
  { s with links := vmod s.links n f }
def State.tileDiag (s : State) (n : Fin 2) : Diag := s.diag[n]
def State.modDiag (s : State) (n : Fin 2) (f : Diag → Diag) : State :=
  { s with diag := vmod s.diag n f }
def State.cur (s : State) (n : Fin 2) : Current := s.current[n]
def State.modCur (s : State) (n : Fin 2) (f : Current → Current) : State :=
  { s with current := vmod s.current n f }
def State.channel (s : State) (k : Fin 8) : Channel := s.mgmt.channels[k]
def State.modChannel (s : State) (k : Fin 8) (f : Channel → Channel) : State :=
  { s with mgmt := { s.mgmt with channels := vmod s.mgmt.channels k f } }
def State.chk (s : State) (c : Fin 8) : Chk := s.mgmt.checks[c]
def State.modChk (s : State) (c : Fin 8) (f : Chk → Chk) : State :=
  { s with mgmt := { s.mgmt with checks := vmod s.mgmt.checks c f } }

/-- A computation over every place of a table, in ascending order. -/
def forAll {n : Nat} (f : Fin n → State → State) (s : State) : State :=
  (List.finRange n).foldl (fun t i => f i t) s

/-! ### time -/

/-- CORE cycles in a ms, a µs and a s (R371). -/
def cyclesMs (k : Nat) : Nat := 800000 * k
def cyclesUs (k : Nat) : Nat := 800 * k
def cyclesS (k : Nat) : Nat := 800000000 * k

/-! ### the grid in 1/204 ns (R141, R142) -/

/-- P and P/68 for a FRAME_DIV, and one CORE cycle. -/
def periodTu (div : Byte) : Int := div.toNat * 21250000
def slotTu (div : Byte) : Int := div.toNat * 312500
def cycleTu : Int := 255

/-- The number of the next ticket (R147, R153). -/
def Frame.next (f : Frame) : U32 := f.nextNumber.getD (f.number + 1)

/-- The first CORE edge at or after a grid time. -/
def edgeOf (g : Int) : Nat := (-((-g) / cycleTu)).toNat

/-- The CORE edge on which the next ticket closes; none while the grid does not run or its first close is to come. -/
def State.closingEdge (s : State) : Option Nat :=
  if s.frame.running && !s.frame.fresh then some (edgeOf (s.frame.gridTime + periodTu s.frame.divUsed)) else none

/-- A ticket close falls due by a CORE cycle (R11). -/
def State.reachesClose (s : State) (due : Nat) : Bool := s.closingEdge.any fun e => decide (e ≤ due)

/-- The CORE edge at which frame slot `j` of the current frame starts. -/
def State.slotEdge (s : State) (j : Nat) : Nat :=
  if j = 0 then s.frame.closeAt else edgeOf (s.frame.gridTime + j * slotTu s.frame.divUsed)

/-- The H band or L band that a frame slot renders or latches (Table 7-2). -/
def renderOf (j : Nat) : Option (Nat × Bool) :=
  if 1 ≤ j ∧ j ≤ 32 then some (j - 1, false) else if 35 ≤ j ∧ j ≤ 66 then some (j - 35, true) else none
def latchOf (j : Nat) : Option (Nat × Bool) :=
  if 2 ≤ j ∧ j ≤ 33 then some (j - 2, false) else if 36 ≤ j ∧ j ≤ 67 then some (j - 36, true) else none

/-- The edge of the next frame slot, where that slot renders a band, lies after the clock and by `due`. -/
def State.reachesGate (s : State) (due : Nat) : Bool :=
  let e := s.slotEdge (s.frame.slot + 1)
  s.frame.running && !s.frame.fresh && s.frame.rendering && (renderOf (s.frame.slot + 1)).isSome && s.frame.gate.isNone
  && decide (s.clock < e) && decide (e ≤ due)

/-- What the band gate samples of the present state (R107). -/
def State.gateNow (s : State) : GateSample :=
  { slot := s.frame.slot + 1, live := s.stamp.live, retain := s.stamp.retain, stale := s.stamp.stale }

/-- The clock moves forward to an edge, never back. Where it reaches the slot edge of the next band render, the gate's
sample is taken as the state stands: what follows belongs to the gate after it (R107). -/
def State.at_ (s : State) (due : Nat) : State :=
  { s with
    clock := max s.clock due
    frame := { s.frame with gate := if s.reachesGate due then some s.gateNow else s.frame.gate } }

/-- Whole ms since an edge. -/
def State.msSince (s : State) (edge : Nat) : Nat := (s.clock - edge) / 800000

/-- What the steering has added to the count at a CORE cycle, in ns (R300). -/
def State.tbDrift (s : State) (cycle : Int) : Int := s.tb.rate * (cycle - s.tb.since) / 2 ^ 32
/-- Time-base time in ns at a CORE cycle (R300); a cycle of 1.25 ns counts in whole ns, rounded down (DESIGN CHOICE, log
entry 120). -/
def State.tbAt (s : State) (cycle : Nat) : Int := s.tb.origin + (cycle * 5 / 4 : Nat) + s.tbDrift cycle
def State.tbNow (s : State) : U64 := BitVec.ofInt 64 (s.tbAt s.clock)
/-- TIME of a log entry: 0 while the time base has never locked since reset (Table 11-10). -/
def State.logTime (s : State) : U64 := if s.tb.everLocked then s.tbNow else 0

/-- The next free rate of a steering. -/
def State.drawSteer (s : State) : Int × State :=
  (Config.steerRate s.freeCount, { s with freeCount := s.freeCount + 1 })

/-- An age in ms as a saturating U16 that reads 65535 before the first event (R35, QUICK_AGE). -/
def State.age16 (s : State) : Option Nat → U16
  | none => 65535
  | some e => BitVec.ofNat 16 (min (s.msSince e) 65535)

/-! ### codes -/

def LampState.code : LampState → Byte
  | .off => 0 | .start => 1 | .service => 2 | .fallback => 3 | .limp => 4 | .parked => 5 | .test => 6
  | .recovery => 7
def PowerState.code : PowerState → Byte
  | .run => 0 | .idle => 1 | .sleep => 2 | .deep => 3 | .dew => 4 | .off => 5
def BankState.code : BankState → Nat
  | .empty => 0 | .opened => 1 | .verifying => 2 | .valid => 3 | .failed => 4 | .active => 5
def PackState.code : PackState → Nat
  | .idle => 0 | .opened => 1 | .loading => 2 | .loaded => 3 | .activating => 4 | .failed => 5
def LinkState.code : LinkState → Nat
  | .down => 0 | .training => 1 | .up => 2 | .lost => 3 | .failed => 4
def carrierCode : Carrier → Byte
  | .can => 1 | .t1s => 2 | .svh => 3

/-- Reporting units (Table 12-5, Table 14-2). -/
def unitLayer (n : Fin 8) : Byte := BitVec.ofNat 8 (0x10 + n.val)
def unitLink (n : Fin 2) : Byte := BitVec.ofNat 8 (0x31 + n.val)
def unitTile (n : Fin 2) : Byte := BitVec.ofNat 8 (0x38 + n.val)
/-- The unit of a bank pair's reports (Table 6-2). -/
def unitPair (p : Fin 8) : Byte :=
  [0x1A, 0x1A, 0x18, 0x18, 0x01, 0x19, 0x41, 0x01].getD p.val 0

/-! ### ports -/

def State.port (s : State) : Carrier → Port
  | .can => s.net.can
  | .t1s => s.net.t1s
  | .svh => s.net.svh
def State.modPort (s : State) (c : Carrier) (f : Port → Port) : State :=
  match c with
  | .can => { s with net := { s.net with can := f s.net.can } }
  | .t1s => { s with net := { s.net with t1s := f s.net.t1s } }
  | .svh => { s with net := { s.net with svh := f s.net.svh } }

/-! ### events (R170, R298) -/

/-- The Svarn-H EVENT queue of 64; a dropped event still takes its sequence number (R170). -/
def eventSvh (code : Byte) (body : List Byte) (s : State) : State :=
  if !s.net.svh.eventMask.getLsbD code.toNat then s
  else
    let q := s.svh.events
    let full := decide (64 ≤ q.length) || s.svh.txPs == 2
    { s with svh := { s.svh with
        eventSeq := s.svh.eventSeq + 1
        eventLost := if full then satInc s.svh.eventLost else s.svh.eventLost
        events := if full then q else q ++ [⟨code, s.svh.eventSeq, body⟩] } }

/-- The event-telegram queue of 16 of a network carrier (R298). -/
def eventNet (c : Carrier) (code : Byte) (body : List Byte) (s : State) : State :=
  if !(s.port c).eventMask.getLsbD code.toNat || code = 3 || code = 5 then s
  else s.modPort c fun p =>
    let full := decide (16 ≤ p.events.length)
    { p with
      eventSeq := p.eventSeq + 1
      eventLost := if full then satInc p.eventLost else p.eventLost
      events := if full then p.events else p.events ++ [⟨code, p.eventSeq, body⟩] }

/-- An event on all three carriers. -/
def event (code : Byte) (body : List Byte) (s : State) : State :=
  eventNet .t1s code body (eventNet .can code body (eventSvh code body s))

def eventState (s : State) : State :=
  event 4 ([s.safety.lamp.code, s.safety.power.code, 0, 0] ++ bytes32 s.frame.number
    ++ List.replicate 8 0) s

def eventLink (n : Fin 2) (s : State) : State :=
  event 6 ([BitVec.ofNat 8 (n.val + 1), BitVec.ofNat 8 (s.link n).state.code, (s.link n).trainResult]
    ++ List.replicate 13 0) s

/-! ### reports (R264) -/

def Scope.union (a b : Scope) : Scope :=
  { layers := a.layers ||| b.layers, sectors0 := a.sectors0 ||| b.sectors0
    sectors1 := a.sectors1 ||| b.sectors1, clamp := a.clamp ||| b.clamp
    half := a.half ||| b.half, twin := a.twin || b.twin }

/-- The scope of one sector mask of one tile. -/
def Scope.sectors (n : Fin 2) (m : U16) : Scope :=
  if n = 0 then { sectors0 := m } else { sectors1 := m }

/-- A report into a pending register that may hold one already: the two combine (R264). -/
def combineReport (r : Report) : List Report → List Report
  | [] => [r]
  | q :: t =>
    if q.unit = r.unit then
      { q with cls := max q.cls r.cls, scope := q.scope.union r.scope, count := q.count + 1, latest := r.latest
               merged := q.merged || q.cause != r.cause, causes := q.causes ++ r.causes } :: t
    else q :: combineReport r t

/-- A unit raises a report. In SLEEP the holding store takes it (R362); in DEEP, DEW and power OFF no reporting unit
runs. -/
def report (unit cause index : Byte) (cls : Nat) (scope : Scope) (s : State) : State :=
  let r : Report := { unit, cause, index, cls, scope, causes := [(unit, cause, index, cls)]
                      frame := s.frame.number, slot := BitVec.ofNat 8 s.frame.slot, latest := s.frame.number }
  match s.safety.power with
  | .run | .idle =>
    { s with faults := { s.faults with pending := combineReport r s.faults.pending } }
  | .sleep =>
    if s.power.heldReports.length < 8 then
      { s with power := { s.power with heldReports := s.power.heldReports ++ [r] } }
    else { s with power := { s.power with heldLost := s.power.heldLost + 1 } }
  | _ => s

def report1 (unit cause index : Byte) (s : State) : State := report unit cause index 1 {} s

/-! ### fences in force (Table 12-5, R276) -/

/-- The union of the scopes of every record in force. -/
def State.fences (s : State) : Scope :=
  s.faults.queue.foldl (fun acc r => if r.inForce then acc.union r.scope else acc) {}

/-- FENCED of a layer: an essential layer is never fenced (R64). -/
def State.fencedMask (s : State) : Byte := s.fences.layers &&& ~~~s.essential
def State.fencedSectors (s : State) (n : Fin 2) : U16 :=
  if n = 0 then s.fences.sectors0 else s.fences.sectors1
/-- The tile's scale is at most 0x4000 (R19, R210). -/
def State.halfCap (s : State) (n : Fin 2) : Bool := s.fences.half.getLsbD n.val

def State.isEssential (s : State) (n : Fin 8) : Bool := s.essential.getLsbD n.val

/-- VALID_BUF (Table 3-8, R64). -/
def State.validBuf (s : State) (n : Fin 8) : Bool :=
  (s.layer n).hasBuffer && !s.fencedMask.getLsbD n.val

/-! ### lamp state -/

/-- The lamp is lighting (R153). -/
def State.lighting (s : State) : Bool :=
  match s.safety.lamp with
  | .off | .parked => false
  | .start => s.safety.hedgeLatched
  | _ => true

/-- A channel leaves CUSTOM: back to CRC32C, its job ended with ERR STATE and, in the compare mode, MISMATCH
(R333). -/
def Chk.dropCustom (c : Chk) : Chk :=
  if fld c.cfg 0 4 ≠ 0xF then c
  else
    { c with cfg := (c.cfg &&& 0xFFFFFFF0) ||| 3
             err := if c.busy then 6 else c.err
             done := c.done || c.busy
             mismatch := c.mismatch || (c.busy && fld c.jobCfg 4 2 == 1)
             busy := false, feedOpen := false }

/-- The dropped job is reported: MODE COMPARE with CMP_IE (R332). -/
def Chk.dropReports (c : Chk) : Bool :=
  fld c.cfg 0 4 == 0xF && c.busy && fld c.jobCfg 4 2 == 1 && c.jobCfg.getLsbD 11

/-- Every CUSTOM channel leaves CUSTOM when the lamp enters a state that forbids it (R333). -/
def dropCustom (s : State) : State :=
  let s1 : State := { s with mgmt := { s.mgmt with checks := vall s.mgmt.checks Chk.dropCustom } }
  if s.mgmt.checks.toList.any Chk.dropReports then report1 0x59 0x23 0xFF s1 else s1

/-- The lamp state changes (R4): the unlock ends on leaving PARKED (R255), TEST_SOURCE returns to DARK and a session
ends on entering or leaving TEST (R243), SHADOW_PASS clears on entering and leaving FALLBACK (R237), CUSTOM ends
(R333), the records in force note a stay in FALLBACK (R277), and EVENT STATE is sent (log entry 20). -/
def setLamp (l : LampState) (s : State) : State :=
  if s.safety.lamp = l then s
  else
    let old := s.safety.lamp
    let s1 : State := { s with safety := { s.safety with
      lamp := l
      testSource := if old = .test || l = .test then 0 else s.safety.testSource
      testRunning := if old = .test then false else s.safety.testRunning
      testCtrl := if old = .test then 0 else s.safety.testCtrl
      prbsLock := if old = .test then 0 else s.safety.prbsLock
      checkers := if old = .test then .replicate 8 {} else s.safety.checkers } }
    let s2 : State :=
      if old = .parked then { s1 with access := { s1.access with holder := none } } else s1
    let s3 : State :=
      if l = .fallback || old = .fallback then { s2 with guard := { s2.guard with shadowPass := 0 } }
      else s2
    let s4 : State :=
      if l = .fallback then
        { s3 with faults := { s3.faults with queue := s3.faults.queue.map fun r =>
            if r.inForce then { r with sawFallback := true } else r } }
      else s3
    let s5 := if l = .start || l = .test || l = .recovery then s4 else dropCustom s4
    eventState s5

/-- A Hedgerow selection while the tiles are lit reaches the multiplexer at the next gate sample; dark tiles are lit only
at a ticket close (R236). -/
def selectHedgerow (s : State) : State :=
  if s.safety.mux = .dark then s
  else { s with safety := { s.safety with muxNext := some .hedgerow } }

/-- Codes 0 from the next band render, and PARK to both tiles within the next frame slot (R241, R243). -/
def darken (s : State) : State :=
  { s with safety := { s.safety with muxNext := some .dark, parkDue := true } }

/-- LIMP0_N and LIMP1_N (R189): high unless the block is held in reset, the fell latch is set, or the thermal hold is
in force. -/
def State.limpHigh (s : State) : Bool :=
  !s.aon.held && !s.aon.fell && !s.aon.thermalHold && s.safety.power != .off

/-- FALLBACK_DEMAND bit `i` is set; in SERVICE the lamp goes to FALLBACK (R242, R252, R254, R263). -/
def setDemand (i : Nat) (s : State) : State :=
  let s1 : State := { s with safety := { s.safety with
    demand := s.safety.demand ||| BitVec.ofNat 3 (2 ^ i) } }
  if s1.safety.lamp = .service then selectHedgerow (setLamp .fallback s1) else s1

def clearDemand (i : Nat) (s : State) : State :=
  { s with safety := { s.safety with demand := s.safety.demand &&& ~~~(BitVec.ofNat 3 (2 ^ i)) } }

/-! ### Cairn -/

/-- A Cairn write that fails after its retry (R385): the status, the count and the report of class 1, unit 0x21. -/
def cairnFailure (s : State) : State :=
  report1 0x21 0x1A 0xFF
    { s with cairn := { s.cairn with writeFailed := true, writeErr := satInc s.cairn.writeErr } }

/-- A change-log entry (Table 11-10): the new state, and whether Cairn took it. -/
def logChange (kind : Byte) (index : U16) (sub : Byte) (c : Carrier) (node : BitVec 10)
    (old new : U32) (s : State) : State × Bool :=
  if s.cairn.failing then (cairnFailure s, false)
  else
    let head := bytes32 s.access.logCount ++ bytes64 s.logTime ++ bytes16 index ++ [sub, kind,
      carrierCode c, 0] ++ leBytes 2 node.toNat ++ bytes32 old ++ bytes32 new
    let e := head ++ bytes32 (crc32cOf head)
    ({ s with
        access := { s.access with logCount := s.access.logCount + 1
                                  log := (e :: s.access.log).take 4096 }
        cairn := { s.cairn with writeFailed := false, wroteAt := some s.clock } }, true)

/-- Flags byte of a record (Table 12-3). -/
def Record.flags (r : Record) (pinned : Bool) : Byte :=
  BitVec.ofNat 8 (128 * natOfBool r.clearReq + 64 * natOfBool pinned + 32 * natOfBool r.inForce
    + 16 * natOfBool r.raised + 8 * natOfBool r.merged + r.cls)

/-- SEQ of the gravest record: the highest class, the earliest among equals (R268). -/
def gravest : List Record → Option Record
  | [] => none
  | r :: t =>
    match gravest t with
    | none => some r
    | some g => if g.cls ≤ r.cls then some r else some g

def State.pinned (s : State) (r : Record) : Bool :=
  s.faults.first == some r.seq || (gravest s.faults.queue).any fun g => g.seq == r.seq

/-- The 16 bytes of a record (Table 12-2), with its CRC as stored. -/
def recordBytes (s : State) (r : Record) : List Byte :=
  let head := bytes16 r.seq ++ [r.unit, r.flags (s.pinned r), r.cause, r.index] ++ bytes16 r.count
    ++ bytes32 r.frame ++ [r.slot, r.age]
  head ++ bytes16 (crc16Of head ^^^ r.crcError)

/-- A history entry (Table 12-8). -/
def writeHistory (kind : Byte) (r : Record) (s : State) : State :=
  if s.cairn.failing then cairnFailure s
  else
    let head := bytes32 s.faults.histCount ++ bytes64 s.logTime ++ bytes16 s.cairn.bootCount
      ++ [kind, 0] ++ recordBytes s r ++ bytes32 s.faults.lost ++ List.replicate 8 0
    let e := head ++ bytes32 (crc32cOf head)
    { s with
      faults := { s.faults with
        histCount := s.faults.histCount + 1, history := (e :: s.faults.history).take 2048, lostLogged := s.faults.lost }
      cairn := { s.cairn with wroteAt := some s.clock } }

/-! ### jobs of the device itself on check-unit channels 0 and 1 (R325, R330) -/

/-- R of R330 from an unfolded crc. -/
def foldResult (spec : CrcSpec) (fold : Nat) (n : U32) (crc : U64) : U64 :=
  if fold = 0 then crc else crc ^^^ ((fold32 n).setWidth 64 &&& spec.mask)

/-- A finished job of Gorse on channel 0 or of the safety monitor on channel 1, as its registers show it. -/
def deviceJob (k : Fin 8) (cfg addr len fold : U32) (spec : CrcSpec) (err : Byte) (crc : U64) (s : State) : State :=
  s.modChk k fun c => { c with
    cfg := cfg, addr := addr, len := len, err := err, done := true, busy := false
    foldN := if err = 0 then fold else c.foldN
    result := if err = 0 then foldResult spec 1 fold crc else c.result }

/-- The job at the head of channel 0's list starts: DONE and ERR of the job before it clear (R328, Table 15-8). -/
def startHead (s : State) : State :=
  if s.mgmt.jobs = [] then s
  else s.modChk 0 fun c => { c with done := false, err := 0, isMatch := false, mismatch := false }

/-- A job enters the list of channel 0, which runs one at a time in order of request (R121). -/
def queueJob (j : CheckJob) (s : State) : State :=
  let s1 : State := { s with mgmt := { s.mgmt with jobs := s.mgmt.jobs ++ [j] } }
  if s.mgmt.jobs = [] then startHead s1 else s1

/-- The job at the head of the list has ended, and the next one starts. -/
def endHead (s : State) : State := startHead { s with mgmt := { s.mgmt with jobs := s.mgmt.jobs.tail } }

/-- A job leaves the list of channel 0; where it was running, the next one starts. -/
def dropJob (j : CheckJob) (s : State) : State :=
  let s1 : State := { s with mgmt := { s.mgmt with jobs := s.mgmt.jobs.filter fun k => k != j } }
  if s.mgmt.jobs.head? = some j then startHead s1 else s1

/-! ### field memory -/

/-- One past the last byte of field memory (R115). -/
def fmSize : Nat := 0x3000000
/-- First byte of the table area. -/
def tableStart : Nat := 0x2400000

def State.fm (s : State) (a : Nat) : Byte := cellGet fmReset s.mem.fm a
def State.fmRead (s : State) (a len : Nat) : List Byte := cellRead fmReset s.mem.fm a len
def State.flashRead (s : State) (a len : Nat) : List Byte := cellRead flashReset s.mem.flash a len

/-- A word of the range reads as uncorrectable. -/
def State.badIn (s : State) (a len : Nat) : Bool :=
  s.mem.bad.any fun w => decide (w * 32 < a + len) && decide (a < (w + 1) * 32)

/-- ECC_UNCORR for the bank of each uncorrectable word that an access meets (R272). -/
def reportBad (words : List Nat) (s : State) : State :=
  words.foldl (fun t w => report1 0x20 0x18 (BitVec.ofNat 8 (w / 32768)) t) s

/-- Uncorrectable words of a range, in address order of the list. -/
def State.badWords (s : State) (a len : Nat) : List Nat :=
  s.mem.bad.filter fun w => decide (w * 32 < a + len) && decide (a < (w + 1) * 32)

/-- A write of one operation: whole words become correctable again; a partly covered uncorrectable word is reported
and stays marked (R273). -/
def fmStore (a : Nat) (bytes : List Byte) (s : State) : State :=
  let partlyBad := (s.badWords a bytes.length).filter fun w =>
    !(decide (a ≤ w * 32) && decide ((w + 1) * 32 ≤ a + bytes.length))
  let s1 := reportBad partlyBad s
  { s1 with mem := { s1.mem with
      fm := cellWrite fmReset s1.mem.fm a bytes
      bad := s1.mem.bad.filter fun w =>
        !(decide (a ≤ w * 32) && decide ((w + 1) * 32 ≤ a + bytes.length)) } }

/-- Start and size of the window of a bank (Table 6-1). -/
def bankWindow (p : Fin 8) (b : Nat) : Nat × Nat :=
  match p.val with
  | 0 => (0x2400000 + 0x200000 * b, 0x200000)
  | 1 => (0x2800000 + 0x200000 * b, 0x200000)
  | 2 => (0x2F00000 + 0x20000 * b, 0x20000)
  | 3 => (0x2F40000 + 0x20000 * b, 0x20000)
  | 4 => (0x2F80000 + 0x20000 * b, 0x20000)
  | 5 => (0x2FC0000 + 0x1000 * b, 0x1000)
  | 6 => (0x2C00000 + 0x80000 * b, 0x80000)
  | _ => (0x2FD0000 + 0x10000 * b, 0x10000)

/-- Start of the fault-map copies of a tile (Table 6-1). -/
def fmapWorking (n : Fin 2) : Nat := 0x2D00000 + 0x100000 * n.val
def fmapVerified (n : Fin 2) : Nat := 0x2D80000 + 0x100000 * n.val
/-- The pack staging window. -/
def stagingStart : Nat := 0x2FF0000

def inside (a len start size : Nat) : Bool := decide (start ≤ a) && decide (a + len ≤ start + size)

def BankPair.state (p : BankPair) (b : Nat) : BankState := if b = 0 then p.bank0 else p.bank1
def BankPair.setState (p : BankPair) (b : Nat) (x : BankState) : BankPair :=
  if b = 0 then { p with bank0 := x } else { p with bank1 := x }
/-- The ACTIVE bank, if any. -/
def BankPair.activeBank (p : BankPair) : Option Nat :=
  if p.bank0 = .active then some 0 else if p.bank1 = .active then some 1 else none
/-- The inactive bank: bank 0 while neither is ACTIVE (log entry 21). -/
def BankPair.inactive (p : BankPair) : Nat := if p.bank0 = .active then 1 else 0

/-- A write into the table area is allowed (R116). -/
def State.tableWriteOk (s : State) (gorse : Bool) (a len : Nat) : Bool :=
  ((List.finRange 8).any fun p => [0, 1].any fun b =>
      inside a len (bankWindow p b).1 (bankWindow p b).2 && (s.bank p).state b == .opened)
  || (inside a len stagingStart 0x10000
      && (s.pack.state == .opened || (gorse && s.pack.state == .loading)))

/-- A range touches the table area. -/
def inTable (a len : Nat) : Bool := decide (tableStart < a + len) && decide (0 < len)

/-- The write meets a leased range of layer `n` (R67). -/
def Layer.leased (l : Layer) (a len : Nat) : Bool :=
  match l.lease with
  | none => false
  | some x =>
    (decide (x.addr.toNat < a + len) && decide (a < x.addr.toNat + x.length))
    || x.palette.any fun p => decide (p.toNat < a + len) && decide (a < p.toNat + 1024)

/-- R67: the first write of a frame into a leased range is counted and reported. -/
def noteLease (a len : Nat) (s : State) : State :=
  forAll (fun (n : Fin 8) t =>
    if len ≠ 0 && (t.layer n).leased a len && !(t.layer n).overwritten then
      report1 (unitLayer n) 0x03 (BitVec.ofNat 8 n.val)
        (t.modLayer n fun l => { l with overwritten := true
                                        leaseOverwriteCount := satInc l.leaseOverwriteCount })
    else t) s

/-- Pair 4: a host write into a table makes it unloaded data until it is verified; validity follows R51. -/
inductive WriteResult where
  | written | refused
  deriving DecidableEq, Repr

/-- A STREAM or BULK write (R116, R67): refused writes are dropped, counted, and reported once a frame; `index` is the
stream window, 0xFF for BULK. -/
def hostStore (index : Byte) (a : Nat) (bytes : List Byte) (s : State) : State × WriteResult :=
  if inTable a bytes.length && !s.tableWriteOk false a bytes.length then
    let s1 : State := { s with pack := { s.pack with
      tableWriteRefused := satInc s.pack.tableWriteRefused, refusedThisFrame := true } }
    (if s.pack.refusedThisFrame then s1 else report1 0x30 0x19 index s1, .refused)
  else (fmStore a bytes (noteLease a bytes.length s), .written)

/-- A Gorse write into the table area or the host area (R116): blocked and counted where it is not allowed. -/
def gorseStore (a : Nat) (bytes : List Byte) (s : State) : State :=
  if inTable a bytes.length && !s.tableWriteOk true a bytes.length then
    { s with pack := { s.pack with tableWriteRefused := satInc s.pack.tableWriteRefused } }
  else fmStore a bytes s

/-- A block that has acknowledged a power-state entry is stopped (R355). -/
def State.blockStopped (s : State) (step : Nat) : Bool := s.power.stopped.contains step

/-- A byte as a reader of field memory sees it: one of an uncorrectable word has no value that the spec gives (R272, log
entry 99). -/
def State.fmSeen (s : State) (a : Nat) : Byte := if s.mem.bad.contains (a / 32) then Config.uncorrectableByte a else s.fm a

/-- The table bytes of the active bank of a pair. -/
def State.activeTable (s : State) (p : Fin 8) (off len : Nat) : List Byte :=
  match (s.bank p).activeBank with
  | none => []
  | some b =>
    let a := (bankWindow p b).1 + off
    if s.mem.bad = [] then s.fmRead a len else (List.range len).map fun k => s.fmSeen (a + k)

/-- The uncorrectable words that a read of the active table meets. -/
def State.activeBad (s : State) (p : Fin 8) (off len : Nat) : List Nat :=
  match (s.bank p).activeBank with
  | none => []
  | some b => s.badWords ((bankWindow p b).1 + off) len

/-- CTAB_VALID (R51). -/
def State.ctabValid (s : State) : U32 :=
  match (s.bank 4).activeBank with
  | none => 0
  | some 0 => (s.bank 4).ctab0
  | some _ => (s.bank 4).ctab1

/-! ### tiles -/

/-- TILE_KIND of the accepted descriptor; 0xFF when none is held. -/
def Link.kind (l : Link) : Byte := if l.descriptor = [] then 0xFF else byteAt l.descriptor 6
def Link.serial (l : Link) : U64 := u64At l.descriptor 0xC
def Link.isUp (l : Link) : Bool := l.state == .up
/-- Columns, rows and emitters per position of a tile (R24). -/
def gridX (kind : Byte) : Nat := if kind = 1 then 1024 else 2048
def gridY (kind : Byte) : Nat := if kind = 1 then 256 else 512
def emitters (kind : Byte) : Nat := if kind = 1 then 3 else 1
/-- Rows of one band (R92). -/
def bandRows (kind : Byte) : Nat := if kind = 1 then 8 else 16
/-- Codes of one band. -/
def bandCodes (kind : Byte) : Nat := if kind = 1 then 24576 else 32768
/-- Words of a calibration bank (R115). -/
def calWords (kind : Byte) : Nat := if kind = 1 then 786432 else 1048576

/-- Word index of an emitter (R82). -/
def wordIndex (kind : Byte) (x y e : Nat) : Nat :=
  if kind = 1 then 3 * (1024 * y + x) + e else 2048 * y + x

/-- Sector of a position (R91, R181); the number of sectors when none holds it. -/
def sectorOf (l : Link) (x y : Nat) : Nat :=
  ((List.range 16).find? fun i =>
    let b (k : Nat) := (byteAt l.descriptor (0x40 + 4 * i + k)).toNat
    decide (16 * b 0 ≤ x) && decide (x < 16 * (b 0 + b 2)) && decide (16 * b 1 ≤ y)
      && decide (y < 16 * (b 1 + b 3))).getD 16

/-- A CMD packet is sent to a tile (R173). TAG 0 is left to unsolicited DIAG packets (R176). The counter of R209 restarts for the commands it names. -/
def sendCmd (n : Fin 2) (opcode : Byte) (params : List Byte) (s : State) : State :=
  s.modLink n fun l => { l with
    cmds := l.cmds ++ [⟨opcode, l.cmdTag, params⟩]
    cmdTag := if l.cmdTag = 0xFFFF then 1 else l.cmdTag + 1
    slotsSinceCmd :=
      if opcode = 1 || opcode = 2 || opcode = 3 || opcode = 8 then 0 else l.slotsSinceCmd }

/-- The warp mesh of a tile is valid: its pair has an ACTIVE bank (R29). -/
def State.meshValid (s : State) (n : Fin 2) : Bool :=
  ((s.bank (if n = 0 then 2 else 3)).activeBank).isSome

/-- Band span of the active mesh (0x3004). -/
def State.bandSpan (s : State) (n : Fin 2) : U16 :=
  u16At (s.activeTable (if n = 0 then 2 else 3) 0 32) 0x0C

/-- Offsets of a mesh table read from its 32-byte header. -/
def State.meshHeader (s : State) (n : Fin 2) : List Byte :=
  s.activeTable (if n = 0 then 2 else 3) 0 32

/-- The device is in a lamp state in which a tile whose link comes UP is lit (R402). -/
def State.lightsTiles (s : State) : Bool :=
  match s.safety.lamp with
  | .start | .service | .fallback => true
  | .recovery => s.hedge.verified
  | .test => s.safety.testSource != 0
  | _ => false

end Sys2Proof.Machine
end

