-- ==== Sys2Proof/Machine/Operands.lean ====
section
/-!
DEFINITION. Machine/Operands.lean: the fields of the operand words and packets that commands carry: a layer
configuration (Table 3-6), a commit gate (Table 3-7), and the tests every packet passes (R163).
-/
namespace Sys2Proof.Machine

/-! ### abort codes (Table 13-6) -/

/-- The answer ABORTED to a request. -/
inductive Abort where
  | userAbort
  | noObject
  | noSubindex
  | readOnly
  | length (detail : Nat)
  | valueRange
  | stateConflict
  | accessDenied
  | commitRefused (result : Byte)
  | protocol
  | segSequence (expected : Byte)
  | segTimeout
  | segSize (received : Nat)
  deriving DecidableEq, Repr

def Abort.code : Abort → U16
  | .noObject => 1 | .noSubindex => 2 | .readOnly => 3 | .length _ => 4 | .valueRange => 5
  | .stateConflict => 6 | .accessDenied => 7 | .commitRefused _ => 8 | .protocol => 9
  | .segSequence _ => 0xA | .segTimeout => 0xB | .segSize _ => 0xC | .userAbort => 0x10

/-- DETAIL (Table 13-6), saturating. -/
def Abort.detail : Abort → U16
  | .length d | .segSize d => BitVec.ofNat 16 (min d 0xFFFF)
  | .commitRefused b | .segSequence b => b.setWidth 16
  | _ => 0

/-! ### Ln_CFG (Table 3-6) -/

def LayerConfig.enable (c : LayerConfig) : Bool := c.cfg.getLsbD 31
def LayerConfig.format (c : LayerConfig) : Nat := fld c.cfg 24 4
def LayerConfig.blendOp (c : LayerConfig) : Nat := fld c.cfg 20 4
def LayerConfig.filter (c : LayerConfig) : Nat := fld c.cfg 18 2
def LayerConfig.premult (c : LayerConfig) : Bool := c.cfg.getLsbD 17
def LayerConfig.highBeam (c : LayerConfig) : Bool := c.cfg.getLsbD 16
def LayerConfig.colourId (c : LayerConfig) : Nat := fld c.cfg 8 5
def LayerConfig.opacity (c : LayerConfig) : Nat := fld c.cfg 0 8

/-- ROW_BYTES (Table 3-1); 0 for a reserved format. -/
def LayerConfig.rowBytes (c : LayerConfig) : Nat :=
  match c.format with
  | 0 | 2 | 6 => c.width.toNat
  | 1 => 2 * c.width.toNat
  | 3 => 3 * c.width.toNat
  | 4 => 4 * c.width.toNat
  | 5 => 5 * c.width.toNat / 2
  | _ => 0

/-- ROW_BYTES rounded up to a multiple of 32. -/
def LayerConfig.row32 (c : LayerConfig) : Nat := (c.rowBytes + 31) / 32 * 32

/-- Length of the range that a lease covers (R65). -/
def LayerConfig.rangeLen (c : LayerConfig) : Nat :=
  c.stride.toNat * (c.height.toNat - 1) + c.rowBytes

/-- Line-buffer requirement for one band span (R94). -/
def LayerConfig.lineNeed (c : LayerConfig) (span : Nat) : Nat :=
  let spanT := (span * c.stepV.toNat + 4095) / 4096 + 1
  let rows := (spanT + 15) / 16 + 1 + (if c.filter = 1 then 3 else 0)
  2 * rows * c.row32

/-- The line buffer holds the requirement of every tile with a valid mesh (R60, R94). -/
def LayerConfig.fits (c : LayerConfig) (span0 span1 : Option U16) : Bool :=
  span0.all (fun x => decide (c.lineNeed x.toNat ≤ 98304)) &&
  span1.all (fun x => decide (c.lineNeed x.toNat ≤ 98304))

/-- Band spans of the tiles with a valid mesh. -/
def State.span? (s : State) (n : Fin 2) : Option U16 :=
  if s.meshValid n then some (s.bandSpan n) else none

/-! ### packets -/

/-- The 16 header bytes of Table 8-4. -/
def packetHeader (p : Packet) : List Byte :=
  [p.kind, p.flags] ++ bytes16 p.length ++ bytes16 p.seq ++ bytes16 p.info ++ bytes32 p.a ++ bytes32 p.b

/-- The CRC-32C of header and payload (R162). -/
def packetCheck (p : Packet) : U32 := crc32cOf (packetHeader p ++ p.payload)

/-- The checks of R163 that are the same for every kind: symbols and EOP, the CRC-32C, and LENGTH. -/
def packetWhole (p : Packet) : Bool :=
  p.arrival == .whole && p.crc == packetCheck p && decide (p.payload.length = p.length.toNat)

/-- The bytes of a packet between SOP and EOP: header, payload, CRC-32C little-endian (R162). -/
def packetBytes (p : Packet) : List Byte := packetHeader p ++ p.payload ++ bytes32 p.crc

/-- A packet of the device: the payload is padded with zero bytes to a multiple of 4, LENGTH counts it, and the CRC-32C covers
header and payload (R160, R162). Fields that the kind does not use are 0 (Table 8-4). -/
def sentPacket (kind : Byte) (payload : List Byte) (info : U16 := 0) (a : U32 := 0) : Packet :=
  let body := padTo ((payload.length + 3) / 4 * 4) payload
  let p : Packet :=
    { arrival := .whole, kind := kind, flags := 0, length := BitVec.ofNat 16 body.length, seq := 0, info := info, a := a, b := 0
      payload := body, crc := 0 }
  { p with crc := packetCheck p }

/-! ### the packets that the device sends (R162, Tables 8-4 and 8-5) -/

/-- CMD: OPCODE, a reserved byte, TAG, and the parameters of Table 8-7 (R173). -/
def TileCmd.packet (c : TileCmd) : Packet := sentPacket 0x12 ([c.opcode, 0] ++ bytes16 c.tag ++ c.params)

/-- SYNC: the frame slot and LATCH in INFO, the frame number in A (R171). -/
def Sync.packet (y : Sync) : Packet := sentPacket 0x13 [] (BitVec.ofNat 16 (y.slot.toNat + 256 * y.latch.toNat)) y.frame

/-- BAND: band and SUB in INFO, the frame number in A, one code a byte (R172). -/
def Band.packet (p : Band) : Packet := sentPacket 0x11 p.codes (BitVec.ofNat 16 (p.band.toNat + 64 * natOfBool p.sub)) p.frame

/-- EVENT: the payload head and the body of Table 8-6 (R170). -/
def Event.packet (e : Event) : Packet := sentPacket 0x82 ([e.code, 0] ++ bytes16 e.seq ++ e.body)

/-- READBACK: the request's tag in INFO, the address in A (R170, R323). -/
def Readback.packet (b : Readback) : Packet := sentPacket 0x83 b.bytes b.info b.addr

/-- What the forward lanes of a Svarn-E link carried last: SYNC, then BAND, then the CMD packets (R172, R173). -/
def Link.packets (l : Link) : List Packet :=
  l.sync.toList.map Sync.packet ++ l.band.toList.map Band.packet ++ l.cmds.map TileCmd.packet

/-- Symbol errors of a packet and of the gap before it (R159). -/
def packetErrors (p : Packet) : List (Fin 4 × Bool) :=
  p.gap ++ match p.arrival with
    | .badSymbol lane d => [(lane, d)]
    | _ => []

/-- Bit `i` of FLAGS. -/
def packetFlag (p : Packet) (i : Nat) : Bool := p.flags.getLsbD i

end Sys2Proof.Machine
end

