-- ==== Sys2Proof/Machine/Layers.lean ====
section
/-!
DEFINITION. Machine/Layers.lean: commits, their checks, gates, groups, the hand-over at a ticket close and the buffer
leases (chapter 3).
-/
namespace Sys2Proof.Machine

/-! ### the slot -/

def Layer.waiting (l : Layer) : Bool := l.pending.isSome && !l.ready
/-- SLOT (Table 3-8). -/
def Layer.slot (l : Layer) : Nat :=
  if l.check.isSome then 1 else if l.pending.isNone then 0 else if l.ready then 3 else 2

/-- A not-ready episode ends when no WAITING snapshot is held (R62). -/
def Layer.settle (l : Layer) : Layer := if l.waiting then l else { l with notReadyEpisode := false }

/-- The pending snapshot is dropped with a result. -/
def Layer.drop (l : Layer) (result : Byte) : Layer :=
  ({ l with pending := none, ready := false, result := result }).settle

def Layer.refusal (l : Layer) : Layer := { l with refusalCount := satInc l.refusalCount }

/-- The group a pending snapshot belongs to, 0 for none. -/
def Layer.groupMask (l : Layer) : Byte := (l.pending.map Snapshot.group).getD 0

def inMask (m : Byte) (n : Fin 8) : Bool := m.getLsbD n.val

/-! ### the checks (Table 3-10) -/

def inRange (lo hi x : Int) : Bool := decide (lo ≤ x) && decide (x ≤ hi)

/-- Check 1. -/
def LayerConfig.formatBad (c : LayerConfig) : Bool :=
  decide (7 ≤ c.format) || decide (6 ≤ c.blendOp) || decide (2 ≤ c.filter)

/-- Check 2. -/
def gateBad (kind num : BitVec 4) : Bool :=
  decide (3 ≤ kind.toNat) || (kind == 2 && decide (8 ≤ num.toNat))

/-- Checks 4 to 12 of an enabled snapshot; 0 when all pass. -/
def LayerConfig.enabledChecks (c : LayerConfig) (ctab : U32) (span0 span1 : Option U16) : Byte :=
  let w := c.width.toNat
  let h := c.height.toNat
  if c.format = 6 ∧ c.filter = 1 then 0x04
  else if w = 0 ∨ 8192 < w ∨ h = 0 ∨ 8192 < h ∨ (c.format = 5 ∧ w % 2 = 1) then 0x05
  else if c.bufAddr.toNat % 32 ≠ 0 ∨ c.stride.toNat % 32 ≠ 0
      ∨ (c.format = 6 ∧ c.paletteAddr.toNat % 32 ≠ 0) then 0x06
  else if c.stride.toNat < c.row32 then 0x07
  else if 0x3000000 < c.bufAddr.toNat + c.rangeLen
      ∨ (c.format = 6 ∧ 0x3000000 < c.paletteAddr.toNat + 1024) then 0x08
  else if !(inRange 256 16384 c.stepU.toNat && inRange 256 16384 c.stepV.toNat) then 0x09
  else if !(inRange (-1048576) 1048575 c.placeU.toInt && inRange (-1048576) 1048575 c.placeV.toInt) then
    0x0A
  else if !ctab.getLsbD c.colourId then 0x0B
  else if !c.fits span0 span1 then 0x0C
  else 0

/-- The result of the checks of a snapshot of layer `n` (R53, Table 3-10). -/
def Snapshot.checkResult (p : Snapshot) (n : Fin 8) (i : CheckInputs) : Byte :=
  if p.config.formatBad then 0x01
  else if gateBad p.gateKind p.gateNum then 0x02
  else if !p.config.enable && i.essential.getLsbD n.val then 0x03
  else if p.config.enable then p.config.enabledChecks i.ctabValid i.span0 i.span1
  else 0

/-- The result at the end of a check, with the re-check of a snapshot that a mesh swap has overtaken (R61). -/
def State.endResult (s : State) (n : Fin 8) (c : Check) : Byte :=
  let r := c.snap.checkResult n c.inputs
  if r ≠ 0 then r
  else if c.overtaken && c.snap.config.enable && !c.snap.config.fits (s.span? 0) (s.span? 1) then 0x0C
  else 0

/-! ### landing -/

/-- The reserved bits of Ln_CFG and Ln_FILL read as 0, however they were written (R10, Table 3-6). -/
def LayerConfig.unreserved (c : LayerConfig) : LayerConfig :=
  { c with cfg := c.cfg &&& 0x8FFF1FFF, fill := c.fill &&& 0x00FFFFFF }

/-- Step 1 of R53: the staging configuration becomes a snapshot under check. -/
def startCheck (n : Fin 8) (tag : U16) (kind num : BitVec 4) (group : Byte) (s : State) : State :=
  let inputs : CheckInputs :=
    { essential := s.essential, ctabValid := s.ctabValid, span0 := s.span? 0, span1 := s.span? 1 }
  s.modLayer n fun l => { l with
    edited := false
    check := some { snap := { config := l.staging, tag := tag, gateKind := kind, gateNum := num, group := group }
                    inputs := inputs, due := s.clock + 384 } }

/-- GROUP_STATUS shows a group and its RESULT. DESIGN CHOICE (log entry 120): of several groups it shows the one that last
landed, ended its checks, was dropped or was handed over. -/
def showGroup (mask result : Byte) (s : State) : State := { s with group := { mask := mask, result := result } }

/-- Every layer whose pending snapshot belongs to the group `m` drops it, with a result per layer; GROUP_STATUS takes
the group's own result (R57). -/
def dropGroup (m : Byte) (groupResult : Byte) (f : Fin 8 → Layer → Layer) (s : State) : State :=
  showGroup m groupResult (forAll (fun (n : Fin 8) t =>
    if (t.layer n).groupMask = m then t.modLayer n fun l => f n (l.drop l.result) else t) s)

/-- A group is dropped because the members `bad` fail (R57): each of them takes the cause and counts a refusal, and every
other member takes GROUP. -/
def dropFailed (m cause : Byte) (bad : Fin 8 → Bool) (s : State) : State :=
  dropGroup m cause (fun k l => if bad k then ({ l with result := cause }).refusal else { l with result := 0x23 }) s

/-- The pending snapshots of the layers `bad` are dropped with a cause, a group member's with its whole group (Table 3-11,
R57, R61). -/
def dropPending (cause : Byte) (bad : Fin 8 → Bool) (s : State) : State :=
  forAll (fun (n : Fin 8) t =>
    if !bad n || (t.layer n).pending.isNone then t
    else if (t.layer n).groupMask = 0 then t.modLayer n fun l => (l.drop cause).refusal
    else dropFailed (t.layer n).groupMask cause bad t) s

/-- A commit of layer `n` (R53 to R57). -/
def commitLayer (n : Fin 8) (tag : U16) (kind num : BitVec 4) (s : State) : Except Abort State :=
  if (s.layer n).check.isSome then .error .stateConflict
  else
    let m := (s.layer n).groupMask
    let s1 := if m = 0 then s
      else dropGroup m 0x22 (fun k l => if k = n then l else { l with result := 0x22 }) s
    .ok (startCheck n tag kind num 0 s1)

/-- The staging configuration reloaded from the committed copy (Table 3-11). -/
def Layer.reload (l : Layer) : Layer := { l with staging := l.committed, edited := false }

/-- A cancel of layer `n`. -/
def cancelLayer (n : Fin 8) (s : State) : Except Abort State :=
  if (s.layer n).check.isSome then .error .stateConflict
  else if (s.layer n).pending.isNone then .ok s
  else
    let m := (s.layer n).groupMask
    .ok (if m = 0 then s.modLayer n fun l => l.drop 0x21
         else dropGroup m 0x21 (fun _ l => { l with result := 0x21 }) s)

/-- A discard of layer `n`. -/
def discardLayer (n : Fin 8) (s : State) : Except Abort State :=
  if (s.layer n).check.isSome then .error .stateConflict
  else
    let m := (s.layer n).groupMask
    let s1 := if m = 0 then s else dropGroup m 0x21 (fun _ l => { l with result := 0x21 }) s
    .ok (s1.modLayer n Layer.reload)

/-- A group commit (R57, R54). DESIGN CHOICE (log entry 118): GROUP_STATUS shows the new MASK with RESULT OK from the
landing edge, before the checks have ended. -/
def commitGroup (mask : Byte) (tag : U16) (kind num : BitVec 4) (s : State) : Except Abort State :=
  if (List.finRange 8).any fun n =>
      inMask mask n && ((s.layer n).check.isSome || (s.layer n).groupMask != 0) then
    .error .stateConflict
  else if mask = 0 then .ok s
  else
    .ok (forAll (fun n t => if inMask mask n then startCheck n tag kind num mask t else t)
      (showGroup mask 0 s))

/-! ### the end of a check (Table 3-11, R57) -/

/-- A passed snapshot becomes pending, replacing an earlier one. -/
def Layer.accept (l : Layer) (c : Check) : Layer :=
  match c.gate with
  | some true => (({ l with check := none }).drop 0x20).refusal
  | g => ({ l with
      check := none, result := 0, pending := some c.snap
      ready := c.snap.gateKind == 0 || g == some false }).settle

/-- The check of a per-layer commit ends. The result is the code of Table 3-10, 0 when it passed. DESIGN CHOICE (log
entry 118): a snapshot that passes and is then dropped for its gate was not refused by the check, so that the write is
answered as done and RESULT shows GATE_FAIL. -/
def endLayerCheck (n : Fin 8) (c : Check) (s : State) : Byte × State :=
  let r := s.endResult n c
  if r ≠ 0 then
    (r, s.modLayer n fun l => ({ l with check := none, result := r }).refusal)
  else (0, s.modLayer n fun l => l.accept c)

/-- Members of a group whose checks are in progress, with their checks. -/
def State.groupChecks (s : State) (mask : Byte) : List (Fin 8 × Check) :=
  (List.finRange 8).filterMap fun n =>
    match (s.layer n).check with
    | some c => if c.snap.group = mask then some (n, c) else none
    | none => none

/-- The checks of a group commit end together (R57). DESIGN CHOICE (log entry 118): "its state before the group commit" is
the state of the slot, and EDITED stays cleared as R53 leaves it. DESIGN CHOICE (log entry 120): of several refused members
GROUP_STATUS and the reply take the cause of the lowest-numbered one. -/
def endGroupCheck (mask : Byte) (s : State) : Byte × State :=
  let members := s.groupChecks mask
  let results := members.map fun m => (m.1, s.endResult m.1 m.2)
  let refused := (results.filter fun r => r.2 != 0).map Prod.snd
  let failed := members.any fun m => m.2.gate == some true
  match refused with
  | r :: _ =>
    (r, showGroup mask r (results.foldl (fun t m => t.modLayer m.1 fun l =>
      if m.2 ≠ 0 then ({ l with check := none, result := m.2 }).refusal
      else { l with check := none, result := 0x23 }) s))
  | [] =>
    if failed then
      (0, showGroup mask 0x20 (members.foldl (fun t m => t.modLayer m.1 fun l =>
        let l1 := { l with check := none }
        if m.2.gate = some true then (l1.drop 0x20).refusal else l1.drop 0x23) s))
    else (0, showGroup mask 0 (members.foldl (fun t m => t.modLayer m.1 fun l => l.accept m.2) s))

/-- The check of layer `n` ends, with its whole group; none when no check is in progress. -/
def endCheck (n : Fin 8) (s : State) : Option (Byte × State) :=
  (s.layer n).check.map fun c => if c.snap.group = 0 then endLayerCheck n c s else endGroupCheck c.snap.group s

/-! ### gates (R56) -/

/-- The gate event reaches a snapshot under check: the first one is recorded with its error flag. -/
def Layer.noteGate (kind num : BitVec 4) (err : Bool) (l : Layer) : Layer :=
  match l.check with
  | some c =>
    if c.snap.gateKind = kind && c.snap.gateNum = num && c.gate.isNone then
      { l with check := some { c with gate := some err } }
    else l
  | none => l

/-- The WAITING snapshot of a layer has the gate of the event. -/
def State.gateHits (s : State) (kind num : BitVec 4) (n : Fin 8) : Bool :=
  (s.layer n).waiting && (s.layer n).pending.any fun p => p.gateKind == kind && p.gateNum == num

/-- A gate event: a stream window's end-of-buffer (kind 1) or a chain's end (kind 2), with its error flag. It reaches every
snapshot under check or WAITING that has the gate. -/
def gateEvent (kind num : BitVec 4) (err : Bool) (s : State) : State :=
  let s1 : State := { s with layers := vall s.layers (Layer.noteGate kind num err) }
  let hit := s1.gateHits kind num
  if err then dropPending 0x20 hit s1
  else forAll (fun (n : Fin 8) t => if hit n then t.modLayer n fun l => ({ l with ready := true }).settle else t) s1

/-! ### ticket close (R58 to R62, R65, R66) -/

/-- Every member of the snapshot's group is READY. -/
def State.groupReady (s : State) (p : Snapshot) : Bool :=
  p.group == 0 || (List.finRange 8).all fun k =>
    !inMask p.group k || ((s.layer k).groupMask == p.group && (s.layer k).ready)

/-- The lease of a configuration that is handed over. -/
def Snapshot.lease (p : Snapshot) (frame : U32) : Option Lease :=
  if p.config.enable then
    some { addr := p.config.bufAddr, length := p.config.rangeLen
           palette := if p.config.format = 6 then some p.config.paletteAddr else none
           tag := p.tag, first := frame }
  else none

/-- Both leases cover the same ranges (R65). -/
def Lease.same (a b : Lease) : Bool := a.addr == b.addr && a.length == b.length && a.palette == b.palette

/-- Body of EVENT LEASE_RELEASE (Table 8-6). -/
def leaseBody (n : Fin 8) (l : Lease) (last : U32) : List Byte :=
  [BitVec.ofNat 8 n.val, 0] ++ bytes16 l.tag ++ bytes32 l.addr ++ bytes32 last ++ List.replicate 4 0

/-- The lease of a layer at a hand-over in frame `frame`; `last` is the frame before it (R65, R66). -/
def Layer.release (l : Layer) (p : Snapshot) (frame last : U32) : Layer × Option Lease :=
  match l.lease, p.lease frame with
  | some a, some b =>
    if a.same b then ({ l with lease := some { a with tag := p.tag } }, none)
    else ({ l with lease := some b, releasedAddr := a.addr, releasedTag := a.tag
                   releasedLast := last }, some a)
  | some a, none =>
    ({ l with lease := none, releasedAddr := a.addr, releasedTag := a.tag, releasedLast := last }, some a)
  | none, b => ({ l with lease := b }, none)

/-- The READY snapshot `p` of layer `n` becomes committed in frame `s.frame.number`. FLIP_TIME is `flip` (R149). -/
def handOver (n : Fin 8) (p : Snapshot) (flip : U64) (s : State) : State :=
  let f := s.frame.number
  let last := s.frame.prevNumber
  let r := (s.layer n).release p f last
  let s1 := s.modLayer n fun _ => ({ r.1 with
    committed := p.config, pending := none, ready := false, lastTag := p.tag
    hasBuffer := p.config.enable, frameOfEffect := f, flipTime := flip }).settle
  let s2 := if p.group = 0 then s1 else showGroup p.group 0 s1
  match r.2 with
  | some a => event 1 (leaseBody n a last) s2
  | none => s2

/-- An enabled configuration does not fit the line buffer with the active meshes (R60). -/
def State.unfit (s : State) (c : LayerConfig) : Bool := c.enable && !c.fits (s.span? 0) (s.span? 1)

/-- R61 step 1, when a mesh swap takes effect: snapshots under check are checked again when their check ends, and pending
ones that no longer fit are dropped. -/
def recheckPending (s : State) : State :=
  let s1 : State := { s with layers := vall s.layers fun l =>
    { l with check := l.check.map fun c => { c with overtaken := true } } }
  dropPending 0x0C (fun n => (s1.layer n).pending.any fun p => s1.unfit p.config) s1

/-- A fault that fences a layer: class 2, or class 3 for an essential layer (R64). -/
def reportLayer (n : Fin 8) (cause : Byte) (s : State) : State :=
  if s.isEssential n then report (unitLayer n) cause (BitVec.ofNat 8 n.val) 3 {} s
  else report (unitLayer n) cause (BitVec.ofNat 8 n.val) 2
    { layers := BitVec.ofNat 8 (2 ^ n.val) } s

/-- R61 step 2 and its repetition at later ticket closes. -/
def reportUnfit (s : State) : State :=
  forAll (fun (n : Fin 8) t =>
    if t.unfit (t.layer n).committed then reportLayer n 0x04 t else t) s

/-- Table 3-11 at a ticket close for one layer; the readiness of its group is that of the slots `before` the hand-over. -/
def closeSlot (before : State) (flip : U64) (n : Fin 8) (s : State) : State :=
  match (before.layer n).pending with
  | none => s
  | some p =>
    if (before.layer n).ready then
      if before.groupReady p then handOver n p flip s else s
    else
      let i : Byte := BitVec.ofNat 8 n.val
      let s1 := s.modLayer n fun l => { l with
        notReadyCount := satInc l.notReadyCount, notReadyEpisode := true }
      if (before.layer n).notReadyEpisode then s1 else report1 (unitLayer n) 0x01 i s1

/-- The hand-over at a ticket close (R58). -/
def handOverAll (flip : U64) (s : State) : State := forAll (closeSlot s flip) s

/-- The palette copy of R49, taken after the hand-over. -/
def copyPalettes (s : State) : State :=
  forAll (fun (n : Fin 8) t =>
    let c := (t.layer n).committed
    if c.enable && c.format = 6 then
      let a := c.paletteAddr.toNat
      reportBad (t.badWords a 1024) (t.modLayer n fun l => { l with
        palette := t.fmRead a 1024, paletteBad := t.badIn a 1024 })
    else t.modLayer n fun l => { l with paletteBad := false }) s

/-! ### status words -/

/-- Ln_COMMIT_STATUS (Table 3-8). -/
def State.commitStatus (s : State) (n : Fin 8) : U32 :=
  let l := s.layer n
  let tag := match l.pending with
    | some p => p.tag
    | none => l.lastTag
  BitVec.ofNat 32 (tag.toNat * 2 ^ 16 + l.result.toNat * 2 ^ 8 + natOfBool (l.groupMask != 0) * 128
    + natOfBool l.edited * 64 + natOfBool (s.validBuf n) * 32
    + natOfBool (s.fencedMask.getLsbD n.val) * 16 + l.slot)

/-- Bit n of a mask from a test of each layer. -/
def maskOf (f : Fin 8 → Bool) : Byte :=
  (List.finRange 8).foldl (fun acc n => if f n then acc ||| BitVec.ofNat 8 (2 ^ n.val) else acc) 0

/-- SLOT of the group that GROUP_STATUS shows (0x2010.02). -/
def State.groupSlot (s : State) : Nat :=
  let members := (List.finRange 8).filter fun n => inMask s.group.mask n
  if members.any fun n => ((s.layer n).check.map fun c => c.snap.group == s.group.mask).getD false then 1
  else
    let held := members.filter fun n => (s.layer n).groupMask == s.group.mask
    if held = [] then 0 else if held.all fun n => (s.layer n).ready then 3 else 2

def State.groupStatus (s : State) : U32 :=
  BitVec.ofNat 32 (s.group.mask.toNat * 2 ^ 24 + s.group.result.toNat * 2 ^ 8 + s.groupSlot)

/-- The COLOUR_IDs that layers name (R52). -/
def State.colourIds (s : State) : List Nat :=
  (List.finRange 8).flatMap fun n =>
    let l := s.layer n
    [some l.committed, l.pending.map Snapshot.config, l.check.map fun c => c.snap.config].filterMap fun o =>
      match o with
      | some c => if c.enable then some c.colourId else none
      | none => none

end Sys2Proof.Machine
end

