-- ==== Sys2Proof/Machine/Pixel.lean ====
section
/-!
DEFINITION. Machine/Pixel.lean: from a tile pixel to its H code and L code: the warp (chapter 2), the layers
(chapter 4), the stamp factor and the low-beam mask (chapter 5), gain, governor, limit and encoding (R84 to R88).
All arithmetic is exact on Nat and Int; `/` on Int by a positive number is the floor, the arithmetic shift.
-/
namespace Sys2Proof.Machine

/-- mul16 (R70). -/
def mul16 (a b : Nat) : Nat := (a * b + 32767) / 65535

/-- A bounded value of an exact integer, as a Nat. -/
def clampNat (hi : Nat) (x : Int) : Nat := (clampInt 0 hi x).toNat

/-- A signed 16-bit field. -/
def i16At (l : List Byte) (off : Nat) : Int := (u16At l off).toInt

/-! ### warp (R30 to R33) -/

/-- Where a pixel points: a dark cell, off the canvas, or azimuth and elevation in fine steps. -/
inductive Direction where
  | dark
  | out
  | lit (az el : Int)
  deriving DecidableEq, Repr

/-- Interpolation of R30. -/
def interpolate (fx fy : Nat) (n00 n10 n01 n11 : Int) : Int :=
  ((8 - fx : Int) * (8 - fy) * n00 + fx * (8 - fy) * n10 + (8 - fx) * fy * n01 + fx * fy * n11 + 32) / 64

/-- Node (i, j) of the active mesh of a tile; none for a dark node (R27). -/
def State.meshNode (s : State) (n : Fin 2) (nx i j : Nat) : Option (Int × Int) :=
  let b := s.activeTable (if n = 0 then 2 else 3) (0x20 + 4 * (j * nx + i)) 4
  if u16At b 0 = 0x8000 then none else some (i16At b 0, i16At b 2)

/-- Canvas coordinates of a direction (R33). -/
def uOf (az : Int) : Int := az + 40960
def vOf (el : Int) : Int := 10240 - el

/-- The direction from the four corners, the origin, the aim and the leveling (R31, R33). -/
def directionOf (fx fy : Nat) (c00 c10 c01 c11 : Option (Int × Int)) (offAz offEl : Int) : Direction :=
  match c00, c10, c01, c11 with
  | some (a0, e0), some (a1, e1), some (a2, e2), some (a3, e3) =>
    let az := offAz + interpolate fx fy a0 a1 a2 a3
    let el := offEl + interpolate fx fy e0 e1 e2 e3
    if 0 ≤ uOf az ∧ uOf az < 81920 ∧ 0 ≤ vOf el ∧ vOf el < 20480 then .lit az el else .out
  | _, _, _, _ => .dark

/-- The direction that pixel (x, y) of tile `n` lights in the current frame; none without a valid mesh (R29). -/
def State.direction (s : State) (n : Fin 2) (x y : Nat) : Direction :=
  if !s.meshValid n then .dark else
  let kind := (s.link n).kind
  let nx := gridX kind / 8 + 1
  let head := s.meshHeader n
  let i := x / 8
  let j := y / 8
  directionOf (x % 8) (y % 8) (s.meshNode n nx i j) (s.meshNode n nx (i + 1) j)
    (s.meshNode n nx i (j + 1)) (s.meshNode n nx (i + 1) (j + 1))
    (16 * i16At head 8 + (s.frame.aimAzUsed[n]).toInt)
    (16 * i16At head 0xA + (s.frame.aimElUsed[n]).toInt + s.warp.levelApplied.toInt)

/-! ### fetch, premultiply and filter (R71 to R76) -/

/-- Three components and alpha. -/
structure Sample where
  c0 : Nat
  c1 : Nat
  c2 : Nat
  a : Nat
  deriving DecidableEq, Repr

def widen8 (c : Nat) : Nat := 257 * c
def widen10 (c : Nat) : Nat := 64 * c + c / 16

/-- Source position of R40. -/
def sourcePos (u place : Int) (step : Nat) : Int := ((u - place) * step + 2048) / 4096

/-- Components multiplied by alpha where the format holds straight colour (R74). -/
def Sample.premultiply (p : Sample) : Sample :=
  { p with c0 := mul16 p.c0 p.a, c1 := mul16 p.c1 p.a, c2 := mul16 p.c2 p.a }

/-- The FILL colour at an alpha (Table 4-3). -/
def fillColour (fill : U32) (a : Nat) : Sample :=
  ⟨mul16 (widen8 (fld fill 16 8)) a, mul16 (widen8 (fld fill 8 8)) a, mul16 (widen8 (fld fill 0 8)) a, a⟩

/-- A four-byte RGBA value, widened. -/
def rgba (b : List Byte) : Sample :=
  ⟨widen8 (byteAt b 0).toNat, widen8 (byteAt b 1).toNat, widen8 (byteAt b 2).toNat,
   widen8 (byteAt b 3).toNat⟩

/-- Source pixel (k, m) after stages 1 and 2 (R47, R48, R72 to R74); of A8 only the alpha counts. -/
def State.sourcePixel (s : State) (l : Layer) (k m : Nat) : Sample :=
  let c := l.committed
  let row := c.bufAddr.toNat + m * c.stride.toNat
  match c.format with
  | 0 => let y := widen8 (s.fm (row + k)).toNat; ⟨y, y, y, 65535⟩
  | 1 => let y := le (s.fmRead (row + 2 * k) 2); ⟨y, y, y, 65535⟩
  | 2 => ⟨0, 0, 0, widen8 (s.fm (row + k)).toNat⟩
  | 3 => { rgba (s.fmRead (row + 3 * k) 3) with a := 65535 }
  | 4 => let p := rgba (s.fmRead (row + 4 * k) 4); if c.premult then p else p.premultiply
  | 5 =>
    let g := le (s.fmRead (row + 5 * (k / 2)) 5)
    ⟨widen10 ((if k % 2 = 0 then g / 2 ^ 10 else g / 2 ^ 30) % 1024), widen10 (g % 1024),
     widen10 (g / 2 ^ 20 % 1024), 65535⟩
  | _ =>
    let p := rgba (slice l.palette (4 * (s.fm (row + k)).toNat) 4)
    if c.premult then p else p.premultiply

/-- Coefficients of Table 4-4. -/
def cubic : Vector (List Int) 16 :=
  #v[[0, 128, 0, 0], [-4, 127, 5, 0], [-6, 123, 12, -1], [-8, 118, 20, -2], [-9, 111, 29, -3],
     [-10, 103, 39, -4], [-9, 93, 50, -6], [-9, 83, 61, -7], [-8, 72, 72, -8], [-7, 61, 83, -9],
     [-6, 50, 93, -9], [-4, 39, 103, -10], [-3, 29, 111, -9], [-2, 20, 118, -8], [-1, 12, 123, -6],
     [0, 5, 127, -4]]

/-- One result of four taps (R76). -/
def taps (phase : Nat) (p : List Nat) : Nat :=
  clampNat 65535 ((((cubic[phase % 16]!).zipWith (fun (c : Int) (v : Nat) => c * v) p).sum + 64) / 128)

/-- Tap positions of one axis, clamped to the source extent (R75). -/
def tapIndex (q size : Int) : List Nat :=
  let k0 := (q - 8) / 16
  [k0 - 1, k0, k0 + 1, k0 + 2].map fun k => (clampInt 0 (size - 1) k).toNat

def tapPhase (q : Int) : Nat := ((q - 8) % 16).toNat

/-- The 4-tap filter on one component (R76). -/
def filterOne (px py : Nat) (f : Sample → Nat) (rows : List (List Sample)) : Nat :=
  taps py (rows.map fun r => taps px (r.map f))

/-- Colour limited to alpha (R76). -/
def Sample.limit (p : Sample) : Sample :=
  { p with c0 := min p.c0 p.a, c1 := min p.c1 p.a, c2 := min p.c2 p.a }

/-- Stages 1 to 3 at a source position; none where the layer has no sample (R71). -/
def State.sample (s : State) (l : Layer) (sq tq : Int) : Option Sample :=
  let c := l.committed
  if 0 ≤ sq ∧ sq < 16 * c.width.toNat ∧ 0 ≤ tq ∧ tq < 16 * c.height.toNat then
    let raw : Sample :=
      if c.filter = 1 then
        let px := tapPhase sq
        let py := tapPhase tq
        let rows := (tapIndex tq c.height.toNat).map fun m =>
          (tapIndex sq c.width.toNat).map fun k => s.sourcePixel l k m
        ⟨filterOne px py Sample.c0 rows, filterOne px py Sample.c1 rows, filterOne px py Sample.c2 rows,
         filterOne px py Sample.a rows⟩
      else s.sourcePixel l (sq / 16).toNat (tq / 16).toNat
    some (if c.format = 2 then (fillColour c.fill raw.a).limit else raw.limit)
  else none

/-! ### colour and blend (R77 to R80) -/

/-- Byte range of colour table `id` of the active LUT bank. -/
def State.colourTable (s : State) (id off len : Nat) : List Byte := s.activeTable 4 (2112 * id + off) len

/-- Stage 4 (R77): channel `r` from matrix row `m` and offset `o`. -/
def matrixRow (m0 m1 m2 o : Int) (p : Sample) : Nat :=
  let a2 : Int := p.a + p.a / 32768
  clampNat 65535 ((m0 * p.c0 + m1 * p.c1 + m2 * p.c2 + o * a2 / 8 + 2048) / 4096)

/-- Stage 5 (R78) from the two neighbouring entries. -/
def lutValue (e0 e1 frac a : Nat) : Nat :=
  min (((e0 : Int) + (((e1 : Int) - e0) * frac + 32) / 64).toNat) a

def State.channelOf (s : State) (id r : Nat) (p : Sample) : Nat :=
  let m := s.colourTable id (0x20 + 6 * r) 6
  let ch := matrixRow (i16At m 0) (i16At m 2) (i16At m 4) (i16At (s.colourTable id (0x32 + 2 * r) 2) 0) p
  let e (i : Nat) : Nat := le (s.colourTable id (0x40 + 2 * i) 2)
  lutValue (e (ch / 64)) (e (min (ch / 64 + 1) 1023)) (ch % 64) p.a

/-- Stage 7 (R80). -/
def blend (op d c a : Nat) : Nat :=
  match op with
  | 0 => c + mul16 d (65535 - a)
  | 1 => mul16 d (c + 65535 - a)
  | 2 => max d c
  | 3 => min d (c + 65535 - a)
  | 4 => min (d + c) 65535
  | _ => c

/-! ### the low-beam mask and the stamp factor (chapter 5) -/

/-- The active stamp bank holds a valid table (R103). -/
def State.stampValid (s : State) : Bool := (s.bank 5).activeBank.isSome

/-- A soft edge of `2 ^ shift` fine steps at depth `d > 0`. -/
def ramp (d : Int) (shift : Nat) : Nat :=
  min ((min d (2 ^ shift)).toNat * 2 ^ (16 - shift)) 65535

/-- The mask value M at a direction (R110, R103). -/
def State.lowBeamMask (s : State) (az el : Int) : Nat :=
  let cutoff : Int := if s.stampValid then
    i16At (s.activeTable 5 (0x10 + 2 * (uOf az / 256).toNat) 2) 0 else -36
  let shift : Nat := if s.stampValid then (byteAt (s.activeTable 5 0xC 1) 0).toNat else 6
  let d := 16 * cutoff - el
  if d ≤ 0 then 0 else ramp d shift

/-- What a stamp entry says (Table 5-6). -/
structure StampEntry where
  growL : Nat := 0
  growR : Nat := 0
  growT : Nat := 0
  growB : Nat := 0
  rampShift : Nat := 0
  fullHeight : Bool := false
  core : U16 := 0
  deriving DecidableEq, Repr

/-- The entry of a class and a range (R103). -/
def State.stampEntry (s : State) (cls : BitVec 3) (range : Byte) : StampEntry :=
  if !s.stampValid then {}
  else
    let bin := ((s.activeTable 5 4 7).filter fun e => decide (e ≤ range)).length
    let b := s.activeTable 5 (0x300 + 16 * (8 * cls.toNat + bin)) 16
    { growL := (byteAt b 0).toNat, growR := (byteAt b 1).toNat, growT := (byteAt b 2).toNat
      growB := (byteAt b 3).toNat, rampShift := (byteAt b 4).toNat
      fullHeight := (byteAt b 5).getLsbD 0, core := u16At b 6 }

/-- A slot-grid time after the ticket close, in whole ns (R104; rounded down, log entry 12). -/
def slotsNs (div : Byte) (slots : Nat) : Nat := slots * div.toNat * 312500 / 204

/-- Extrapolation time of band `b` (R104). -/
def State.extrapTime (s : State) (b : Nat) : Int :=
  s.frame.ticketTime.toNat + slotsNs s.frame.divUsed (36 + b)

/-- The extrapolation is off (R104). The lock is the one that the ticket published (R301), so that it stays fixed for
every band render of the frame (R15). -/
def State.extrapOff (s : State) : Bool := !s.frame.tbLockedSeen || s.stamp.extrapLimit == 0

/-- Offset of one axis after `us` (R104). -/
def extrapOffset (vel : Byte) (us : Int) : Int := (vel.toInt * us + 500) / 1000

/-- A rectangle in fine steps. -/
structure Rect where
  left : Int
  right : Int
  bottom : Int
  top : Int
  deriving DecidableEq, Repr

/-- The edges of a version at a time (R104, R105). DESIGN CHOICE (log entry 23): the difference of the two times is
taken exactly, where the rule's int64 would not hold it. -/
def State.boxRect (s : State) (v : BoxVersion) (t : Int) : Rect :=
  let e := s.stampEntry v.cls v.range
  let us : Int := if s.extrapOff then 0
    else clampInt 0 (1000 * s.stamp.extrapLimit.toNat) ((t - v.capture.toNat) / 1000)
  let oa := extrapOffset v.velAz us
  let oe := extrapOffset v.velEl us + (if s.frame.boxFrameUsed = 1 then s.warp.levelApplied.toInt else 0)
  let m : Int := v.margin.toNat
  { left := 16 * (v.azLeft.toInt - e.growL - m) + oa
    right := 16 * (v.azRight.toInt + e.growR + m) + oa
    bottom := 16 * (v.elBottom.toInt - e.growB - m) + oe
    top := 16 * (v.elTop.toInt + e.growT + m) + oe }

/-- The factor of one rectangle at a direction (R106). -/
def tunnel (floor : U16) (r : Rect) (full : Bool) (shift : Nat) (coreT : U16) (az el : Int) : Nat :=
  let d0 := min (min (az - r.left) (r.right - az)) (el - r.bottom)
  let d := if full then d0 else min d0 (r.top - el)
  if d ≤ 0 then 65535
  else 65535 - mul16 (65535 - max coreT.toNat floor.toNat) (ramp d shift)

/-- The factor of one version. -/
def State.boxFactor (s : State) (v : BoxVersion) (t az el : Int) : Nat :=
  let e := s.stampEntry v.cls v.range
  tunnel s.stamp.attenFloor (s.boxRect v t) e.fullHeight e.rampShift e.core az el

/-- The factor of a RETAIN rectangle. -/
def State.retainFactor (s : State) (v : RetainBox) (az el : Int) : Nat :=
  tunnel s.stamp.attenFloor ⟨v.left, v.right, v.bottom, v.top⟩ v.fullHeight 0 v.core az el

/-- The stamp factor T (R106, R107): LIVE and RETAIN as the band gate sampled them. -/
def State.stampFactor (s : State) (band : Nat) (az el : Int) : Nat :=
  let t := s.extrapTime band
  let versions := (s.stamp.ticket.toList ++ s.stamp.gateLive.toList).filterMap id
  let retains := s.stamp.gateRetain.toList.filterMap id
  let f1 := versions.foldl (fun acc v => min acc (s.boxFactor v t az el)) 65535
  retains.foldl (fun acc v => min acc (s.retainFactor v az el)) f1

/-! ### composition -/

/-- The layer takes part in composition (R42, R64): enabled, unfenced and not left out by an underrun. -/
def State.layerOn (s : State) (left : Byte) (n : Fin 8) : Bool :=
  (s.layer n).committed.enable && !s.fencedMask.getLsbD n.val && !left.getLsbD n.val

/-- Source position of a layer at a direction (R40). -/
def LayerConfig.sourceAt (c : LayerConfig) (az el : Int) : Int × Int :=
  (sourcePos (uOf az) c.placeU.toInt c.stepU.toNat, sourcePos (vOf el) c.placeV.toInt c.stepV.toNat)

/-- Stage 6 (R79, R110). -/
def State.opacityOf (s : State) (c : LayerConfig) (az el : Int) : Nat :=
  let op := widen8 c.opacity
  if (s.stamp.forcing || s.fences.twin) && c.highBeam then mul16 op (s.lowBeamMask az el) else op

/-- Layer `n` blended onto output channel values (stages 1 to 7). -/
def State.blendLayer (s : State) (left : Byte) (az el : Int) (d : List Nat) (n : Fin 8) : List Nat :=
  if !s.layerOn left n then d
  else
    let l := s.layer n
    let c := l.committed
    let q := c.sourceAt az el
    match s.sample l q.1 q.2 with
    | none => d
    | some p =>
      let op := s.opacityOf c az el
      d.mapIdx fun r x => blend c.blendOp x (mul16 (s.channelOf c.colourId r p) op) (mul16 p.a op)

/-- The composed intensity of each output channel (R42, R69). -/
def State.compose (s : State) (left : Byte) (channels : Nat) (az el : Int) : List Nat :=
  (List.finRange 8).foldl (s.blendLayer left az el) (List.replicate channels 0)

/-! ### stages 8 to 12 -/

/-- Stage 11 limit of a fault state; none where the codes are forced to zero (Table 4-7). -/
def fstateLimit (w : Nat) : Option Nat :=
  match w % 16 with
  | 0 => some 65535
  | 1 | 2 => some 69360
  | _ => none

/-- Stages 9 and 10 (R84). -/
def scaled (w gain scale : Nat) : Nat := ((w * gain + 1024) / 2048 * scale + 16384) / 32768

/-- Table 4-8. -/
def dseq : Vector Nat 16 := #v[0, 8, 4, 12, 2, 10, 6, 14, 1, 9, 5, 13, 3, 11, 7, 15]

/-- The dither bit (R87, R88). -/
def ditherBit (mode : Byte) (frame x y f : Nat) : Nat :=
  match mode.toNat with
  | 0 => if dseq[(frame + 4 * (y % 4) + x % 4) % 16]! < f then 1 else 0
  | 1 => if 8 ≤ f then 1 else 0
  | _ => 0

/-- Stage 12 (R86): the H code and the L code of a drive value. -/
def encodeDrive (mode : Byte) (frame x y d : Nat) : Nat × Nat :=
  let v := d / 16
  let h := min (v / 16) 255
  (h, v - 16 * h + ditherBit mode frame x y (d % 16))

/-- The calibration word of an emitter (R82) from the active bank of the tile's pair. -/
def State.calWord (s : State) (n : Fin 2) (x y e : Nat) : Nat :=
  le (s.activeTable (if n = 0 then 0 else 1) (2 * wordIndex (s.link n).kind x y e) 2)

/-- G of stage 10 (R84): the scale in the ticket, under the clamp of R223 and the cap of R19 and R210. -/
def State.govInUse (s : State) (n : Fin 2) : Nat :=
  let g := (s.cur n).govScale.toNat
  let g1 := if s.fences.clamp.getLsbD n.val then min g (s.guard.clampG[n]).toNat else g
  if s.halfCap n then min g1 0x4000 else g1

/-- One code of a pixel or emitter: H code, L code, and whether stage 11 clamped it. -/
structure Code where
  h : Nat := 0
  l : Nat := 0
  clamped : Bool := false
  deriving DecidableEq, Repr, Inhabited

/-- Stages 8 to 12 of one emitter from its composed intensity and stamp factor. -/
def State.codeOf (s : State) (n : Fin 2) (x y e d t : Nat) : Code :=
  let w := s.calWord n x y e
  match fstateLimit w with
  | none => {}
  | some lim =>
    let q := scaled (mul16 d t) (w / 16) (s.govInUse n)
    let c := encodeDrive s.frame.ditherUsed s.frame.number.toNat x y (min q lim)
    { h := c.1, l := c.2, clamped := decide (lim < q) }

/-- The pixel lies in a fenced sector (R91). -/
def State.inFencedSector (s : State) (n : Fin 2) (x y : Nat) : Bool :=
  (s.fencedSectors n).getLsbD (sectorOf (s.link n) x y)

/-- Place of a position in the order in which its band's positions are sent. -/
def bandIndex (kind : Byte) (x y : Nat) : Nat := y % bandRows kind * gridX kind + x

/-- The direction of a position in a band render: the positions `forced` fail the residue check and are dark (R245). -/
def State.renderDirection (s : State) (forced : List Nat) (n : Fin 2) (x y : Nat) : Direction :=
  if forced ≠ [] ∧ bandIndex (s.link n).kind x y ∈ forced then .dark else s.direction n x y

/-- The codes of one position, and whether it is lit off the canvas (R38, R91). -/
def State.pixelCodes (s : State) (left : Byte) (forced : List Nat) (n : Fin 2) (band x y : Nat) : List Code × Bool :=
  let k := emitters (s.link n).kind
  match s.renderDirection forced n x y with
  | .dark => (List.replicate k {}, false)
  | .out => (List.replicate k {}, true)
  | .lit az el =>
    if s.inFencedSector n x y then (List.replicate k {}, false)
    else
      let t := s.stampFactor band az el
      ((s.compose left k az el).mapIdx fun e d => s.codeOf n x y e d t, false)

/-- Positions of a band in the order codes are sent: row by row from its first row (R92, R172). -/
def bandPositions (kind : Byte) (b : Nat) : List (Nat × Nat) :=
  (List.range (bandRows kind)).flatMap fun r =>
    (List.range (gridX kind)).map fun x => (x, bandRows kind * b + r)

/-- What one band render of one tile gives. -/
structure BandCodes where
  codes : List Byte := []
  ooc : Nat := 0
  clamped : Nat := 0
  deriving DecidableEq, Repr, Inhabited

/-- The Sward render of a band (R90): codes of subframe H or L. -/
def State.renderBand (s : State) (left : Byte) (forced : List Nat) (n : Fin 2) (b : Nat) (subL : Bool) : BandCodes :=
  let px := (bandPositions (s.link n).kind b).map fun p => s.pixelCodes left forced n b p.1 p.2
  { codes := px.flatMap fun p => p.1.map fun c => BitVec.ofNat 8 (if subL then c.l else c.h)
    ooc := (px.filter fun p => p.2).length
    clamped := (px.flatMap fun p => p.1.filter Code.clamped).length }

/-! ### rows a band render reads (R155) -/

/-- Source rows that a layer reads at a direction. -/
def LayerConfig.rowsAt (c : LayerConfig) (az el : Int) : List Nat :=
  let q := c.sourceAt az el
  if 0 ≤ q.1 ∧ q.1 < 16 * c.width.toNat ∧ 0 ≤ q.2 ∧ q.2 < 16 * c.height.toNat then
    if c.filter = 1 then tapIndex q.2 c.height.toNat else [(q.2 / 16).toNat]
  else []

/-- Source rows of a layer that hold an uncorrectable word. -/
def State.badRows (s : State) (c : LayerConfig) : List Nat :=
  if s.mem.bad = [] then []
  else (List.range c.height.toNat).filter fun m => s.badIn (c.bufAddr.toNat + m * c.stride.toNat) c.rowBytes

/-- The layer reads an uncorrectable word in the render of band `b` of a tile. -/
def State.readsBad (s : State) (l : Layer) (n : Fin 2) (b : Nat) : Bool :=
  let bad := s.badRows l.committed
  !bad.isEmpty && (bandPositions (s.link n).kind b).any fun p =>
    match s.direction n p.1 p.2 with
    | .lit az el => (l.committed.rowsAt az el).any fun m => bad.contains m
    | _ => false

/-- A range of the active table of a pair, as an address and a length. -/
def State.tableRange (s : State) (p : Fin 8) (off len : Nat) : List (Nat × Nat) :=
  match (s.bank p).activeBank with
  | none => []
  | some b => [((bankWindow p b).1 + off, len)]

/-- What the render of band `b` of a tile reads in its mesh and in its calibration bank. -/
def State.tileRanges (s : State) (n : Fin 2) (b : Nat) : List (Nat × Nat) :=
  let kind := (s.link n).kind
  let nx := gridX kind / 8 + 1
  let first := bandRows kind * b
  let mesh : Fin 8 := if n = 0 then 2 else 3
  s.tableRange mesh 0 32 ++ s.tableRange mesh (0x20 + 4 * nx * (first / 8)) (4 * nx * (bandRows kind / 8 + 1))
  ++ s.tableRange (if n = 0 then 0 else 1) (2 * wordIndex kind 0 first 0) (2 * bandCodes kind)

/-- The ranges of the tables that the render of band `b` reads: mesh and calibration of each tile, the colour tables of
the layers that take part, and the stamp table (R272, log entry 99). -/
def State.tableRanges (s : State) (b : Nat) : List (Nat × Nat) :=
  ((List.finRange 2).filter fun n => (s.link n).isUp).flatMap (fun n => s.tileRanges n b)
  ++ ((List.finRange 8).filter (s.layerOn 0)).flatMap (fun k => s.tableRange 4 (2112 * (s.layer k).committed.colourId) 2112)
  ++ s.tableRange 5 0 0x700

/-- The source rows that the render of band `b` reads, as ranges. -/
def State.rowRanges (s : State) (b : Nat) : List (Nat × Nat) :=
  (List.finRange 8).flatMap fun k =>
    let c := (s.layer k).committed
    if !s.layerOn 0 k then []
    else ((List.range c.height.toNat).filter fun m => (List.finRange 2).any fun n =>
        (s.link n).isUp && (bandPositions (s.link n).kind b).any fun p =>
          match s.direction n p.1 p.2 with
          | .lit az el => (c.rowsAt az el).contains m
          | _ => false).map fun m => (c.bufAddr.toNat + m * c.stride.toNat, c.rowBytes)

/-- The uncorrectable words among ranges that are read. -/
def State.badAmong (s : State) (ranges : List (Nat × Nat)) : List Nat :=
  s.mem.bad.filter fun w => ranges.any fun r => decide (w * 32 < r.1 + r.2) && decide (r.1 < (w + 1) * 32)

end Sys2Proof.Machine
end

