-- ==== Sys2Proof/Machine/Stamp.lean ====
section
/-!
DEFINITION. Machine/Stamp.lean: the stamp unit's box sets and the QUICK records (chapter 5), and the leveling target
and its application (R35, R36).
-/
namespace Sys2Proof.Machine

/-! ### leveling -/

/-- An accepted leveling value (R35). -/
def setLevel (v : U16) (s : State) : State :=
  { s with warp := { s.warp with level := v, levelAt := some s.clock, levelEpisode := false } }

/-- A LEVEL record: the value is clamped to ±4096 and a clamp is counted (R35). -/
def quickLevel (v : Int) (s : State) : State :=
  let c := clampInt (-4096) 4096 v
  let s1 := setLevel (BitVec.ofInt 16 c) s
  if c = v then s1
  else { s1 with warp := { s1.warp with levelClampCount := satInc s1.warp.levelClampCount } }

/-- The stale branch of R36 is taken. -/
def State.levelStale (s : State) : Bool :=
  s.warp.levelTimeout != 0 && decide (s.warp.levelTimeout ≤ s.age16 s.warp.levelAt)

/-- LEVEL_APPLIED from the effective target (R36). -/
def slewLevel (slew : U16) (target applied : Int) : Int :=
  let step := target - applied
  applied + (if slew = 0 then step else clampInt (-(slew.toNat : Int)) slew.toNat step)

/-- LEVEL_APPLIED and the stale episode at a ticket close (R36). -/
def levelTicket (s : State) : State :=
  let stale := s.levelStale
  let target : Int := if stale then s.warp.levelStaleValue.toInt else s.warp.level.toInt
  let episode := stale && s.warp.levelAt.isSome && !s.warp.levelEpisode
  let s1 : State := { s with warp := { s.warp with
    levelApplied := BitVec.ofInt 16 (slewLevel s.warp.levelSlew target s.warp.levelApplied.toInt)
    levelEpisode := s.warp.levelEpisode || episode } }
  if episode then report1 0x18 0x08 0xFF s1 else s1

/-! ### box sets (R95, R96) -/

/-- The smallest rectangle that contains two. -/
def Rect.join (a b : Rect) : Rect :=
  ⟨min a.left b.left, max a.right b.right, min a.bottom b.bottom, max a.top b.top⟩

/-- The RETAIN rectangle of one version: steps 1 and 2 of R96. -/
def State.retainOf (s : State) (v : BoxVersion) : RetainBox :=
  let r := (s.boxRect v (s.extrapTime 0)).join (s.boxRect v (s.extrapTime 31))
  let e := s.stampEntry v.cls v.range
  { left := r.left, right := r.right, bottom := r.bottom, top := r.top, fullHeight := e.fullHeight, core := e.core }

/-- Step 3 of R96. -/
def RetainBox.merge (a b : RetainBox) : RetainBox :=
  { left := min a.left b.left, right := max a.right b.right, bottom := min a.bottom b.bottom
    top := max a.top b.top, fullHeight := a.fullHeight || b.fullHeight
    core := if a.core ≤ b.core then a.core else b.core }

/-- Gate samples taken so far, the one that waits for its FRAME_SLOT_START included. -/
def State.gateCount (s : State) : Nat := s.stamp.samples + natOfBool s.frame.gate.isSome

/-- A LIVE version leaves LIVE. One accepted and removed between the same two gate samples is discarded (R96). -/
def removeLive (id : Fin 64) (s : State) : State :=
  match s.stamp.live[id] with
  | none => s
  | some v =>
    let s1 : State := { s with stamp := { s.stamp with live := vput s.stamp.live id none } }
    if v.sinceSample = s.gateCount then s1
    else
      let new := s.retainOf v
      let r := match s.stamp.retain[id] with
        | none => new
        | some old => old.merge new
      { s1 with stamp := { s1.stamp with retain := vput s1.stamp.retain id (some r) } }

/-- A LIVE version is accepted for an ID; the one it supersedes leaves LIVE (R96). -/
def putLive (id : Fin 64) (v : BoxVersion) (s : State) : State :=
  let s1 := removeLive id s
  { s1 with stamp := { s1.stamp with live := vput s1.stamp.live id (some v) } }

/-- Non-empty entries of a set. -/
def countSome {α : Type} (v : Vector (Option α) 64) : Nat := (v.toList.filter Option.isSome).length

/-- QUICK_STATUS (Table 5-8). -/
def State.quickStatus (s : State) : U32 :=
  BitVec.ofNat 32 (natOfBool s.stamp.stale * 2 ^ 31 + natOfBool s.stampValid * 2 ^ 30
    + natOfBool s.extrapOff * 2 ^ 29 + countSome s.stamp.live * 2 ^ 16
    + countSome s.stamp.ticket * 2 ^ 8 + countSome s.stamp.retain)

/-- The sample of the gate of the current frame slot: the one taken at the slot edge, or the present state. -/
def State.gateTaken (s : State) : GateSample := (s.frame.gate.filter fun g => g.slot == s.frame.slot).getD s.gateNow

/-- The band gate's sample at the start of a band render (R107), the forcing of a stale channel (R110), and the missing
stamp table (R103), reported once per reset. -/
def gateSample (s : State) : State :=
  let first := !s.stampValid && !s.stamp.noTableReported
  let g := s.gateTaken
  let asSeen : State := { s with stamp := { s.stamp with live := g.live, retain := g.retain, stale := g.stale } }
  let s1 : State := { s with
    stamp := { s.stamp with
      gateLive := g.live, gateRetain := g.retain, samples := s.stamp.samples + 1
      forcing := s.stamp.forcing || g.stale, status := asSeen.quickStatus
      noTableReported := s.stamp.noTableReported || first }
    frame := { s.frame with gate := none } }
  if first then report1 0x19 0x05 0xFF s1 else s1

/-- The stamp unit at a ticket close (R95, R110). -/
def stampTicket (s : State) : State :=
  { s with stamp := { s.stamp with
      ticket := s.stamp.live
      retain := .replicate 64 none
      forcing := s.stamp.forcing && s.stamp.stale } }

/-- A parity error of the entries of an ID (R113). -/
def boxParity (id : Fin 64) (s : State) : State := report 0x19 0x09 (BitVec.ofNat 8 id.val) 3 {} s

/-! ### QUICK packets (R97 to R101) -/

def boxId (b : List Byte) : Fin 64 :=
  ⟨(byteAt b 1).toNat % 64, Nat.mod_lt _ (by decide)⟩

/-- A BOX record passes the checks of R100. -/
def boxOk (b : List Byte) : Bool :=
  let az (o : Nat) : Int := i16At b o
  decide ((byteAt b 1).toNat < 64) && decide ((byteAt b 2).toNat < 8) && byteAt b 0xF == 0
  && decide (az 4 < az 6) && decide (az 0xA < az 8)
  && decide (-2560 ≤ az 4) && decide (az 6 ≤ 2559) && decide (-639 ≤ az 0xA) && decide (az 8 ≤ 640)

/-- One record (Table 5-2); none when it is rejected. -/
def quickRecord (b : List Byte) (capture : U64) (s : State) : Option State :=
  match (byteAt b 0).toNat with
  | 1 =>
    if boxOk b then
      some (putLive (boxId b)
        { cls := BitVec.ofNat 3 (byteAt b 2).toNat, range := byteAt b 3
          azLeft := u16At b 4, azRight := u16At b 6, elTop := u16At b 8, elBottom := u16At b 0xA
          velAz := byteAt b 0xC, velEl := byteAt b 0xD, margin := byteAt b 0xE
          capture := capture, acceptedAt := s.clock, sinceSample := s.gateCount } s)
    else none
  | 2 =>
    if (byteAt b 1).toNat < 64 && allZero (b.drop 2) then some (removeLive (boxId b) s) else none
  | 3 =>
    if allZero (slice b 1 3) && allZero (b.drop 6) then some (quickLevel (i16At b 4) s) else none
  | 4 => if allZero (b.drop 1) then some (forAll removeLive s) else none
  | _ => none

/-- The records of an accepted packet in order (R99). -/
def quickRecords (capture : U64) : List (List Byte) → State → State
  | [], s => s
  | b :: t, s =>
    match quickRecord b capture s with
    | some s1 => quickRecords capture t s1
    | none => quickRecords capture t
        { s with stamp := { s.stamp with boxRejected := satInc s.stamp.boxRejected } }

/-- The packet is dropped by R98. -/
def State.quickDrops (s : State) (b : List Byte) : Bool :=
  let d := (u16At b 2 - s.stamp.lastSeq).toNat
  byteAt b 0 != 1 || u32At b 4 != 0 || decide (65 < (byteAt b 1).toNat)
  || decide (b.length ≠ 16 + 16 * (byteAt b 1).toNat)
  || (!s.stamp.stale && !(decide (1 ≤ d) && decide (d ≤ 32767)))

/-- A QUICK payload that passed the link check (R97 to R99). -/
def quickPayload (b : List Byte) (s : State) : State :=
  if s.quickDrops b then { s with stamp := { s.stamp with dropped := satInc s.stamp.dropped } }
  else
    let records := (List.range (byteAt b 1).toNat).map fun r => slice b (16 + 16 * r) 16
    let s1 : State := { s with stamp := { s.stamp with
      lastSeq := u16At b 2, accepted := satInc s.stamp.accepted, acceptedAt := some s.clock, stale := false } }
    quickRecords (u64At b 8) records s1

/-! ### expiry and staleness -/

/-- BOX_EXPIRY: the LIVE version of an ID reaches its hold time (R109). -/
def State.boxDue (id : Fin 64) (s : State) : Option Nat :=
  s.stamp.live[id].map fun v => v.acceptedAt + cyclesMs s.stamp.boxHold.toNat

/-- QUICK_CHANNEL_STALE: QUICK_AGE reaches QUICK_STALE (R110). -/
def State.quickStaleDue (s : State) : Option Nat :=
  if s.stamp.stale then none else s.stamp.acceptedAt.map fun e => e + cyclesMs s.stamp.quickStale.toNat

def quickStale (s : State) : State :=
  report1 0x19 0x08 0xFF { s with stamp := { s.stamp with stale := true, staleCount := satInc s.stamp.staleCount } }

end Sys2Proof.Machine
end

