-- ==== Sys2Proof/Machine/SvarnH.lean ====
section
/-!
DEFINITION. Machine/SvarnH.lean: the packets of Svarn-H in both directions, the stream windows and the link's own
states (R163 to R170, R182, R187).
-/
namespace Sys2Proof.Machine

/-! ### the link -/

/-- A loop session on Svarn-H stops its packet traffic (R184). A PRBS session without a loop leaves it running (DESIGN CHOICE,
log entry 120). -/
def State.svhLooped (s : State) : Bool :=
  s.safety.testRunning && fld s.safety.testCtrl 28 4 == 0 && fld s.safety.testCtrl 4 4 != 0

/-- Inbound packets reach the device. -/
def State.svhReceives (s : State) : Bool := s.svh.linkUp && s.svh.rxPs == 0 && !s.svhLooped

def crcError (s : State) : State := { s with svh := { s.svh with crcErr := satInc s.svh.crcErr } }
def frameError (s : State) : State := { s with svh := { s.svh with frameErr := satInc s.svh.frameErr } }

/-- Disparity errors above invalid codes, each half saturating (0x4801). -/
def laneCount (disparity : Bool) (c : U32) : U32 :=
  let half (hit : Bool) (v : Nat) : Nat := if hit then min (v + 1) 0xFFFF else v
  BitVec.ofNat 32 (half disparity (fld c 16 16) * 2 ^ 16 + half (!disparity) (fld c 0 16))

/-- One symbol error of a lane is counted. -/
def laneError (e : Fin 4 × Bool) (s : State) : State :=
  { s with svh := { s.svh with laneErr := vmod s.svh.laneErr e.1 (laneCount e.2) } }

/-- They are counted lane by lane. -/
def symbolErrors (p : Packet) (s : State) : State := (packetErrors p).foldl (fun t e => laneError e t) s

/-- The kinds that the host sends (Table 8-5). -/
def hostKinds : List Byte := [1, 2, 3, 4]

/-- The checks of R163; `reserved` says that a reserved header bit of the kind is set. A packet of another kind that the host
may send is no business of this command. While the link is down or a loop runs nothing arrives, and no symbol error counts
(DESIGN CHOICE, log entry 120). -/
def svhReceive (kind : Byte) (limit : Nat) (p : Packet) (reserved : Bool) (act : State → State) (s : State) : State :=
  if !s.svhReceives then s
  else
    let s1 := symbolErrors p s
    if p.arrival = .whole ∧ p.crc ≠ packetCheck p then crcError s1
    else if !packetWhole p || !hostKinds.contains p.kind then frameError s1
    else if p.kind ≠ kind then s1
    else if reserved || decide (limit < p.payload.length) || p.payload.length % 4 != 0 then frameError s1
    else act s1

/-! ### stream windows (R165, R166) -/

def State.window (s : State) (w : Fin 16) : Window := s.svh.windows[w]
def State.modWindow (s : State) (w : Fin 16) (f : Window → Window) : State :=
  { s with svh := { s.svh with windows := vmod s.svh.windows w f } }

def windowOf (p : Packet) : Fin 16 := ⟨fld p.info 0 4, Nat.mod_lt _ (by decide)⟩

/-- A packet error of an open buffer. -/
def windowError (w : Fin 16) (s : State) : State :=
  s.modWindow w fun x => { x with error := true, errCount := satInc x.errCount }

/-- Body of EVENT WINDOW (Table 8-6). -/
def windowBody (w : Fin 16) (err : Bool) (seq : U16) (frame : U32) : List Byte :=
  [BitVec.ofNat 8 w.val, byteOfBool err] ++ bytes16 seq ++ bytes32 frame ++ List.replicate 8 0

/-- The end-of-buffer of a window: its event and the gates that wait for it (R56, R166). -/
def endOfBuffer (w : Fin 16) (err : Bool) (s : State) : State :=
  let x := s.window w
  let s1 := s.modWindow w fun x => { x with opened := false, error := false, eobCount := satInc x.eobCount }
  gateEvent 1 (BitVec.ofNat 4 w.val) err (event 5 (windowBody w err x.seq s1.frame.number) s1)

/-- The payload of a STREAM packet: written, or discarded with a packet error (R166, log entry 22). -/
def streamWrite (w : Fin 16) (p : Packet) (s : State) : State :=
  let x := s.window w
  let off := p.a.toNat
  if off % 4 ≠ 0 ∨ x.size.toNat < off + p.payload.length then windowError w s
  else
    match hostStore (BitVec.ofNat 8 w.val) (x.base.toNat + off) p.payload s with
    | (s1, .written) => s1
    | (s1, .refused) => windowError w s1

/-- A STREAM packet that passed the link check. A stopped Svarn-H discards SOB packets (R355), and a disabled window, of
WIN_SIZE 0, every packet (R167; DESIGN CHOICE, log entry 118: it is counted as one for a closed window). -/
def streamAccept (p : Packet) (s : State) : State :=
  let w := windowOf p
  let x := s.window w
  let sob := packetFlag p 0
  if x.size = 0 || (!sob && !x.opened) || (sob && s.blockStopped 7) then
    s.modWindow w fun x => { x with errCount := satInc x.errCount }
  else
    let s1 :=
      if sob then
        let t := if x.opened then endOfBuffer w true s else s
        t.modWindow w fun x => { x with opened := true, error := false }
      else if p.seq ≠ x.seq + 1 then windowError w s
      else s
    let s2 := streamWrite w p (s1.modWindow w fun x => { x with seq := p.seq })
    if packetFlag p 1 then endOfBuffer w (s2.window w).error s2 else s2

def execStreamPacket (p : Packet) (s : State) : Host.Outcome State Fault Refusal :=
  .next (svhReceive 1 2048 p (fld p.info 4 12 != 0 || p.b != 0 || fld p.flags 2 6 != 0) (streamAccept p) s)

/-! ### BULK (R168) -/

/-- EVENT BULK_ACK, where the packet asks for it. -/
def bulkAck (p : Packet) (status : Byte) (s : State) : State :=
  if packetFlag p 0 then
    event 3 (bytes16 p.seq ++ [status, 0] ++ bytes32 p.a ++ List.replicate 8 0) s
  else s

/-- A BULK packet that is discarded. -/
def bulkDiscard (p : Packet) (s : State) : State := bulkAck p 2 (frameError s)

/-- Reserved bits of a BULK header: FLAGS [7:1] and INFO [15:8]; for READ also B [15:12]. -/
def bulkReserved (p : Packet) : Bool := fld p.flags 1 7 != 0 || fld p.info 8 8 != 0

def bulkWriteAccept (p : Packet) (s : State) : State :=
  if fld p.info 0 8 ≠ 1 ∨ p.a.toNat % 4 ≠ 0 ∨ fmSize < p.a.toNat + p.payload.length then bulkDiscard p s
  else
    match hostStore 0xFF p.a.toNat p.payload s with
    | (s1, .written) => bulkAck p 0 s1
    | (s1, .refused) => bulkAck p 1 s1

def bulkReadAccept (p : Packet) (s : State) : State :=
  let len := fld p.b 0 12
  if fld p.info 0 8 ≠ 2 ∨ p.length ≠ 0 ∨ p.a.toNat % 4 ≠ 0 ∨ len < 4 ∨ 2048 < len ∨ len % 4 ≠ 0
      ∨ fmSize < p.a.toNat + len then bulkDiscard p s
  else
    let rb : Readback := ⟨BitVec.ofNat 16 (fld p.b 16 16), p.a, s.fmRead p.a.toNat len⟩
    let s1 := reportBad (s.badWords p.a.toNat len) s
    bulkAck p 0 { s1 with svh := { s1.svh with readbacks := s1.svh.readbacks ++ [rb] } }

def execBulkWrite (p : Packet) (s : State) : Host.Outcome State Fault Refusal :=
  .next (svhReceive 2 2048 p (bulkReserved p) (bulkWriteAccept p) s)

def execBulkRead (p : Packet) (s : State) : Host.Outcome State Fault Refusal :=
  .next (svhReceive 2 2048 p (bulkReserved p || fld p.b 12 4 != 0) (bulkReadAccept p) s)

/-! ### QUICK (R169) -/

/-- A header whose FLAGS, SEQ, INFO, A and B are reserved has one of them set. -/
def headerReserved (p : Packet) : Bool := p.flags != 0 || p.seq != 0 || p.info != 0 || p.a != 0 || p.b != 0

def execQuickPacket (p : Packet) (s : State) : Host.Outcome State Fault Refusal :=
  .next (svhReceive 3 1056 p (headerReserved p) (quickPayload p.payload) s)

/-! ### the transmitter (R170) -/

/-- The next packet leaves: OBJ reply, EVENT, READBACK; a pending packet resumes lanes in L1 (Table 8-13). -/
def transmit (s : State) : State :=
  if !s.svh.linkUp || s.svhLooped || s.svh.txPs == 2 then s
  else
    match s.svh.replies, s.svh.events, s.svh.readbacks with
    | r :: t, _, _ => { s with svh := { s.svh with replies := t, sent := some (.reply r), txPs := 0 } }
    | [], e :: t, _ => { s with svh := { s.svh with events := t, sent := some (.event e), txPs := 0 } }
    | [], [], b :: t => { s with svh := { s.svh with readbacks := t, sent := some (.readback b), txPs := 0 } }
    | [], [], [] => s

def execEventTransmit (s : State) : Host.Outcome State Fault Refusal := .next (transmit s)

/-! ### link states (R182, R187) -/

/-- The link goes down and retrains (R187, RETRAIN of SVH_CTRL). -/
def svhDown (s : State) : State :=
  { s with svh := { s.svh with linkUp := false, lanesLocked := 0, retrainCount := satInc s.svh.retrainCount } }

/-- SVARN_H_LINK_LOSS: a receive lane loses symbol lock for 10 µs outside L1 and L2 (R187). -/
def execSvarnHLinkLoss (s : State) : Host.Outcome State Fault Refusal :=
  .next (if s.svh.linkUp && s.svh.rxPs == 0 then report1 0x30 0x0C 0xFF (svhDown s) else s)

/-- SVARN_H_LINK_UP: the link-up sequence completes (R170). -/
def execSvarnHLinkUp (s : State) : Host.Outcome State Fault Refusal :=
  .next (if s.aon.held || !s.net.served || !(s.safety.power == .run || s.safety.power == .idle) then s
    else { s with svh := { s.svh with linkUp := true, lanesLocked := 0xF, rxPs := 0 } })

/-- SVARN_H_RX_IDLE_ENTRY: the host idles the receive lanes in L1 or L2 (R182). From L2 the link comes back only by the
link-up sequence. -/
def execSvarnHRxIdleEntry (deep : Bool) (s : State) : Host.Outcome State Fault Refusal :=
  .next (if s.svh.linkUp then
      { s with svh := { s.svh with rxPs := if deep then 2 else 1, lanesLocked := 0, linkUp := !deep } }
    else s)

/-- SVARN_H_RX_IDLE_EXIT: lanes in L1 relock without retraining (R182). -/
def execSvarnHRxIdleExit (s : State) : Host.Outcome State Fault Refusal :=
  .next (if s.svh.linkUp && s.svh.rxPs == 1 then
      { s with svh := { s.svh with rxPs := 0, lanesLocked := 0xF } }
    else s)

end Sys2Proof.Machine
end

