-- ==== Sys2Proof/Machine/Faults.lean ====
section
/-!
DEFINITION. Machine/Faults.lean: the fault collector (chapter 12): acceptance of a pending report with its reaction,
coalescing, merging and eviction, the conditions and lifts at frame slot 67 and at a ticket close, and the
acknowledge and clear commands.
-/
namespace Sys2Proof.Machine

/-! ### the catalogue (Tables 12-5 and 12-6) -/

/-- Lift rules of R276, in rising strictness. -/
inductive Lift where
  | auto | clear | reset
  deriving DecidableEq, Repr

def Lift.max : Lift → Lift → Lift
  | .reset, _ => .reset
  | _, .reset => .reset
  | .clear, _ => .clear
  | _, .clear => .clear
  | .auto, .auto => .auto

def isLayerUnit (u : Byte) : Bool := decide (0x10 ≤ u.toNat) && decide (u.toNat ≤ 0x17)
def isLinkUnit (u : Byte) : Bool := u == 0x31 || u == 0x32
def isTileUnit (u : Byte) : Bool := u == 0x38 || u == 0x39

/-- Lift column of Table 12-5 for a held cause. -/
def Held.lift (h : Held) : Lift :=
  if isLayerUnit h.unit then (if h.cause = 0x04 then .auto else .clear)
  else if h.unit = 0x18 || h.unit = 0x1A then
    (if h.cause = 0x05 || h.cause = 0x1B then .auto else .clear)
  else if h.unit = 0x1B || h.unit = 0x48 || h.unit = 0x60 then .auto
  else if h.unit = 0x20 then .reset
  else if isLinkUnit h.unit then (if h.cause = 0x0C then .auto else .clear)
  else if isTileUnit h.unit then
    (if h.cause = 0x0D || h.cause = 0x0E then .reset
     else if h.cause = 0x10 then .auto else .clear)
  else if h.unit = 0x61 then .auto
  else .clear

/-- The strictest rule among the causes of class 2 and higher that a record holds (R270). -/
def Record.lift (r : Record) : Lift := r.held.foldl (fun acc h => if 2 ≤ h.cls then acc.max h.lift else acc) .auto

/-- `u` follows the unit of a record (Table 12-6). -/
def follows (r : Record) (u : Byte) : Bool :=
  let f := r.unit
  (f == 0x01 && (u == 0x18 || u == 0x1A || u == 0x1B || u == 0x59))
  || (isLayerUnit f && (u == 0x40 || u == 0x41))
  || (f == 0x20 && isLayerUnit u)
  || (isLinkUnit f && (u == f + 7 || u == 0x40 || u == 0x41))
  || (isTileUnit f && (u == 0x1B || u == 0x40 || u == 0x41))
  || (f == 0x41 && u == 0x40)
  || f == 0x68 || f == 0x69
  || (r.cls == 3 && (u == 0x40 || u == 0x41))

/-- The record's reaction runs (R270). -/
def Record.running (r : Record) : Bool := r.inForce && (r.cls == 4 || decide (0 < r.runLeft))

/-! ### conditions (R275) -/

/-- The catalogue's own condition of a cause, where it names one: gone once the link is UP, once the tile has a mesh or
an active calibration bank, once a build verifies, once the thermal restart has occurred, once the supply has recovered
(R367). -/
def State.namedCondition (s : State) (h : Held) : Option Bool :=
  let tile : Fin 2 := if h.index = 0 then 0 else 1
  if h.unit = 0x31 && h.cause = 0x0C then some (s.link 0).isUp
  else if h.unit = 0x32 && h.cause = 0x0C then some (s.link 1).isUp
  else if h.unit = 0x18 && h.cause = 0x05 then some (s.meshValid tile)
  else if h.unit = 0x1A && h.cause = 0x05 then some (s.bank (if tile = 0 then 0 else 1)).activeBank.isSome
  else if h.unit = 0x1A && h.cause = 0x1B then some h.healed
  else if h.unit = 0x61 && h.cause = 0x1E then some (!s.aon.thermalHold)
  else if h.unit = 0x68 && h.cause = 0x1C then
    some (!(s.power.supplies.toList.getD h.index.toNat {}).warn)
  else none

/-- The condition of a held cause is gone. -/
def State.gone (s : State) (h : Held) : Bool := (s.namedCondition h).getD (decide (1 ≤ h.clean))

/-- Frame slot 67 starts: the frame is complete (R275). -/
def Held.frameEnd (s : State) (h : Held) : Held :=
  let clean := (s.namedCondition h).getD (!h.seen)
  { h with clean := if clean then h.clean + 1 else 0, seen := false }

def faultFrameEnd (s : State) : State :=
  { s with faults := { s.faults with queue := s.faults.queue.map fun r =>
      { r with held := r.held.map (Held.frameEnd s) } } }

/-- A build of a tile has verified: the BUILD cause heals (Table 12-5). -/
def healBuild (tile : Byte) (s : State) : State :=
  { s with faults := { s.faults with queue := s.faults.queue.map fun r =>
      { r with held := r.held.map fun h =>
          if h.unit = 0x1A && h.cause = 0x1B && h.index = tile then { h with healed := true } else h } } }

/-! ### acceptance -/

/-- The register that is accepted next: highest class, then lowest unit (R264). -/
def nextReport : List Report → Option Report
  | [] => none
  | r :: t =>
    match nextReport t with
    | none => some r
    | some q => if q.cls < r.cls || (q.cls == r.cls && decide (r.unit < q.unit)) then some r else some q

/-- A cause is held. -/
def holdCause (c : Byte × Byte × Byte × Nat) (l : List Held) : List Held :=
  if l.any fun h => h.unit == c.1 && h.cause == c.2.1 && h.index == c.2.2.1 then
    l.map fun h =>
      if h.unit == c.1 && h.cause == c.2.1 && h.index == c.2.2.1 then
        { h with cls := max h.cls c.2.2.2, seen := true, clean := 0, healed := false }
      else h
  else l ++ [⟨c.1, c.2.1, c.2.2.1, c.2.2.2, 0, true, false⟩]

/-- Causes of class 2 and higher, and the record's own CAUSE and INDEX at any class, are held (R270, R275). -/
def holdCauses (own : Byte × Byte × Byte) (rep : Report) (l : List Held) : List Held :=
  (rep.causes.filter fun c => decide (2 ≤ c.2.2.2) || (c.1 == own.1 && c.2.1 == own.2.1 && c.2.2.1 == own.2.2)).foldl
    (fun acc c => holdCause c acc) l

/-- A cause is reported: every record that holds it sees its condition present (R275). -/
def seeCauses (rep : Report) (r : Record) : Record :=
  { r with held := r.held.map fun h =>
      if rep.causes.any fun c => h.unit == c.1 && h.cause == c.2.1 && h.index == c.2.2.1 then
        { h with seen := true, clean := 0 } else h }

/-- AGE: frames from the first report to the latest (R265). -/
def ageOf (latest first : U32) : Byte := BitVec.ofNat 8 (min (latest - first).toNat 255)

/-- COUNT, AGE, CLASS and the reaction of a report taken into a record (R267, R270, R263). A report of class 2 or higher
issues its reaction each time (log entry 13). -/
def Record.absorb (r : Record) (rep : Report) (fallback : Bool) : Record :=
  let reacts := decide (2 ≤ rep.cls)
  { r with
    count := BitVec.ofNat 16 (min (r.count.toNat + rep.count) 65535)
    age := ageOf rep.latest r.frame
    cls := max r.cls rep.cls
    raised := r.raised || decide (r.cls < rep.cls)
    merged := r.merged || rep.merged
    held := holdCauses (r.unit, r.cause, r.index) rep r.held
    inForce := r.inForce || reacts
    scope := if reacts then r.scope.union rep.scope else r.scope
    runLeft := if reacts then 2 else r.runLeft
    acked := if reacts && !r.inForce then false else r.acked
    sawFallback := (r.inForce && r.sawFallback) || (reacts && fallback) }

/-- Where an accepted report goes: its own record (R267), the lowest running record it merges into (R270), or a new
record. -/
inductive Place where
  | coalesce (seq : U16)
  | merge (seq : U16)
  | create
  deriving DecidableEq, Repr

def placeOf (q : List Record) (rep : Report) : Place :=
  match q.find? fun r => r.unit == rep.unit && r.cause == rep.cause && r.index == rep.index with
  | some r => .coalesce r.seq
  | none =>
    match q.find? fun r => r.running && (r.unit == rep.unit || follows r rep.unit) with
    | some r => .merge r.seq
    | none => .create

/-- Repetitions of a unit and cause at class 3 (R278). -/
def repeatsOf (l : List (Byte × Byte × Nat)) (u c : Byte) : Nat :=
  ((l.find? fun e => e.1 == u && e.2.1 == c).map fun e => e.2.2).getD 0

def addRepeat (l : List (Byte × Byte × Nat)) (u c : Byte) : List (Byte × Byte × Nat) :=
  if l.any fun e => e.1 == u && e.2.1 == c then
    l.map fun e => if e.1 == u && e.2.1 == c then (u, c, e.2.2 + 1) else e
  else l ++ [(u, c, 1)]

def replaceRecord (r : Record) (s : State) : State :=
  { s with faults := { s.faults with
      queue := s.faults.queue.map fun x => if x.seq == r.seq then r else x } }

/-- R278: a record that reaches class 3 counts, and the REPEAT_LIMIT-th is latched. -/
def countClass3 (old : Nat) (r : Record) (s : State) : State :=
  if old < 3 && r.cls == 3 then
    let n := repeatsOf s.aon.repeats r.unit r.cause + 1
    let s1 : State := { s with aon := { s.aon with repeats := addRepeat s.aon.repeats r.unit r.cause } }
    if s.faults.repeatLimit.toNat ≤ n then
      replaceRecord { r with latched := true }
        { s1 with faults := { s1.faults with fbLatched := true } }
    else s1
  else s

/-- History of a new record or a rise (R281), and EVENT FAULT (R267). -/
def announce (kind : Byte) (old : Nat) (r : Record) (s : State) : State :=
  let s1 := if s.faults.histClass.toNat ≤ r.cls && (kind = 1 || old < r.cls) then
    writeHistory kind r s else s
  if kind = 1 || old < r.cls then event 2 (recordBytes s1 r) s1 else s1

/-- A report taken into an existing record. -/
def absorbInto (seq : U16) (isMerge : Bool) (rep : Report) (s : State) : State :=
  match s.faults.queue.find? fun r => r.seq == seq with
  | none => s
  | some r =>
    let r1 := r.absorb rep (s.safety.lamp == .fallback)
    let r2 : Record := if isMerge then { r1 with merged := true } else { r1 with clearReq := false }
    let s1 := countClass3 r.cls r2 (replaceRecord r2 s)
    announce 2 r.cls r2 s1

/-- LOST_COUNT advances; the first time since the last history entry writes one (R268, R281). -/
def loseRecord (r : Record) (s : State) : State :=
  let first := s.faults.lost == s.faults.lostLogged
  let s1 : State := { s with faults := { s.faults with lost := satInc s.faults.lost } }
  if first then writeHistory 4 r s1 else s1

/-- The record of a report that makes a new one. -/
def newRecord (rep : Report) (s : State) : Record :=
  let reacts := decide (2 ≤ rep.cls)
  { seq := s.faults.nextSeq, unit := rep.unit, cause := rep.cause, index := rep.index
    count := BitVec.ofNat 16 (min rep.count 65535), frame := rep.frame, slot := rep.slot
    age := ageOf rep.latest rep.frame
    cls := rep.cls, inForce := reacts, merged := rep.merged
    held := holdCauses (rep.unit, rep.cause, rep.index) rep [], scope := if reacts then rep.scope else {}
    runLeft := if reacts then 2 else 0
    sawFallback := reacts && s.safety.lamp == .fallback }

def appendRecord (r : Record) (s : State) : State :=
  let s1 : State := { s with faults := { s.faults with
    queue := s.faults.queue ++ [r]
    nextSeq := s.faults.nextSeq + 1
    first := if s.faults.queue = [] then some r.seq else s.faults.first } }
  announce 1 0 r (countClass3 0 r s1)

/-- The record that makes room (R268): the oldest of the lowest class among those neither pinned nor in force. -/
def State.victim (s : State) : Option Record :=
  (s.faults.queue.filter fun r => !s.pinned r && !r.inForce).foldl
    (fun acc r => match acc with
      | none => some r
      | some v => if r.cls < v.cls then some r else some v) none

/-- A report that needs a new record (R267, R268). -/
def createRecord (rep : Report) (s : State) : State :=
  let r := newRecord rep s
  if s.faults.queue.length < 64 then appendRecord r s
  else
    match s.victim with
    | some v =>
      if v.cls ≤ rep.cls then
        let s1 : State := { s with faults := { s.faults with
          queue := s.faults.queue.filter fun x => x.seq != v.seq } }
        appendRecord r (loseRecord v s1)
      else if 2 ≤ rep.cls then
        match gravest s.faults.queue with
        | some g => absorbInto g.seq true rep s
        | none => s
      else loseRecord r s
    | none =>
      if 2 ≤ rep.cls then
        match gravest s.faults.queue with
        | some g => absorbInto g.seq true rep s
        | none => s
      else loseRecord r s

/-- The reaction of a class (Table 12-1): class 3 demands FALLBACK; class 4 sets the fell latch, and the lamp goes to
LIMP on the same edge (R263, R279), with no RESUME to come (R189). Fences follow from the records in force. -/
def react (cls : Nat) (s : State) : State :=
  if cls = 3 then setDemand 0 s
  else if cls = 4 then setLamp .limp { s with
    aon := { s.aon with fell := true }, tsens := { s.tsens with resumeDue := false } }
  else s

/-- The collector takes a report (R263, R267 to R270). -/
def takeReport (rep : Report) (s : State) : State :=
  let s1 : State := { s with faults := { s.faults with queue := s.faults.queue.map (seeCauses rep) } }
  let s2 := match placeOf s1.faults.queue rep with
    | .coalesce q => absorbInto q false rep s1
    | .merge q => absorbInto q true rep s1
    | .create => createRecord rep s1
  react rep.cls s2

/-- One pending report is accepted (R264). -/
def acceptReport (rep : Report) (s : State) : State :=
  takeReport rep { s with faults := { s.faults with pending := s.faults.pending.filter fun q => q.unit != rep.unit } }

/-- Reports held beyond the eighth join LOST_COUNT; the first time since the last history entry writes one (R281, R362). No
record stands for them: the entry's RECORD is one of zeros (DESIGN CHOICE, log entry 120). -/
def loseHeld (k : Nat) (s : State) : State :=
  if k = 0 then s
  else
    let first := s.faults.lost == s.faults.lostLogged
    let s1 : State := { s with faults := { s.faults with lost := satAdd s.faults.lost k } }
    if first then writeHistory 4 default s1 else s1

/-- The held reports of SLEEP are accepted in their order before the first ticket after wake closes, with its number and
frame slot 0 (R362). -/
def acceptHeld (s : State) : State :=
  let held (t : State) (r : Report) : State := takeReport { r with frame := t.frame.number, slot := 0, latest := t.frame.number } t
  let s1 := loseHeld s.power.heldLost (s.power.heldReports.foldl held s)
  { s1 with power := { s1.power with heldReports := [], heldLost := 0 } }

/-- The collector accepts reports: in SLEEP and below it does not (R362). -/
def State.collects (s : State) : Bool :=
  !s.aon.held && (s.safety.power == .run || s.safety.power == .idle)

/-- The collector accepts, in its order, what is pending up to the report of a unit (R264). -/
def acceptUpTo (unit : Byte) : Nat → State → State
  | 0, s => s
  | k + 1, s =>
    if s.faults.pending.any fun r => r.unit == unit then
      match nextReport s.faults.pending with
      | some r => acceptUpTo unit k (acceptReport r s)
      | none => s
    else s

/-- FAULT_REPORT_ACCEPT: the collector accepts one pending report. A parity error of its RAM or a mismatch of the
read-back raises class 4, unit 0x02, cause INTERNAL (R280). -/
def execFaultReportAccept (parityError : Bool) (s : State) : Host.Outcome State Fault Refusal :=
  let s1 := match nextReport s.faults.pending with
    | none => s
    | some rep => if s.collects then acceptReport rep s else s
  .next (if parityError && s.collects then report 0x02 0x23 0xFF 4 {} s1 else s1)

/-! ### lifts (R276, R277) -/

/-- A record in force is lifted at this ticket close. -/
def State.liftable (s : State) (r : Record) : Bool :=
  let allGone := r.held.all s.gone
  if !r.inForce || r.latched then false
  else match r.cls with
    | 2 =>
      match r.lift with
      | .auto => r.held.all fun h => s.gone h && decide (s.faults.heal.toNat ≤ h.clean)
      | .clear => r.clearReq && allGone
      | .reset => false
    | 3 =>
      r.lift != .reset && (r.clearReq || r.lift == .auto) && allGone
        && (!r.sawFallback || decide (s.faults.returnFrames.toNat ≤ s.guard.shadowPass.toNat))
    | _ => false

/-- The lift of one record: IN_FORCE clears, and an acknowledged record leaves the queue (R269). -/
def liftRecord (s : State) (r : Record) : State :=
  if !s.liftable r then s
  else
    let r1 : Record := { r with inForce := false, runLeft := 0, scope := {}, held := [] }
    let s1 := if s.faults.histClass.toNat ≤ r.cls then writeHistory 3 r1 (replaceRecord r1 s)
              else replaceRecord r1 s
    if r.acked then
      let q := s1.faults.queue.filter fun x => x.seq != r.seq
      { s1 with faults := { s1.faults with
          queue := q, first := if q = [] then none else s1.faults.first } }
    else s1

/-- A class 3 record is in force. -/
def State.class3InForce (s : State) : Bool := s.faults.queue.any fun r => r.inForce && r.cls == 3

/-- The collector at a ticket close: reactions run down (R270), records lift, and with the last class 3 record
FALLBACK_DEMAND [0] clears (R277). -/
def faultTicket (s : State) : State :=
  let s1 : State := { s with faults := { s.faults with
    queue := s.faults.queue.map fun r => { r with runLeft := r.runLeft - 1 } } }
  let s2 := s1.faults.queue.foldl liftRecord s1
  if s1.class3InForce && !s2.class3InForce then clearDemand 0 s2 else s2

/-! ### acknowledge and clear -/

/-- FAULT_ACK of SEQ `q` (R269). -/
def faultAck (q : U16) (s : State) : State :=
  let base := s.faults.nextSeq - 64
  let covered (r : Record) : Bool := decide ((r.seq - base).toNat ≤ (q - base).toNat)
  let kept := (s.faults.queue.filter fun r => !covered r || r.inForce).map fun r =>
    if covered r then { r with acked := true } else r
  { s with faults := { s.faults with
      queue := kept, first := if kept = [] then none else s.faults.first } }

/-- What a FAULT_CLEAR write finds: it acts, no such record is queued, or the record cannot be lifted so. -/
inductive ClearAnswer where
  | done | noRecord | conflict
  deriving DecidableEq, Repr

/-- FAULT_CLEAR of SEQ `q` (R276 to R278, object 0x6800.06). -/
def faultClear (q : U16) (s : State) : ClearAnswer × State :=
  match s.faults.queue.find? fun r => r.seq == q with
  | none => (.noRecord, s)
  | some r =>
    if r.cls = 4 || r.latched || (r.inForce && r.lift == .reset) then (.conflict, s)
    else if !r.inForce || r.cls < 2 then (.noRecord, s)
    else (.done, replaceRecord { r with clearReq := true } s)

/-- ALERT_N is low (R299): a record of class ALERT_CLASS or higher is in force or not acknowledged, or the fell latch
is set. -/
def State.alertLow (s : State) : Bool :=
  s.aon.fell || s.faults.queue.any fun r =>
    decide (s.faults.alertClass.toNat ≤ r.cls) && (r.inForce || !r.acked)

/-- FAULT_STATUS (Table 12-9). -/
def State.faultStatus (s : State) : U32 :=
  let inForce := s.faults.queue.filter Record.inForce
  let top := inForce.foldl (fun acc r => max acc r.cls) 0
  BitVec.ofNat 32 (s.faults.queue.length * 2 ^ 24 + inForce.length * 2 ^ 16 + top * 2 ^ 13
    + natOfBool s.aon.fell * 2 ^ 12 + natOfBool s.faults.fbLatched * 2 ^ 11)

end Sys2Proof.Machine
end

