-- ==== Sys2Proof/Machine/Tables.lean ====
section
/-!
DEFINITION. Machine/Tables.lean: the checks of every table the device verifies: the tile descriptor (R181), warp meshes
(R28), colour tables (R51), stamp tables (R102), zone sets (R217), schedules (R137) and the Hedgerow store (R233); and
the fields that are read from them.
-/
namespace Sys2Proof.Machine

/-! ### the tile descriptor (Table 8-15) -/

/-- Entry `c` of CUR or FLUX of a channel. -/
def curEntry (d : List Byte) (ch c : Nat) : Nat := le (slice d (0x100 + 1024 * ch + 2 * c) 2)
def fluxEntry (d : List Byte) (ch c : Nat) : Nat := le (slice d (0x300 + 1024 * ch + 2 * c) 2)
/-- Sector current at code 0 with the switch closed, in nA. -/
def quiescent (d : List Byte) (i : Nat) : Nat := 100000 * le (slice d (0x80 + 2 * i) 2)
def sectorCount (d : List Byte) : Nat := (byteAt d 7).toNat

/-- Values as 16-bit little-endian words. -/
def words16 : List Byte → List Nat
  | a :: b :: t => (a.toNat + 256 * b.toNat) :: words16 t
  | _ => []

/-- A CUR or FLUX table is non-decreasing and starts with 0 (R181). -/
def tableRising : List Nat → Bool
  | a :: b :: t => decide (a ≤ b) && tableRising (b :: t)
  | _ => true
def lightTableOk (t : List Byte) : Bool := (words16 t).head? == some 0 && tableRising (words16 t)

/-- X0, Y0, W, H of sector `i`, in units of 16. -/
def sectorRect (d : List Byte) (i : Nat) : Nat × Nat × Nat × Nat :=
  let b (k : Nat) := (byteAt d (0x40 + 4 * i + k)).toNat
  (b 0, b 1, b 2, b 3)

/-- The sectors cover the grid exactly, without overlap (R181). -/
def sectorsOk (d : List Byte) (kind : Byte) : Bool :=
  let n := sectorCount d
  let rects := (List.range n).map (sectorRect d)
  if kind = 0 then
    n == 16 && (List.range 16).all fun i => sectorRect d i == (32 * (i % 4), 8 * (i / 4), 32, 8)
  else
    let gx := gridX kind / 16
    let gy := gridY kind / 16
    decide (1 ≤ n) && decide (n ≤ 16)
    && rects.all (fun r => decide (r.1 + r.2.2.1 ≤ gx) && decide (r.2.1 + r.2.2.2 ≤ gy))
    && (List.range gx).all fun x => (List.range gy).all fun y =>
        (rects.filter fun r => decide (r.1 ≤ x) && decide (x < r.1 + r.2.2.1)
          && decide (r.2.1 ≤ y) && decide (y < r.2.1 + r.2.2.2)).length == 1

/-- The training result of a received descriptor (R181, Table 8-12): OK, DESC_TIMEOUT, DESC_CHECK or DESC_FORMAT. -/
def descriptorResult (d : List Byte) : Byte :=
  if d.length ≠ 4096 then 0x03
  else if d.take 4 ≠ [0x53, 0x56, 0x54, 0x44] ∨ u32At d 0xFFC ≠ crc32cOf (d.take 0xFFC) then 0x04
  else
    let kind := byteAt d 6
    let ts := (byteAt d 0x18).toNat
    if u16At d 4 = 1 && (kind == 0 || kind == 1)
        && u16At d 8 == BitVec.ofNat 16 (gridX kind) && u16At d 0xA == BitVec.ofNat 16 (gridY kind)
        && sectorsOk d kind
        && [0, 1, 2].all (fun ch => lightTableOk (slice d (0x100 + 1024 * ch) 512)
              && lightTableOk (slice d (0x300 + 1024 * ch) 512))
        && decide (1 ≤ ts) && decide (ts ≤ 4) && decide (i16At d 0x14 < i16At d 0x16) then 0
    else 0x05

/-! ### warp meshes -/

/-- LENGTH of a mesh of a kind (Table 6-8). -/
def meshLength (kind : Byte) : Nat := if kind = 1 then 17060 else 66852

/-- Nodes of one node row, as azimuth and elevation words. -/
def nodeRow (t : List Byte) (nx j : Nat) : List (U16 × Int) :=
  (List.range nx).map fun i =>
    let b := slice t (0x20 + 4 * (j * nx + i)) 4
    (u16At b 0, i16At b 2)

/-- Largest minus smallest elevation over the nodes that are not dark (R41). -/
def spanOfNodes (l : List (U16 × Int)) : Nat :=
  let es := (l.filter fun p => p.1 != 0x8000).map Prod.snd
  match es with
  | [] => 0
  | e :: t => (t.foldl max e - t.foldl min e).toNat

/-- The band span of a mesh (R41). -/
def meshSpan (t : List Byte) (kind : Byte) : Nat :=
  let nx := gridX kind / 8 + 1
  (List.range 32).foldl (fun acc b =>
    let r0 := bandRows kind * b
    let r1 := r0 + bandRows kind - 1
    max acc (spanOfNodes ((List.range (r1 / 8 + 2 - r0 / 8)).flatMap fun k => nodeRow t nx (r0 / 8 + k)))) 0

/-- Cells with at least one dark corner (Table 2-5). -/
def darkCells (t : List Byte) (kind : Byte) : Nat :=
  let nx := gridX kind / 8 + 1
  let dark (i j : Nat) : Bool := u16At (slice t (0x20 + 4 * (j * nx + i)) 2) 0 == 0x8000
  ((List.range (gridY kind / 8)).flatMap fun j => (List.range (gridX kind / 8)).filter fun i =>
    dark i j || dark (i + 1) j || dark i (j + 1) || dark (i + 1) (j + 1)).length

/-- The mesh refusal code of a table (Table 2-4), 0 when it passes. -/
def meshResult (t : List Byte) (crc : U32) (version : U16) (length : Nat) (held : Bool) (kind : Byte)
    (serial : U64) : Byte :=
  let nx := (u16At t 4).toNat
  let ny := (u16At t 6).toNat
  if crc32cOf (t.take length) ≠ crc then 0x10
  else if u16At t 0 ≠ 1 ∨ version ≠ 1 ∨ byteAt t 3 ≠ 0 ∨ u16At t 0xE ≠ 0 ∨ !allZero (slice t 0x18 8)
      ∨ i16At t 8 < -2560 ∨ 2560 < i16At t 8 ∨ i16At t 0xA < -640 ∨ 640 < i16At t 0xA then 0x11
  else if !held ∨ byteAt t 2 ≠ kind then 0x12
  else if nx ≠ gridX kind / 8 + 1 ∨ ny ≠ gridY kind / 8 + 1 ∨ length ≠ 32 + 4 * nx * ny then 0x13
  else if u64At t 0x10 ≠ 0 ∧ u64At t 0x10 ≠ serial then 0x14
  else if (List.range ny).any fun j => (nodeRow t nx j).any fun p => p.1 != 0x8000 && p.2 == -32768 then 0x15
  else if (u16At t 0xC).toNat ≠ meshSpan t kind then 0x16
  else 0

/-! ### colour tables -/

/-- FORMAT and COLOUR_ID of a colour table are those of Table 3-4 (R51). -/
def colourHeaderOk (t : List Byte) (id : Nat) : Bool := u16At t 0 == 1 && byteAt t 2 == BitVec.ofNat 8 id

/-- A table that the host loaded is valid (R51). -/
def colourHostOk (t : List Byte) (id : Nat) : Bool :=
  colourHeaderOk t id && u32At t 4 == crc32cOf (slice t 0x20 0x820)

/-! ### stamp tables (R102) -/

def strictlyRising : List Byte → Bool
  | a :: b :: t => decide (a < b) && strictlyRising (b :: t)
  | _ => true

/-- A stamp table passes the checks of R102. FLAGS is no reserved byte, and its reserved bits are ignored (R10). -/
def stampTableOk (t : List Byte) (version : U16) : Bool :=
  let entryOk (i : Nat) : Bool :=
    let b := slice t (0x300 + 16 * i) 16
    decide ((byteAt b 4).toNat ≤ 10) && allZero (slice b 8 8)
  let cutoffOk (c : Nat) : Bool :=
    let x := i16At t (0x10 + 2 * c)
    decide (-639 ≤ x) && decide (x ≤ 640)
  u16At t 0 == 1 && version == 1 && u16At t 2 == 0 && byteAt t 0xB == 0
  && allZero (slice t 0xD 3) && allZero (slice t 0x290 112)
  && strictlyRising (slice t 4 7) && decide ((byteAt t 0xC).toNat ≤ 10)
  && (List.range 320).all cutoffOk && (List.range 64).all entryOk

/-! ### Stile rectangles (Table 10-4) -/

/-- A rectangle record. -/
structure RectRec where
  kind : Byte
  tile : Byte
  subf : Byte
  missLimit : Byte
  x0 : Nat
  y0 : Nat
  w : Nat
  h : Nat
  expH : U32
  expL : U32
  react : Byte
  layers : Byte
  reserved : Bool
  deriving DecidableEq, Repr

def rectAt (t : List Byte) (off : Nat) : RectRec :=
  let b := slice t off 32
  { kind := byteAt b 0, tile := byteAt b 1, subf := byteAt b 2, missLimit := byteAt b 3
    x0 := le (slice b 4 2), y0 := le (slice b 6 2), w := le (slice b 8 2), h := le (slice b 0xA 2)
    expH := u32At b 0xC, expL := u32At b 0x10, react := byteAt b 0x14, layers := byteAt b 0x15
    reserved := !allZero (slice b 0x16 10) }

def RectRec.isConst (r : RectRec) : Bool := r.kind == 1
def RectRec.tileFin (r : RectRec) : Fin 2 := if r.tile = 1 then 1 else 0
/-- The record checks a subframe. -/
def RectRec.checks (r : RectRec) (subL : Bool) : Bool := r.subf.getLsbD (if subL then 1 else 0)

/-- The record keeps Table 10-4, for a tile of the given kind; `store` for a Hedgerow store record. -/
def RectRec.ok (r : RectRec) (kind : Byte) (store : Bool) : Bool :=
  (r.kind == 1 || r.kind == 2) && decide (r.tile.toNat ≤ 1) && kind != 0xFF
  && r.subf != 0 && decide (r.subf.toNat ≤ 3)
  && decide (1 ≤ r.missLimit.toNat) && decide (r.missLimit.toNat ≤ 8) && decide (1 ≤ r.h)
  && (if r.isConst then
        decide (1 ≤ r.w) && decide (r.x0 + r.w ≤ gridX kind) && decide (r.y0 + r.h ≤ gridY kind)
      else r.x0 == 0 && r.w == 0 && decide (r.y0 + r.h ≤ 32))
  && (if store then r.react == 0 else decide (1 ≤ r.react.toNat) && decide (r.react.toNat ≤ 3))
  && (r.layers == 0 || (r.react == 2 && r.isConst)) && !r.reserved

/-! ### zone sets (R216, R217) -/

/-- A zone record (Table 10-3). -/
structure ZoneRec where
  flags : Byte
  tiles : Byte
  cellShift : Byte
  frames : Byte
  u0 : Nat
  v0 : Nat
  gridW : Nat
  gridH : Nat
  gridOff : Nat
  cap : U64
  floor : U64
  strayCap : U64
  reserved : Bool
  deriving DecidableEq, Repr

def zoneAt (t : List Byte) (z : Nat) : ZoneRec :=
  let b := slice t (64 + 64 * z) 64
  { flags := byteAt b 0, tiles := byteAt b 1, cellShift := byteAt b 2, frames := byteAt b 3
    u0 := le (slice b 4 2), v0 := le (slice b 6 2), gridW := le (slice b 8 2), gridH := le (slice b 0xA 2)
    gridOff := le (slice b 0xC 4), cap := u64At b 0x10, floor := u64At b 0x18, strayCap := u64At b 0x20
    reserved := !allZero (slice b 0x28 24) }

def ZoneRec.capOn (z : ZoneRec) : Bool := z.flags.getLsbD 0
def ZoneRec.floorOn (z : ZoneRec) : Bool := z.flags.getLsbD 1
def ZoneRec.strayOn (z : ZoneRec) : Bool := z.flags.getLsbD 2
def ZoneRec.sward (z : ZoneRec) : Bool := z.flags.getLsbD 3
def ZoneRec.hedgerow (z : ZoneRec) : Bool := z.flags.getLsbD 4
def ZoneRec.capFrames (z : ZoneRec) : Nat := z.frames.toNat % 16
def ZoneRec.floorFrames (z : ZoneRec) : Nat := z.frames.toNat / 16

def ZoneRec.ok (z : ZoneRec) (length : Nat) (held0 held1 : Bool) : Bool :=
  decide (z.flags.toNat < 32) && (z.capOn || z.floorOn || z.strayOn) && (z.sward || z.hedgerow)
  && z.tiles != 0 && decide (z.tiles.toNat < 4) && (!z.tiles.getLsbD 0 || held0) && (!z.tiles.getLsbD 1 || held1)
  && decide (z.cellShift.toNat ≤ 6)
  && decide (z.u0 + z.gridW * 2 ^ z.cellShift.toNat ≤ 5120)
  && decide (z.v0 + z.gridH * 2 ^ z.cellShift.toNat ≤ 1280)
  && decide (z.gridOff + z.gridW * z.gridH ≤ length)
  && !(z.capOn && z.floorOn && decide (z.cap < z.floor))
  && decide (1 ≤ z.capFrames) && decide (z.capFrames ≤ 2)
  && decide (1 ≤ z.floorFrames) && decide (z.floorFrames ≤ 2) && !z.reserved

def zoneCount (t : List Byte) : Nat := (byteAt t 2).toNat
def rectCount (t : List Byte) : Nat := (byteAt t 3).toNat
/-- Rectangle `r` of a zone set. -/
def zoneRect (t : List Byte) (r : Nat) : RectRec := rectAt t (64 + 64 * zoneCount t + 32 * r)

/-- Verification of a zone set (R217); `kinds` are the kinds of the accepted descriptors, 0xFF for none. -/
def zoneSetOk (t : List Byte) (version : U16) (length : Nat) (kind0 kind1 : Byte) : Bool :=
  let nz := zoneCount t
  let nr := rectCount t
  u16At t 0 == 1 && version == 1 && decide (1 ≤ nz) && decide (nz ≤ 32) && decide (nr ≤ 32)
  && (u32At t 4).toNat == length && u32At t 8 == 64 && (u32At t 0xC).toNat == 64 + 64 * nz
  && allZero (slice t 0x10 48)
  && (List.range nz).all (fun z => (zoneAt t z).ok length (kind0 != 0xFF) (kind1 != 0xFF))
  && (List.range nr).all fun r =>
      (zoneRect t r).ok (if (zoneRect t r).tile = 1 then kind1 else kind0) false

/-! ### commit schedules (R137) -/

/-- A schedule entry (Table 6-12). -/
structure SchedEntry where
  offset : Nat
  layer : Byte
  tag : U16
  config : LayerConfig
  reserved : Bool
  deriving DecidableEq, Repr

def schedEntry (t : List Byte) (e : Nat) : SchedEntry :=
  let b := slice t (0x10 + 48 * e) 48
  { offset := le (slice b 0 4), layer := byteAt b 4, tag := u16At b 6
    config := { cfg := u32At b 8, bufAddr := u32At b 0xC, stride := u32At b 0x10, width := u16At b 0x14
                height := u16At b 0x16, paletteAddr := u32At b 0x18, fill := u32At b 0x1C
                placeU := u32At b 0x20, placeV := u32At b 0x24, stepU := u16At b 0x28, stepV := u16At b 0x2A }
    reserved := byteAt b 5 != 0 || !allZero (slice b 0x2C 4) }

def schedCount (t : List Byte) : Nat := le (slice t 2 2)
def schedLength (t : List Byte) : Nat := le (slice t 4 4)
def schedLoops (t : List Byte) : Bool := (byteAt t 8).getLsbD 0

/-- Neighbouring entries ascend, and no two with one offset share a layer. -/
def schedOrdered : List SchedEntry → Bool
  | a :: t => t.all (fun b => decide (a.offset ≤ b.offset) && !(a.offset == b.offset && a.layer == b.layer))
      && schedOrdered t
  | [] => true

def scheduleOk (t : List Byte) (version : U16) (length : Nat) : Bool :=
  let n := schedCount t
  let es := (List.range n).map (schedEntry t)
  u16At t 0 == 1 && version == 1 && decide (1 ≤ n) && decide (n ≤ 1365) && length == 16 + 48 * n
  && decide (1 ≤ schedLength t) && decide ((byteAt t 8).toNat ≤ 1) && allZero (slice t 9 7)
  && es.all (fun e => decide (e.offset < schedLength t) && decide (e.layer.toNat ≤ 7) && !e.reserved)
  && schedOrdered es

/-! ### the Hedgerow store (Tables 10-10 to 10-12) -/

def hedgeSize (t : List Byte) : Nat := le (slice t 8 4)
def hedgeKind (t : List Byte) (n : Nat) : Byte := byteAt t (0xC + n)
def hedgeRects (t : List Byte) : Nat := (byteAt t 0xE).toNat
def hedgeRect (t : List Byte) (r : Nat) : RectRec := rectAt t (576 + 32 * r)
def hedgeTrailer (t : List Byte) : U64 := u64At t (hedgeSize t - 8)

def kindByteOk (k : Byte) : Bool := k == 0 || k == 1 || k == 0xFF

def hedgeHeaderOk (t : List Byte) : Bool :=
  let size := hedgeSize t
  u16At t 4 == 1 && u16At t 6 == 64 && size % 4 == 0 && decide (584 + 32 * hedgeRects t ≤ size)
  && decide (size ≤ 1048576) && kindByteOk (hedgeKind t 0) && kindByteOk (hedgeKind t 1)
  && decide (hedgeRects t ≤ 32) && byteAt t 0xF == 0 && u32At t 0x20 == 64 && u32At t 0x24 == 576
  && allZero (slice t 0x2C 20)

/-- Runs of a band: count, H code, L code. -/
def hedgeRuns (t : List Byte) (n b : Nat) : List (Nat × Byte × Byte × Nat) :=
  let e := slice t (64 + 8 * (32 * n + b)) 8
  let off := le (slice e 0 4)
  (List.range (le (slice e 4 4))).map fun k =>
    let r := slice t (off + 4 * k) 4
    (le (slice r 0 2), byteAt r 2, byteAt r 3, (off + 4 * k) / 4)

def hedgeBandOk (t : List Byte) (n b : Nat) : Bool :=
  let e := slice t (64 + 8 * (32 * n + b)) 8
  let off := le (slice e 0 4)
  let runs := le (slice e 4 4)
  let kind := hedgeKind t n
  if kind = 0xFF then off == 0 && runs == 0
  else
    off % 4 == 0 && decide (off + 4 * runs ≤ hedgeSize t - 8)
    && (hedgeRuns t n b).all (fun r => decide (1 ≤ r.1) && decide (r.1 ≤ 32768))
    && ((hedgeRuns t n b).map fun r => r.1).sum == bandCodes kind

/-- The store check in the order of Table 10-12; 0 when all pass. `kinds` and `serials` are those of the trained
tiles. -/
def hedgeCheck (t : List Byte) (readError : Bool) (ref : U64) (kind0 kind1 : Byte) (serial0 serial1 : U64) : Byte :=
  let size := hedgeSize t
  let kindOf (n : Nat) : Byte := if n = 0 then kind0 else kind1
  let serialOf (n : Nat) : U64 := if n = 0 then serial0 else serial1
  if readError then 0x01
  else if t.take 4 ≠ [0x48, 0x44, 0x47, 0x52] then 0x02
  else if !hedgeHeaderOk t then 0x03
  else if hedgeTrailer t ≠ crcOf crc64 (t.take (size - 8)) then 0x04
  else if hedgeTrailer t ≠ ref then 0x05
  else if [0, 1].any fun n => hedgeKind t n != 0xFF && hedgeKind t n != kindOf n then 0x06
  else if [0, 1].any fun n => u64At t (0x10 + 8 * n) != 0 && u64At t (0x10 + 8 * n) != serialOf n then 0x07
  else if [0, 1].any fun n => (List.range 32).any fun b => !hedgeBandOk t n b then 0x08
  else if (List.range (hedgeRects t)).any fun r =>
      !(hedgeRect t r).ok (hedgeKind t (hedgeRect t r).tile.toNat) true then 0x09
  else 0

/-- The Hedgerow codes of a band of a tile (R235). A run whose word has a parity error streams as zero codes, and so
does a band whose index entry has one (R234). -/
def hedgeCodes (t : List Byte) (badWords : List Nat) (n b : Nat) (size : Nat) (subL : Bool) : List Byte :=
  let idx := (64 + 8 * (32 * n + b)) / 4
  let codes : List Byte :=
    if badWords.contains idx || badWords.contains (idx + 1) then []
    else (hedgeRuns t n b).flatMap fun r =>
      List.replicate r.1 (if badWords.contains r.2.2.2 then 0 else if subL then r.2.2.1 else r.2.1)
  (codes ++ List.replicate size 0).take size

end Sys2Proof.Machine
end

