-- ==== Sys2Proof/Machine/Banks.lean ====
section
/-!
DEFINITION. Machine/Banks.lean: bank pairs, their verification and swaps, scene packs, and commit schedules
(chapter 6).
-/
namespace Sys2Proof.Machine

/-- Pairs 2 to 7 (Table 6-2). -/
def isPackPair (p : Fin 8) : Bool := decide (2 ≤ p.val)

/-- The tile of a calibration or mesh pair. -/
def pairTile (p : Fin 8) : Fin 2 := if p.val % 2 = 0 then 0 else 1
def calPair (n : Fin 2) : Fin 8 := if n = 0 then 0 else 1

/-! ### open, request, cancel (R120, R121, R124) -/

/-- The inactive bank becomes OPEN; its validity clears, its contents stay (R120). -/
def openBank (p : Fin 8) (s : State) : State :=
  s.modBank p fun b =>
    let i := b.inactive
    let b1 := { b.setState i .opened with reverify := false }
    if i = 0 then { b1 with ctab0 := 0 } else { b1 with ctab1 := 0 }

/-- The open action of BANK_CTRL. -/
def bankOpen (p : Fin 8) (s : State) : Except Abort State :=
  if (s.bank p).pending
      || (isPackPair p && (s.pack.state == .opened || s.pack.state == .loading || s.pack.state == .loaded
            || s.pack.state == .activating)) then .error .stateConflict
  else .ok (openBank p s)

/-- The directory entry as BANK_ENTRY holds it (Table 6-7). -/
def entryOf (b : List Byte) : DirEntry :=
  { kind := byteAt b 0, target := byteAt b 1, offset := u32At b 4, length := u32At b 8, dest := u32At b 0xC
    crc := u32At b 0x10, version := u16At b 0x14
    reserved := u16At b 2 != 0 || !allZero (slice b 0x16 10) }

/-- LENGTH is one that Table 6-8 gives for the kind. -/
def lengthOk (kind : Byte) (len : Nat) : Bool :=
  match kind.toNat with
  | 1 => len == 66852 || len == 17060
  | 2 => len == 2112
  | 3 => len == 1792
  | 4 => decide (32 ≤ len) && decide (len ≤ 524288) && len % 32 == 0
  | 5 => decide (32 ≤ len) && decide (len ≤ 37748736)
  | 6 => decide (64 ≤ len) && decide (len ≤ 65536) && (len - 16) % 48 == 0
  | _ => false

/-- Kind of the tables of a pair, and the target its entry must carry. -/
def pairKind (p : Fin 8) : Byte := match p.val with
  | 2 | 3 => 1
  | 4 => 2
  | 5 => 3
  | 6 => 4
  | _ => 6
def pairTarget (p : Fin 8) : Byte := match p.val with
  | 2 => 0
  | 3 => 1
  | _ => 0xFF

/-- BANK_ENTRY passes the check of a single-pair request (R121). -/
def bankEntryOk (p : Fin 8) (e : DirEntry) : Bool :=
  e.kind == pairKind p && e.target == pairTarget p && lengthOk e.kind e.length.toNat && e.dest == 0 && !e.reserved

/-- The request closes the bank and queues its verification (R121). -/
def requestSwap (p : Fin 8) (group : Bool) (s : State) : Except Abort State :=
  let i := (s.bank p).inactive
  match (s.bank p).state i with
  | .opened | .valid | .failed =>
    let s1 := s.modBank p fun b =>
      { b.setState i .verifying with
        pending := true, inGroup := group, byPack := group, deferRun := 0, deferReported := false, reverify := false }
    .ok (queueJob (.bank p) s1)
  | _ => .error .stateConflict

/-- The swap request of BANK_CTRL. -/
def bankSwap (p : Fin 8) (s : State) : Except Abort State :=
  let i := (s.bank p).inactive
  let okState := match (s.bank p).state i with
    | .opened | .valid | .failed => true
    | _ => false
  if !okState then .error .stateConflict
  else if p.val ≠ 4 && !bankEntryOk p (entryOf (s.bank p).entry) then .error .valueRange
  else requestSwap p (s.bank p).inGroup s

/-- A cancel (R124). A cancelled member of an activation keeps its group from ever taking effect, so that the other members
defer with GROUP until the activation ends (DESIGN CHOICE, log entry 118). -/
def bankCancel (p : Fin 8) (s : State) : State :=
  if !(s.bank p).pending then s
  else
    let i := (s.bank p).inactive
    dropJob (.bank p) (s.modBank p fun b =>
      let b1 := if b.state i = .verifying then b.setState i .opened else b
      { b1 with pending := false, inGroup := false })

/-! ### verification (R121, R123) -/

/-- The directory entry of a table of the pack last loaded. -/
def State.packEntry (s : State) (kind target : Byte) : Option (Nat × DirEntry) :=
  (s.pack.directory.zipIdx.find? fun e => e.1.kind == kind && e.1.target == target).map fun e => (e.2, e.1)

/-- Entry that governs the verification of a single-table pair: the directory's where an activation asked for it, else
BANK_ENTRY. DESIGN CHOICE (log entry 120): BANK_ENTRY is read as it stands at the end of the verification. -/
def State.governing (s : State) (p : Fin 8) : DirEntry :=
  if (s.bank p).byPack then
    match s.packEntry (pairKind p) (pairTarget p) with
    | some e => e.2
    | none => entryOf (s.bank p).entry
  else entryOf (s.bank p).entry

/-- What one verification finds: a result code, valid colour tables, and the directory entry concerned. -/
structure Verdict where
  result : Byte := 0
  ctab : U32 := 0
  entry : Byte := 0xFF
  deriving DecidableEq, Repr

/-- Colour tables that the host loaded (R51): every table of the bank is tried. -/
def State.verifyLutHost (s : State) (base : Nat) : Verdict :=
  { ctab := (List.range 32).foldl (fun acc c =>
      let a := base + 2112 * c
      if colourHostOk (s.fmRead a 2112) c && !s.badIn a 2112 then acc ||| BitVec.ofNat 32 (2 ^ c) else acc) 0 }

/-- Colour tables of an activation (R51): against their directory entries, stopping at the first failure. -/
def State.verifyLutPack (s : State) (base : Nat) : List (DirEntry × Nat) → Verdict → Verdict
  | [], v => v
  | (e, i) :: t, v =>
    if e.kind ≠ 2 then s.verifyLutPack base t v
    else
      let a := base + 2112 * e.target.toNat
      let body := s.fmRead a 2112
      if crc32cOf body ≠ e.crc ∨ s.badIn a 2112 then { v with result := 0x39, entry := BitVec.ofNat 8 i }
      else if !colourHeaderOk body e.target.toNat ∨ e.version ≠ u16At body 0 then
        { v with result := 0x3A, entry := BitVec.ofNat 8 i }
      else s.verifyLutPack base t { v with ctab := v.ctab ||| BitVec.ofNat 32 (2 ^ e.target.toNat) }

/-- Index of the pair's directory entry, for ENTRY of PACK_STATUS. -/
def State.entryIndex (s : State) (p : Fin 8) : Byte :=
  match s.packEntry (pairKind p) (pairTarget p) with
  | some e => BitVec.ofNat 8 e.1
  | none => 0xFF

/-- Bytes of a calibration bank that hold the tile's words. -/
def State.calLength (s : State) (n : Fin 2) : Nat := 2 * calWords (s.link n).kind

/-- Verification of the inactive bank of a pair (R121). -/
def State.verify (s : State) (p : Fin 8) : Verdict :=
  let i := (s.bank p).inactive
  let base := (bankWindow p i).1
  let e := s.governing p
  let len := e.length.toNat
  let entry := s.entryIndex p
  match p.val with
  | 0 | 1 =>
    let n := pairTile p
    let crc := if i = 0 then (s.bank p).builderCrc0 else (s.bank p).builderCrc1
    let cl := s.calLength n
    { result := if s.badIn base cl || crc32cOf (s.fmRead base cl) != crc then 0x39 else 0 }
  | 2 | 3 =>
    let l := s.link (pairTile p)
    { result := if s.badIn base len then 0x10
        else meshResult (s.fmRead base len) e.crc e.version len (l.descriptor != []) l.kind l.serial
      entry := entry }
  | 4 => if (s.bank p).byPack then s.verifyLutPack base s.pack.directory.zipIdx {} else s.verifyLutHost base
  | 5 =>
    let t := s.fmRead base len
    { result := if s.badIn base len || crc32cOf t != e.crc then 0x39
        else if stampTableOk t e.version then 0 else 0x3A
      entry := entry }
  | 6 =>
    let t := s.fmRead base len
    { result := if s.badIn base len || crc32cOf t != e.crc then 0x39
        else if zoneSetOk t e.version len (s.link 0).kind (s.link 1).kind then 0 else 0x3A
      entry := entry }
  | _ =>
    let t := s.fmRead base len
    { result := if s.badIn base len || crc32cOf t != e.crc then 0x39
        else if scheduleOk t e.version len then 0 else 0x3F
      entry := entry }

/-- Uncorrectable words that the verification of a pair meets (R272). -/
def State.verifyBad (s : State) (p : Fin 8) : List Nat :=
  let base := (bankWindow p (s.bank p).inactive).1
  let len := match p.val with
    | 0 | 1 => s.calLength (pairTile p)
    | 4 => 67584
    | _ => (s.governing p).length.toNat
  s.badWords base len

/-- Requests of every member of the activation group are cancelled (R134). -/
def cancelGroup (s : State) : State :=
  forAll (fun (p : Fin 8) t => if (t.bank p).inGroup then bankCancel p t else t) s

/-- The activation ends without effect (R134 to R136). -/
def endActivation (result entry : Byte) (st : PackState) (s : State) : State :=
  let s1 := cancelGroup s
  { s1 with pack := { s1.pack with state := st, result := result, entry := entry } }

/-- RESULT of PACK_STATUS for a failed member: the codes of Table 6-10, a mesh's LAST_RESULT codes of Table 2-4 as TABLE_CRC
or TABLE (R133). -/
def packResult (p : Fin 8) (r : Byte) : Byte :=
  if p.val = 2 || p.val = 3 then (if r = 0x10 then 0x39 else 0x3A) else r

/-- The bank of a pair takes the outcome of its verification (R121, R123, R134). -/
def settleVerification (p : Fin 8) (v : Verdict) (s : State) : State :=
  let i := (s.bank p).inactive
  let ok := v.result == 0
  let member := (s.bank p).inGroup
  let s1 := s.modBank p fun b =>
    let b1 := { b.setState i (if ok then .valid else .failed) with lastResult := v.result }
    if i = 0 then { b1 with ctab0 := v.ctab } else { b1 with ctab1 := v.ctab }
  if ok then s1
  else
    let s2 := report1 (unitPair p) 0x06 (BitVec.ofNat 8 p.val) s1
    let s3 : State := if p.val = 2 || p.val = 3 then
      { s2 with warp := { s2.warp with lastRefusal := vput s2.warp.lastRefusal (pairTile p) v.result } } else s2
    if member then endActivation (packResult p v.result) v.entry .failed s3 else s3

/-! ### swaps at a ticket close (R122) -/

/-- The own reason that defers a pair (Table 6-4, GROUP apart); 0 for none. -/
def State.ownReason (s : State) (p : Fin 8) : BitVec 4 :=
  let b := s.bank p
  let i := b.inactive
  let ctab := if i = 0 then b.ctab0 else b.ctab1
  if s.power.frozen then 1
  else if b.state i = .verifying then 2
  else if b.state i = .failed then 3
  else if p.val = 4 && s.colourIds.any (fun c => !ctab.getLsbD c) then 5
  else 0

/-- Members of the activation group. -/
def State.members (s : State) : List (Fin 8) := (List.finRange 8).filter fun p => (s.bank p).inGroup

/-- Pack pairs that the loaded directory names. -/
def State.namedPairs (s : State) : List (Fin 8) :=
  (List.finRange 8).filter fun p => isPackPair p && s.pack.directory.any fun e =>
    e.kind == pairKind p && (p.val == 4 || e.target == pairTarget p)

/-- The group takes effect: every named pair is pending, and none is deferred (R134). -/
def State.groupFree (s : State) : Bool :=
  s.namedPairs.all fun p => (s.bank p).inGroup && (s.bank p).pending && s.ownReason p == 0

/-- The reason a pending swap is deferred; 0 when it takes effect. FROZEN, VERIFYING and FAILED come before GROUP,
and CTAB after it. -/
def State.deferReason (s : State) (p : Fin 8) : BitVec 4 :=
  let r := s.ownReason p
  if r = 1 || r = 2 || r = 3 then r
  else if (s.bank p).inGroup && !(s.members.all fun q => q == p || s.ownReason q == 0) then 4
  else if (s.bank p).inGroup && r == 0 && !s.groupFree then 4
  else r

/-- One pair at a ticket close; the reasons are those of the banks `before` the swaps. -/
def closePair (before : State) (p : Fin 8) (s : State) : State :=
  if !(before.bank p).pending then s
  else
    let r := before.deferReason p
    if r = 0 then
      let i := (before.bank p).inactive
      let s1 := s.modBank p fun b =>
        let b1 := match b.activeBank with
          | some a => b.setState a .valid
          | none => b
        { b1.setState i .active with
          pending := false, inGroup := false, deferRun := 0, swapCount := satInc b.swapCount
          frameOfSwap := s.frame.number }
      if isPackPair p && !(before.bank p).inGroup then { s1 with pack := { s1.pack with mixed := true } } else s1
    else s.modBank p fun b =>
      { b with deferCount := satInc b.deferCount, lastDefer := r, deferRun := b.deferRun + 1 }

/-- Pairs whose swap takes effect at this ticket close. -/
def State.swapping (s : State) : List (Fin 8) :=
  (List.finRange 8).filter fun p => (s.bank p).pending && s.deferReason p == 0

/-- Every pending swap at a ticket close, examined as the banks stand before any of them (R17), and the end of an activation
whose group takes effect. DESIGN CHOICE (log entry 120): where a single-pair swap and the group take effect at one ticket close,
the group's clearing of MIXED comes last. -/
def swapBanks (s : State) : State :=
  let s1 := forAll (closePair s) s
  if s.pack.state = .activating then
    if s.groupFree then
      { s1 with pack := { s1.pack with
          state := .idle, result := 0, entry := 0xFF, mixed := false, activeId := s1.pack.loadedId
          activeVersion := s1.pack.loadedVersion, activateCloses := 0 } }
    else { s1 with pack := { s1.pack with activateCloses := s1.pack.activateCloses + 1 } }
  else s1

/-- The report of R123 on deferrals. -/
def deferLimitReached (p : Fin 8) (s : State) : State :=
  let b := s.bank p
  if b.pending && !b.deferReported && decide (s.pack.deferLimit.toNat ≤ b.deferRun) then
    report1 (unitPair p) 0x07 (BitVec.ofNat 8 p.val) (s.modBank p fun b => { b with deferReported := true })
  else s

def execDeferLimitReached (p : Fin 8) (s : State) : Host.Outcome State Fault Refusal :=
  .next (deferLimitReached p s)

/-! ### loading a pack (R130 to R133) -/

/-- Where the image of the pack lies: in flash, or in the staging window and the banks. -/
def packSlotBase (slot : Nat) : Nat := 0x1000000 + 0x2800000 * slot

/-- The load address of an entry (Table 6-8). -/
def State.loadAddress (s : State) (e : DirEntry) : Nat :=
  let win (p : Fin 8) : Nat := (bankWindow p (s.bank p).inactive).1
  match e.kind.toNat with
  | 1 => win (if e.target = 0 then 2 else 3)
  | 2 => win 4 + 2112 * e.target.toNat
  | 3 => win 5
  | 4 => win 6
  | 5 => e.dest.toNat
  | _ => win 7

/-- Bytes of the image at an offset of its header and directory. -/
def State.imageHead (s : State) (off len : Nat) : List Byte :=
  match s.pack.source with
  | some slot => s.flashRead (packSlotBase slot.toNat + off) len
  | none => s.fmRead (stagingStart + off) len

/-- The body of an entry, in flash or in place. -/
def State.imageBody (s : State) (e : DirEntry) : List Byte :=
  match s.pack.source with
  | some slot => s.flashRead (packSlotBase slot.toNat + e.offset.toNat) e.length.toNat
  | none => s.fmRead (s.loadAddress e) e.length.toNat

/-- A body read in place meets an uncorrectable word. -/
def State.bodyBad (s : State) (e : DirEntry) : Bool :=
  s.pack.source.isNone && s.badIn (s.loadAddress e) e.length.toNat

/-- The uncorrectable words that the read of a body in place meets (R272). -/
def State.bodyWords (s : State) (e : DirEntry) : List Nat :=
  if s.pack.source.isNone then s.badWords (s.loadAddress e) e.length.toNat else []

/-- The uncorrectable words that a read of the image in the staging window meets (R272). -/
def State.stagingBad (s : State) (off len : Nat) : List Nat :=
  if s.pack.source.isNone then s.badWords (stagingStart + off) len else []

/-- The trailer of a signed pack. -/
def State.imageTrailer (s : State) (size : Nat) : List Byte :=
  match s.pack.source with
  | some slot => s.flashRead (packSlotBase slot.toNat + size - 96) 96
  | none => s.fmRead (stagingStart + 0xFF00) 96

/-- Checks 1 to 3 of Table 6-9 on the header and directory. -/
def headerResult (h dir : List Byte) : Byte :=
  if h.take 4 ≠ [0x41, 0x46, 0x4C, 0x53] then 0x30
  else if u32At h 0x3C ≠ crc32cOf (h.take 0x3C) ∨ u16At h 4 ≠ 1 ∨ u16At h 6 ≠ 64 ∨ u32At h 0x20 ≠ 64
      ∨ 2 ≤ (u16At h 0xE).toNat ∨ !allZero (slice h 0x2C 16) then 0x31
  else if u16At h 0xC = 0 ∨ 64 < (u16At h 0xC).toNat ∨ crc32cOf dir ≠ u32At h 0x24 then 0x32
  else 0

/-- Checks 1 to 3 of Table 6-9, where an uncorrectable word of the staging window fails the CRC that covers it
(log entry 32). -/
def State.headResult (s : State) (h dir : List Byte) : Byte :=
  if s.stagingBad 0 64 ≠ [] then 0x31
  else
    let r := headerResult h dir
    if r = 0 && s.stagingBad 64 dir.length != [] then 0x32 else r

def overlap (a la b lb : Nat) : Bool := decide (a < b + lb) && decide (b < a + la)

/-- Whether an entry meets an earlier one in a sense `f`. -/
def meetsEarlier (f : DirEntry → DirEntry → Bool) (dir : List DirEntry) (i : Nat) (e : DirEntry) : Bool :=
  (dir.take i).any fun d => f d e

/-- TARGET is one that Table 6-8 gives for the kind. -/
def targetOk (e : DirEntry) : Bool :=
  match e.kind.toNat with
  | 1 => decide (e.target.toNat ≤ 1)
  | 2 => decide (e.target.toNat ≤ 31)
  | _ => e.target == 0xFF

/-- The first entry that fails a test, as an ENTRY value. -/
def firstBad (dir : List DirEntry) (f : Nat → DirEntry → Bool) : Option Byte :=
  (dir.zipIdx.find? fun e => f e.2 e.1).map fun e => BitVec.ofNat 8 e.2

/-- Checks 4 to 9 of Table 6-9: result and ENTRY. A CONTENT entry whose VERSION is not 0 breaks Table 6-7 (R140); DESIGN
CHOICE (log entry 118): it is refused with KIND. -/
def State.directoryResult (s : State) (h : List Byte) (dir : List DirEntry) : Byte × Byte :=
  let size := (u32At h 8).toNat
  let limit := if (u16At h 0xE).getLsbD 0 then size - 96 else size
  let kind (n : Nat) : Byte := byteAt h (0x16 + n)
  let layoutBad (i : Nat) (e : DirEntry) : Bool :=
    e.offset.toNat % 32 != 0 || decide (e.offset.toNat < 64 + 32 * dir.length)
    || decide (limit < e.offset.toNat + e.length.toNat) || e.reserved
    || meetsEarlier (fun d e => overlap d.offset.toNat d.length.toNat e.offset.toNat e.length.toNat) dir i e
  let kindBad (i : Nat) (e : DirEntry) : Bool :=
    !lengthOk e.kind e.length.toNat || !targetOk e || (e.kind == 5 && e.version != 0)
    || (e.kind != 5 && meetsEarlier (fun d e => d.kind == e.kind && d.target == e.target) dir i e)
  let meshBad (_ : Nat) (e : DirEntry) : Bool := e.kind == 1 && kind e.target.toNat == 0xFF
  let destBad (i : Nat) (e : DirEntry) : Bool :=
    if e.kind = 5 then
      e.dest.toNat % 32 != 0 || decide (tableStart < e.dest.toNat + e.length.toNat)
      || meetsEarlier (fun d e => d.kind == 5
            && overlap d.dest.toNat d.length.toNat e.dest.toNat e.length.toNat) dir i e
    else e.dest != 0
  let leasedBad (_ : Nat) (e : DirEntry) : Bool :=
    e.kind == 5 && (List.finRange 8).any fun n => (s.layer n).leased e.dest.toNat e.length.toNat
  match firstBad dir layoutBad with
  | some i => (0x34, i)
  | none =>
    match firstBad dir kindBad with
    | some i => (0x35, i)
    | none =>
      if kind 0 ≠ (s.link 0).kind ∨ kind 1 ≠ (s.link 1).kind then (0x36, 0xFF)
      else
        match firstBad dir meshBad with
        | some i => (0x36, i)
        | none =>
          match firstBad dir destBad with
          | some i => (0x37, i)
          | none =>
            match firstBad dir leasedBad with
            | some i => (0x38, i)
            | none =>
              if (List.finRange 8).any fun p => isPackPair p && (s.bank p).pending then (0x3B, 0xFF)
              else (0, 0xFF)

/-- One body is copied to its load address; a load over Svarn-H leaves it in place. -/
def copyBody (e : DirEntry) (s : State) : State :=
  match s.pack.source with
  | none => s
  | some _ =>
    let a := s.loadAddress e
    let body := s.imageBody e
    gorseStore a body (if e.kind = 5 then noteLease a body.length s else s)

/-- Check 10 of Table 6-9, body by body. -/
def loadBodies : List (DirEntry × Nat) → State → (Byte × Byte) × State
  | [], s => ((0, 0xFF), s)
  | (e, i) :: t, s =>
    let s1 := copyBody e (reportBad (s.bodyWords e) s)
    if s.bodyBad e || crc32cOf (s.imageBody e) != e.crc then ((0x39, BitVec.ofNat 8 i), s1)
    else loadBodies t s1

/-- Check 11 of Table 6-9 (R129). -/
def State.signatureOk (s : State) (h dir : List Byte) (entries : List DirEntry) : Bool :=
  if (u16At h 0xE).getLsbD 0 then
    let t := s.imageTrailer (u32At h 8).toNat
    let digest := sha256 (h ++ dir ++ entries.flatMap s.imageBody)
    s.stagingBad 0xFF00 96 == [] && t.take 32 == digest && ecdsaOk s.cairn.packKey digest (t.drop 32)
  else !s.pack.signedOnly

/-- The pack load ends with a result (R130, R131). -/
def finishLoad (result entry : Byte) (s : State) : State :=
  { s with pack := { s.pack with
      state := if result = 0 then .loaded else .failed, result := result, entry := entry } }

/-- The checks and copies of a load (R130 to R132): the header and directory are in the staging window before the checks.
DESIGN CHOICE (log entry 118): an xSPI error ends a load before anything is copied, with ENTRY 0xFF. -/
def loadPack (flash : FlashRead) (s : State) : State :=
  if flash = .error && s.pack.source.isSome then finishLoad 0x3C 0xFF s
  else
    let h := s.imageHead 0 64
    let count := (u16At h 0xC).toNat
    let dirBytes := s.imageHead 64 (32 * min count 64)
    let dir := (List.range (min count 64)).map fun e => entryOf (slice dirBytes (32 * e) 32)
    let r3 := s.headResult h dirBytes
    let s0 := reportBad (s.stagingBad 0 (64 + dirBytes.length)) s
    let s1 := match s.pack.source with
      | some _ => gorseStore stagingStart (h ++ dirBytes) s0
      | none => s0
    if r3 ≠ 0 then finishLoad r3 0xFF s1
    else
      let r9 := s1.directoryResult h dir
      if r9.1 ≠ 0 then finishLoad r9.1 r9.2 s1
      else
        let r := loadBodies dir.zipIdx s1
        if r.1.1 ≠ 0 then finishLoad r.1.1 r.1.2 r.2
        else
          let s2 := reportBad (if (u16At h 0xE).getLsbD 0 then r.2.stagingBad 0xFF00 96 else []) r.2
          if !s2.signatureOk h dirBytes dir then finishLoad 0x33 0xFF s2
          else finishLoad 0 0xFF { s2 with pack := { s2.pack with
            directory := dir, loadedId := u32At h 0x10, loadedVersion := u16At h 0x14 } }

/-- RESULT BUSY of a refused pack action (R136). -/
def packBusy (s : State) : State := { s with pack := { s.pack with result := 0x3B, entry := 0xFF } }

/-- A swap of a pack pair is pending. -/
def State.packPending (s : State) : Bool := (List.finRange 8).any fun p => isPackPair p && (s.bank p).pending

/-- The inactive bank of every pack pair opens (R130). -/
def openPackBanks (s : State) : State :=
  forAll (fun (p : Fin 8) t => if isPackPair p then openBank p t else t) s

/-- LOAD_FLASH (`slot` given) and OPEN_HOST (R130, R131, R136). A refused action leaves RESULT BUSY. -/
def packOpen (slot : Option Byte) (s : State) : Bool × State :=
  let free := s.pack.state == .idle || s.pack.state == .loaded || s.pack.state == .failed
  if !free || s.packPending then (false, packBusy s)
  else
    let s1 := openPackBanks s
    (true, { s1 with pack := { s1.pack with
      state := if slot.isSome then .loading else .opened, source := slot, boot := false } })

/-- A FLASH_SLOT lies wholly within the flash (R379). -/
def State.slotInFlash (s : State) (slot : Byte) : Bool :=
  decide (slot.toNat ≤ 5) && decide (packSlotBase slot.toNat + 0x2800000 ≤ s.clocks.flashSize.toNat * 1024)

/-- CLOSE_HOST (R131). -/
def packClose (s : State) : Bool × State :=
  if s.pack.state = .opened then (true, { s with pack := { s.pack with state := .loading } })
  else (false, packBusy s)

/-- Swap requests of the pairs that the directory names (R134). -/
def requestGroup : List (Fin 8) → State → Except Abort State
  | [], s => .ok s
  | p :: t, s =>
    match requestSwap p true s with
    | .ok s1 => requestGroup t s1
    | .error e => .error e

/-- ACTIVATE (R134 to R136). DESIGN CHOICE (log entry 118): a named pair whose bank does not take the request, being
verified at the host's own request, ends the activation with BUSY and ENTRY 0xFF. -/
def packActivate (s : State) : Bool × State :=
  if s.pack.state ≠ .loaded then (false, packBusy s)
  else
    let s0 : State := { s with pack := { s.pack with state := .activating, activateCloses := 0 } }
    let bad (_ : Nat) (e : DirEntry) : Bool :=
      e.kind == 5 && (s.badIn e.dest.toNat e.length.toNat
        || crc32cOf (s.fmRead e.dest.toNat e.length.toNat) != e.crc)
    let first := firstBad s.pack.directory bad
    let read := match first with
      | some i => s.pack.directory.take (i.toNat + 1)
      | none => s.pack.directory
    let s1 := reportBad ((read.filter fun e => e.kind == 5).flatMap fun e =>
      s.badWords e.dest.toNat e.length.toNat) s0
    match first with
    | some i => (true, endActivation 0x39 i .failed s1)
    | none =>
      match requestGroup s1.namedPairs s1 with
      | .ok s2 => (true, s2)
      | .error _ => (true, endActivation 0x3B 0xFF .failed s1)

/-- Every pending request of a pack pair is cancelled (R136). -/
def cancelPackPairs (s : State) : State := forAll (fun (p : Fin 8) t => if isPackPair p then bankCancel p t else t) s

/-- CANCEL (R136): the requests of an activation, and those that BANK_CTRL made on the opened banks. -/
def packCancel (s : State) : Bool × State :=
  match s.pack.state with
  | .opened | .loading | .loaded | .activating => (true, endActivation 0x3E 0xFF .idle (cancelPackPairs s))
  | _ => (false, packBusy s)

/-- ACTIVATE_TIMEOUT ticket closes have passed (R135). -/
def activateTimeout (s : State) : State :=
  if s.pack.state = .activating && decide (s.pack.activateTimeout.toNat ≤ s.pack.activateCloses) then
    endActivation 0x3D 0xFF .failed s
  else s

/-! ### commit schedules (R138, R139) -/

/-- The bytes of the active schedule. -/
def State.schedule (s : State) : List Byte := s.activeTable 7 0 0x10000

/-- Layers that any entry of the active schedule names. -/
def State.schedLayers (s : State) : Byte :=
  let t := s.schedule
  (List.range (schedCount t)).foldl
    (fun acc e => acc ||| BitVec.ofNat 8 (2 ^ (schedEntry t e).layer.toNat)) 0

/-- The schedule stops and its ownership ends (R139). -/
def stopSchedule (result : Byte) (s : State) : State :=
  if !s.sched.running then s
  else { s with sched := { s.sched with
    running := false, started := false, stopped := true, owned := 0, inFlight := 0, result := result } }

/-- A write of SCHED_START (R138). -/
def schedStart (start : U32) (s : State) : Bool × State :=
  let refuse (r : Byte) : Bool × State := (false, { s with sched := { s.sched with result := r } })
  if start.toNat < s.frame.number.toNat + 2 then refuse 0
  else if (s.bank 7).activeBank.isNone then refuse 0
  else if s.schedLayers &&& s.essential ≠ 0 then refuse 0x03
  else (true, { s with sched := { s.sched with
    running := true, started := false, stopped := false, nextEntry := 0, result := 0
    owned := s.schedLayers, passStart := start, inFlight := 0 } })

/-- The pass of the schedule that frame `f` lies in: where it starts, and how many of its entries are behind. A running LOOP
schedule begins a pass every LENGTH_FRAMES frames, across the wrap of the frame number too (R138, R148). -/
def State.passAt (s : State) (f : U32) : U32 × Nat :=
  let len := schedLength s.schedule
  let k := (f - s.sched.passStart).toNat
  if s.sched.started && schedLoops s.schedule && decide (len ≤ k) then
    (s.sched.passStart + BitVec.ofNat 32 (k / len * len), 0)
  else (s.sched.passStart, s.sched.nextEntry)

/-- Entry `e` of the pass that starts at `start` is due at the subframe L marker of the present frame (R138). -/
def State.entryDue (s : State) (start : U32) (e : Nat) : Bool :=
  start + BitVec.ofNat 32 (schedEntry s.schedule e).offset == s.frame.number + 1

/-- Indexes of the entries that are due: those before them whose frame a jump has skipped are passed over (R138, R148). -/
def State.dueIndexes (s : State) : List Nat :=
  let p := s.passAt (s.frame.number + 1)
  let due := s.entryDue p.1
  ((((List.range (schedCount s.schedule)).drop p.2).dropWhile fun e => !due e).takeWhile due)

/-- The entries due at the subframe L marker of the present frame (R138). -/
def State.dueEntries (s : State) : List SchedEntry := s.dueIndexes.map (schedEntry s.schedule)

def layerFin (b : Byte) : Fin 8 := ⟨b.toNat % 8, Nat.mod_lt _ (by decide)⟩

/-- The staging objects of an entry are written (R138). -/
def stageEntry (e : SchedEntry) (s : State) : State :=
  s.modLayer (layerFin e.layer) fun l => { l with staging := e.config.unreserved, edited := true }

/-- The tag of an entry goes into its snapshot, which is the schedule's. -/
def markScheduled (e : SchedEntry) (s : State) : State :=
  s.modLayer (layerFin e.layer) fun l =>
    { l with check := l.check.map fun c => { c with snap := { c.snap with tag := e.tag, scheduled := true } } }

/-- A commit of schedule entries, several as one group, each with its own tag (R138). -/
def commitEntries (es : List SchedEntry) (s : State) : Except Abort State :=
  let mask := es.foldl (fun acc e => acc ||| BitVec.ofNat 8 (2 ^ (layerFin e.layer).val)) (0 : Byte)
  let r := match es with
    | [e] => commitLayer (layerFin e.layer) e.tag 0 0 s
    | _ => commitGroup mask 0 0 0 s
  match r with
  | .error a => .error a
  | .ok s1 => .ok (es.foldl (fun t e => markScheduled e t) s1)

/-- A scheduled commit is refused: the schedule stops, with a report (R139). -/
def schedRefused (result layer : Byte) (s : State) : State :=
  report1 0x01 0x24 layer (stopSchedule result s)

/-- The pending snapshot of a scheduled commit has been refused between two states by the re-check of R61 (R139). -/
def schedDropped (before after : State) (s : State) : State :=
  let gone (n : Fin 8) : Bool := ((before.layer n).pending.any Snapshot.scheduled) && (after.layer n).pending.isNone
    && (after.layer n).result == 0x0C
  match (List.finRange 8).find? gone with
  | some n => if s.sched.running then schedRefused 0x0C (BitVec.ofNat 8 n.val) s else s
  | none => s

/-- SCHEDULED_COMMIT: from the subframe L marker of the frame before, the due entries are staged and committed. -/
def scheduledCommit (s : State) : State :=
  let es := s.dueEntries
  if !s.sched.running || s.frame.slot < 36 || es = [] then s
  else
    let t := s.schedule
    let s0 := reportBad (s.activeBad 7 0 (16 + 48 * schedCount t)) s
    let s1 := es.foldl (fun t e => stageEntry e t) s0
    let mask := es.foldl (fun acc e => acc ||| BitVec.ofNat 8 (2 ^ (layerFin e.layer).val)) (0 : Byte)
    match commitEntries es s1 with
    | .error _ => schedRefused 0 ((es.head?.map SchedEntry.layer).getD 0xFF) s1
    | .ok s2 =>
      { s2 with sched := { s2.sched with
          started := true, inFlight := mask, nextEntry := (s.dueIndexes.getLast?.getD 0) + 1
          passStart := (s.passAt (s.frame.number + 1)).1 } }

def execScheduledCommit (s : State) : Host.Outcome State Fault Refusal := .next (scheduledCommit s)

/-- The check of a scheduled commit ends (R139). -/
def schedCheckEnd (n : Fin 8) (result : Byte) (s : State) : State :=
  if !inMask s.sched.inFlight n then s
  else
    let s1 : State := { s with sched := { s.sched with inFlight := 0 } }
    if result = 0 then s1
    else
      let bad := (List.finRange 8).find? fun k => inMask s.sched.inFlight k && (s.layer k).result == result
      schedRefused result (BitVec.ofNat 8 ((bad.map Fin.val).getD n.val)) s1

/-- The schedule at a ticket close: the first pass begins, and at the end of a pass without LOOP the schedule stops (R139). -/
def schedTicket (s : State) : State :=
  if !s.sched.running then s
  else
    let begun := s.sched.started || decide (s.sched.passStart ≤ s.frame.number)
    let s1 : State := { s with sched := { s.sched with started := begun } }
    let passed := decide (schedLength s.schedule ≤ (s.frame.number - s.sched.passStart).toNat)
    if begun && passed && !schedLoops s.schedule then stopSchedule 0 s
    else
      let p := s1.passAt s.frame.number
      { s1 with sched := { s1.sched with passStart := p.1, nextEntry := p.2 } }

/-! ### status words -/

/-- BANK_STATUS (Table 6-16). -/
def State.bankStatus (s : State) (p : Fin 8) : U32 :=
  let b := s.bank p
  BitVec.ofNat 32 (b.lastResult.toNat * 2 ^ 24 + b.lastDefer.toNat * 2 ^ 20 + natOfBool b.pending * 512
    + natOfBool (b.bank1 == .active) * 256 + b.bank1.code * 16 + b.bank0.code)

/-- PACK_STATUS (Table 6-15). -/
def State.packStatus (s : State) : U32 :=
  BitVec.ofNat 32 (s.pack.result.toNat * 2 ^ 24 + s.pack.entry.toNat * 2 ^ 16
    + natOfBool s.pack.mixed * 16 + s.pack.state.code)

/-- SCHED_STATUS (0x3830.03). -/
def State.schedStatus (s : State) : U32 :=
  let st := if s.sched.running then (if s.sched.started then 2 else 1) else if s.sched.stopped then 3 else 0
  let next := if schedLoops s.schedule && decide (schedCount s.schedule ≤ s.sched.nextEntry) then 0 else s.sched.nextEntry
  BitVec.ofNat 32 (next % 65536 * 2 ^ 16 + s.sched.result.toNat * 2 ^ 8 + st)

end Sys2Proof.Machine
end

