-- ==== Sys2Proof/Machine/Diag.lean ====
section
/-!
DEFINITION. Machine/Diag.lean: the fault map of a tile and its commits (R192 to R197), calibration builds and their
triggers (R198 to R200, R125), and forward-voltage ageing (R202).
-/
namespace Sys2Proof.Machine

/-- Gorse runs: the device has booted past its boot ROM and is not in a state below IDLE. -/
def State.gorse (s : State) : Bool :=
  s.net.served && !s.net.romOnly && (s.safety.power == .run || s.safety.power == .idle)

/-! ### positions and codes (R192, Table 9-2) -/

def Pos.xn (p : Pos) : Nat := p.x.toNat
def Pos.yn (p : Pos) : Nat := p.y.toNat
/-- A position word or the position of a DIAG entry (Tables 8-9 and 8-10). -/
def posOf (w : U32) : Pos :=
  { x := BitVec.ofNat 11 (fld w 21 11), y := BitVec.ofNat 9 (fld w 12 9), e := BitVec.ofNat 2 (fld w 10 2) }
/-- The position names an emitter of a tile of this kind (step 1 of R193). -/
def Pos.ok (p : Pos) (kind : Byte) : Bool :=
  decide (p.xn < gridX kind) && decide (p.yn < gridY kind) && decide (p.e.toNat < emitters kind)
def Pos.index (p : Pos) (kind : Byte) : Nat := wordIndex kind p.xn p.yn p.e.toNat

/-- Position of a word index (R82). -/
def posAt (kind : Byte) (i : Nat) : Pos :=
  let t := i / emitters kind
  { x := BitVec.ofNat 11 (t % gridX kind), y := BitVec.ofNat 9 (t / gridX kind)
    e := BitVec.ofNat 2 (i % emitters kind) }

/-- Bytes of a fault map. -/
def mapBytes (kind : Byte) : Nat := calWords kind / 2

def nibble (b : Byte) (i : Nat) : Nat := if i % 2 = 0 then b.toNat % 16 else b.toNat / 16

/-- Code `i` of a map at `base`, as a reader sees it (R272). -/
def State.mapCode (s : State) (base i : Nat) : Nat := nibble (s.fmSeen (base + i / 2)) i

/-- The report of a read of code `i` that meets an uncorrectable word (R272). -/
def reportCode (base i : Nat) (s : State) : State := reportBad (s.badWords (base + i / 2) 1) s

/-- Code `i` of a map replaced. -/
def setMapCode (base i c : Nat) (s : State) : State :=
  let b := (s.fmSeen (base + i / 2)).toNat
  fmStore (base + i / 2)
    [BitVec.ofNat 8 (if i % 2 = 0 then b / 16 * 16 + c else b % 16 + 16 * c)] s

/-- Severity (step 3 of R193). -/
def severity (c : Nat) : Nat :=
  if c = 3 then 5 else if c = 2 then 4 else if c = 1 then 3 else if c = 0 then 0 else if 8 ≤ c then 1 else 2

/-- A DIM code. -/
def isDim (c : Nat) : Bool := decide (8 ≤ c)

/-! ### the writer (R193, R194) -/

/-- Step 1 of R193 drops the entry. -/
def entryBad (kind : Byte) (w : U32) : Bool :=
  let k := fld w 7 3
  !(posOf w).ok kind || k == 0 || decide (6 ≤ k) || (k != 4 && fld w 0 7 != 0)

/-- Sectors fenced because of stuck-on pixels (R194, R203, R204). -/
def strayFence (n : Fin 2) (sectors : U16) (index : Byte) (s : State) : State :=
  report (unitTile n) 0x0E index 2 (Scope.sectors n sectors)
    (s.modDiag n fun d => { d with strayFenced := d.strayFenced ||| sectors })

/-- The sector of a position, as a mask and as an INDEX. -/
def State.sectorMask (s : State) (n : Fin 2) (p : Pos) : U16 := BitVec.ofNat 16 (2 ^ sectorOf (s.link n) p.xn p.yn)
def State.sectorIndex (s : State) (n : Fin 2) (p : Pos) : Byte := BitVec.ofNat 8 (sectorOf (s.link n) p.xn p.yn)

/-- Sectors of listed pixels, as a mask. -/
def State.listedSectors (s : State) (n : Fin 2) : U16 :=
  (s.tileDiag n).stuck.foldl (fun acc p => acc ||| s.sectorMask n p) 0

/-- While a tile has no valid mesh, every sector that holds a listed pixel is fenced (R203): those not yet fenced so. -/
def fenceListed (n : Fin 2) (s : State) : State :=
  let new := s.listedSectors n &&& ~~~((s.tileDiag n).strayFenced)
  if s.meshValid n || new = 0 then s
  else
    match (s.tileDiag n).stuck.find? fun p => s.sectorMask n p &&& new != 0 with
    | some p => strayFence n new (s.sectorIndex n p) s
    | none => s

/-- A STUCK_ON pixel is listed (R194), unless it is already; its sector is fenced when the list is full or the tile has no
valid mesh (R203). -/
def listStuck (n : Fin 2) (p : Pos) (s : State) : State :=
  let d := s.tileDiag n
  if d.stuck.contains p then fenceListed n s
  else if 256 ≤ d.stuck.length then
    strayFence n (s.sectorMask n p) (s.sectorIndex n p) (s.modDiag n fun d => { d with stuckListFull := true })
  else
    let s1 := report1 (unitTile n) 0x0E (s.sectorIndex n p) (s.modDiag n fun d => { d with stuck := d.stuck ++ [p] })
    if s.meshValid n then s1 else strayFence n (s.sectorMask n p) (s.sectorIndex n p) s1

/-- The code that an entry of KIND `k` and LEVEL `level` gives a pixel of code `cur` (steps 2 and 3 of R193). -/
def entryCode (dimRetire k level cur : Nat) : Nat :=
  let put (c : Nat) : Nat := if severity cur < severity c || (isDim c && isDim cur) then c else cur
  match k with
  | 4 => put (if level < dimRetire then 4 else 8 + (level - 64) / 8)
  | 5 => if isDim cur then 0 else cur
  | _ => put k

/-- The writer applies one DIAG entry (R193). -/
def writeEntry (n : Fin 2) (w : U32) (s : State) : State :=
  let kind := (s.link n).kind
  if entryBad kind w then s.modDiag n fun d => { d with diagBad := satInc d.diagBad }
  else
    let p := posOf w
    let i := p.index kind
    let cur := s.mapCode (fmapWorking n) i
    let new := entryCode s.diagCfg.dimRetire.toNat (fld w 7 3) (fld w 0 7) cur
    let s0 := reportCode (fmapWorking n) i s
    let s1 := if new = cur then s0 else setMapCode (fmapWorking n) i new s0
    if fld w 7 3 = 3 then listStuck n p s1 else s1

/-! ### commits (R195, R196) -/

/-- The codes other than NORMAL of a map, by index. -/
def State.codesOf (s : State) (base len : Nat) : List (Nat × Nat) :=
  (s.mem.fm.filter fun c => decide (base ≤ c.1) && decide (c.1 < base + len)).flatMap fun c =>
    let i := 2 * (c.1 - base)
    [(i, c.2.toNat % 16), (i + 1, c.2.toNat / 16)].filter fun x => x.2 != 0

/-- The codes of a map as a reader sees them: those of an uncorrectable word have no value that the spec gives (R272). -/
def State.codesSeen (s : State) (base len : Nat) : List (Nat × Nat) :=
  let bad := s.badWords base len
  if bad = [] then s.codesOf base len
  else
    ((s.codesOf base len).filter fun c => !bad.contains ((base + c.1 / 2) / 32))
      ++ bad.flatMap fun w => ((List.range 64).map fun k =>
          (2 * (w * 32 - base) + k, nibble (s.fmSeen (w * 32 + k / 2)) k)).filter fun c => c.2 != 0

/-- The working copy differs from the verified copy. -/
def State.mapDirty (s : State) (n : Fin 2) : Bool :=
  let len := mapBytes (s.link n).kind
  s.codesOf (fmapWorking n) len != s.codesOf (fmapVerified n) len

/-- Bytes and uncorrectable words of a range moved to another place of field memory. -/
def copyRange (src dst len : Nat) (s : State) : State :=
  let moved := s.mem.fm.filter fun c => decide (src ≤ c.1) && decide (c.1 < src + len)
  let fm := moved.foldl (fun m c => cellPut fmReset m (c.1 - src + dst) c.2) (cellClear s.mem.fm dst len)
  let kept := s.mem.bad.filter fun w => !(decide (dst ≤ w * 32) && decide (w * 32 < dst + len))
  let bad := (s.mem.bad.filter fun w => decide (src ≤ w * 32) && decide (w * 32 < src + len)).map fun w =>
    w + dst / 32 - src / 32
  { s with mem := { s.mem with fm := fm, bad := kept ++ bad } }

/-- A commit starts (R195): the copy is taken and its CRC-32C formed, and its verification enters the jobs of channel 0
(log entry 119). While the copy is not verified the window holds no verified map. During a copy a further commit is left
for the end of it. -/
def startCommit (n : Fin 2) (s : State) : State :=
  if (s.tileDiag n).copying then s.modDiag n fun d => { d with commitDue := true }
  else
    let len := mapBytes (s.link n).kind
    let crc := crc32cOf (s.fmRead (fmapWorking n) len)
    let s1 := copyRange (fmapWorking n) (fmapVerified n) len (reportBad (s.badWords (fmapWorking n) len) s)
    queueJob (.fmap n) (s1.modDiag n fun d => { d with
      copying := true, commitDue := false, copyCrc := crc, valid := false, goodAtCopy := d.good })

/-- The entry that restores a code on replay (R196). -/
def replayEntry (kind : Byte) (i code : Nat) : U32 :=
  let p := posAt kind i
  let kl : Nat := if code = 0 then 5 * 128 else if code ≤ 3 then code * 128
    else if 8 ≤ code then 4 * 128 + (68 + 8 * (code - 8)) else 4 * 128
  BitVec.ofNat 32 (p.xn * 2 ^ 21 + p.yn * 2 ^ 12 + p.e.toNat * 2 ^ 10 + kl)

/-- Codes that changed between two commits, with their new values. -/
def changedCodes (old new : List (Nat × Nat)) : List (Nat × Nat) :=
  (new.filter fun c => !old.contains c)
    ++ ((old.filter fun c => !(new.any fun d => d.1 == c.1)).map fun c => (c.1, 0))

/-- The record of a serial number replaced by its image; a new one where there is none, in the slot of a serial number
that is not fitted once four are held (R385). -/
def modTileRecord (fitted : U64 → Bool) (serial : U64) (f : TileRecord → TileRecord) (l : List TileRecord) :
    List TileRecord :=
  let new := f { serial := serial, faults := [], baseline := none, baseTemp := 0x8000 }
  if l.any fun r => r.serial == serial then l.map fun r => if r.serial == serial then f r else r
  else if l.length < 4 then l ++ [new]
  else
    match l.findIdx? fun r => !fitted r.serial with
    | some i => l.set i new
    | none => l ++ [new]

/-- A tile with this serial number is fitted. -/
def State.fitted (s : State) (serial : U64) : Bool :=
  (List.finRange 2).any fun k => (s.link k).descriptor != [] && (s.link k).serial == serial

def State.tileRecord (s : State) (n : Fin 2) : Option TileRecord :=
  s.cairn.tiles.find? fun r => r.serial == (s.link n).serial

/-- Changed codes are appended to the Cairn list of 8192 entries (R196). -/
def appendFaults (n : Fin 2) (es : List U32) (s : State) : State :=
  if es = [] then s
  else if s.cairn.failing then cairnFailure s
  else
    let old := ((s.tileRecord n).map TileRecord.faults).getD []
    let new := (old ++ es).take 8192
    let s1 : State := { s with cairn := { s.cairn with
      writeFailed := false, wroteAt := some s.clock
      tiles := modTileRecord s.fitted (s.link n).serial (fun r => { r with faults := new }) s.cairn.tiles } }
    if new.length = 8192 && !(s.tileDiag n).listFull then
      report1 0x1A 0x1A 0xFF (s1.modDiag n fun d => { d with listFull := true })
    else s1

/-! ### calibration builds (R198 to R200, R125) -/

/-- A calibration set in memory or flash is valid (R387). -/
def calsetHeaderOk (h : List Byte) : Bool :=
  h.take 4 == [0x43, 0x53, 0x45, 0x54] && u16At h 4 == 1 && u32At h 0xFFC == 0x5A5AA5A5

def calsetBase : Nat := 0xA00000
def State.calsetHeader (s : State) : List Byte := s.flashRead calsetBase 0x1000
/-- The factory words of a tile as flash holds them. -/
def State.factoryBytes (s : State) (n : Fin 2) : List Byte :=
  s.flashRead (calsetBase + 0x1000 + 0x200000 * n.val) (2 * le (slice s.calsetHeader (0x18 + 4 * n.val) 4))

def Link.calDigest (l : Link) : List Byte := slice l.descriptor 0x20 32

/-- DIGEST_n and the SHA-256 of the words are CAL_DIGEST of the tile (R387). -/
def digestOk (h words : List Byte) (n : Fin 2) (digest : List Byte) : Bool :=
  slice h (0x20 + 0x20 * n.val) 32 == digest && sha256 words == digest

def State.calsetOk (s : State) (n : Fin 2) : Bool :=
  calsetHeaderOk s.calsetHeader && digestOk s.calsetHeader (s.factoryBytes n) n (s.link n).calDigest

/-- aa of a sector (R199), the ageing correction. -/
def ageFactor (k : U16) (dvf : U16) : Nat := 65536 + k.toNat * dvf.toNat

def State.sectorAa (s : State) (n : Fin 2) : List Nat :=
  (s.tileDiag n).ageDvf.toList.map fun v => ageFactor s.diagCfg.ageK v

/-- A `uint32` of a formula (log entry 23). -/
def u32Of (x : Nat) : Nat := if x < 2 ^ 32 then x else (Config.uint32Overflow x).toNat

/-- The base gain g of R199. -/
def baseGain (gf aa tcoef : Nat) (temp : Int) : Nat :=
  let at_ := (max 32768 (65536 + Int.tdiv (tcoef * (temp - 250)) 10)).toNat
  let a := u32Of ((aa * at_ + 32768) / 65536)
  u32Of ((gf * a + 32768) / 65536)

/-- Table 9-3 rows 1 to 5: the FSTATE of a pixel that is forced to zero; none where it lights. -/
def deadState (dimRetire code factory : Nat) : Option Nat :=
  if code = 3 ∨ factory = 5 then some 5
  else if code = 2 ∨ factory = 4 then some 4
  else if code = 1 ∨ factory = 3 then some 3
  else if (4 ≤ code ∧ code < 8) ∨ factory = 6 then some 6
  else if 8 ≤ code ∧ 68 + 8 * (code - 8) < dimRetire then some 6
  else none

/-- A word of Table 9-3 and whether its g exceeded 4095. -/
def calWordOf (dimRetire share code factory gain dead : Nat) : Nat × Bool :=
  match deadState dimRetire code factory with
  | some f => (f, false)
  | none =>
    let boost (g : Nat) : Nat := if dead = 0 then g else (g * (256 + dead * share) + 128) / 256
    let e := 68 + 8 * (code - 8)
    let r : Nat × Nat :=
      if 8 ≤ code then (boost ((gain * 128 + e / 2) / e), 2)
      else if 1 ≤ dead then (boost gain, 1)
      else (gain, 0)
    (16 * min r.1 4095 + r.2, decide (4095 < r.1))

/-- Map code and factory word of one emitter, as the build took them. -/
def State.buildInput (s : State) (n : Fin 2) (b : CalBuild) (x y e : Nat) : Nat × Nat :=
  let i := wordIndex (s.link n).kind x y e
  let w := if b.calset then le (s.flashRead (calsetBase + 0x1000 + 0x200000 * n.val + 2 * i) 2) else 0x8000
  (((b.codes.find? fun c => c.1 == i).map Prod.snd).getD 0, w)

/-- Dead orthogonal neighbours N (R199). -/
def State.deadNeighbours (s : State) (n : Fin 2) (b : CalBuild) (x y e : Nat) : Nat :=
  let kind := (s.link n).kind
  let at_ : List (Nat × Nat) :=
    (if 0 < x then [(x - 1, y)] else []) ++ (if x + 1 < gridX kind then [(x + 1, y)] else [])
    ++ (if 0 < y then [(x, y - 1)] else []) ++ (if y + 1 < gridY kind then [(x, y + 1)] else [])
  (at_.filter fun q =>
    let i := s.buildInput n b q.1 q.2 e
    match deadState b.dimRetire i.1 (i.2 % 16) with
    | some f => f != 5
    | none => false).length

/-- The built word of one emitter. -/
def State.buildWord (s : State) (n : Fin 2) (b : CalBuild) (p : Pos) : Nat × Bool :=
  let i := s.buildInput n b p.xn p.yn p.e.toNat
  let aa := b.aa.getD (sectorOf (s.link n) p.xn p.yn) 65536
  let g := baseGain (i.2 / 16) aa b.tcoef b.temp
  calWordOf b.dimRetire b.share i.1 (i.2 % 16) g (s.deadNeighbours n b p.xn p.yn p.e.toNat)

/-- The verified copy holds a map that a build may take: no copy runs and the last one verified (R195). -/
def Diag.mapReady (d : Diag) : Bool := !d.copying && !d.commitFailed

/-- A build starts with the present inputs, which it keeps (R125). It waits for the first TEMP (R199) and for a verified
map (R195). A build that was in progress is given up: it starts over with the new inputs. -/
def startBuild (n : Fin 2) (s : State) : State :=
  let d := s.tileDiag n
  if (s.cur n).tempMean = 0x8000 || !d.mapReady then
    s.modDiag n fun d => { d with building := none, buildWait := true, queued := false }
  else
    let ok := s.calsetOk n
    let len := mapBytes (s.link n).kind
    let b : CalBuild := { temp := (s.cur n).tempMean.toInt, aa := s.sectorAa n, codes := s.codesSeen (fmapVerified n) len
                          calset := ok, dimRetire := s.diagCfg.dimRetire.toNat, share := s.diagCfg.compShare.toNat
                          tcoef := s.diagCfg.tcoef.toNat }
    let s1 := openBank (calPair n) (reportBad (s.badWords (fmapVerified n) len) s)
    let s2 := s1.modDiag n fun d => { d with
      building := some b, lastBuild := some b, buildWait := false, queued := false, retried := false
      calsetMismatch := !ok }
    if ok then s2 else report1 0x1A 0x1B (BitVec.ofNat 8 n.val) s2

/-- A build is asked for: at once, or queued while a swap of the pair is pending (R125). -/
def requestBuild (n : Fin 2) (s : State) : State :=
  if (s.bank (calPair n)).pending then s.modDiag n fun d => { d with queued := true, buildWait := false }
  else startBuild n s

/-- A trigger of R200. -/
def trigger (n : Fin 2) (code : BitVec 4) (s : State) : State :=
  if !s.gorse || (s.link n).descriptor = [] then s
  else requestBuild n (s.modDiag n fun d => { d with lastTrigger := code })

/-- A sector's aa differs by 256 or more from that of the build most recently started. -/
def State.ageTrigger (s : State) (n : Fin 2) : Bool :=
  match (s.tileDiag n).lastBuild with
  | none => false
  | some b => ((s.sectorAa n).zip b.aa).any fun p => decide (256 ≤ max p.1 p.2 - min p.1 p.2)

/-- TILE_TEMP_MEAN differs by CAL_TSTEP or more from the TEMP_USED of that build. -/
def State.tempTrigger (s : State) (n : Fin 2) : Bool :=
  match (s.tileDiag n).lastBuild with
  | none => false
  | some b => (s.cur n).tempMean != 0x8000
      && decide (s.diagCfg.calTstep.toNat ≤ ((s.cur n).tempMean.toInt - b.temp).natAbs)

/-- CAL_BUILD_START: a rebuild trigger of R200; codes 0x2 and 0x3 act where their condition holds. -/
def execCalBuildStart (n : Fin 2) (code : BitVec 4) (s : State) : Host.Outcome State Fault Refusal :=
  .next (
    if code = 0 ∨ 7 < code.toNat then s
    else if code = 2 ∧ !s.ageTrigger n then s
    else if code = 3 ∧ !s.tempTrigger n then s
    else trigger n code s)

/-- The words of a finished build, with the CRC-32C of the bank and the clamped words (R125, R199). -/
def buildBank (n : Fin 2) (b : CalBuild) (s : State) : State :=
  let kind := (s.link n).kind
  let words := (List.range (calWords kind)).map fun i => s.buildWord n b (posAt kind i)
  let bytes := words.flatMap fun w => leBytes 2 w.1
  let p := calPair n
  let i := (s.bank p).inactive
  let crc := crc32cOf bytes
  let clamped := (words.filter fun w => w.2).length
  let s1 := (gorseStore (bankWindow p i).1 bytes s).modBank p fun x =>
    if i = 0 then { x with builderCrc0 := crc } else { x with builderCrc1 := crc }
  s1.modDiag n fun d => { d with building := none, builtClamped := BitVec.ofNat 16 (min clamped 0xFFFF) }

/-- CAL_BUILD_COMPLETE: the build ends and issues its swap request (R125). -/
def execCalBuildComplete (n : Fin 2) (s : State) : Host.Outcome State Fault Refusal :=
  .next (match (s.tileDiag n).building with
    | none => s
    | some b =>
      let s1 := buildBank n b s
      match requestSwap (calPair n) false s1 with
      | .ok s2 => s2
      | .error _ => s1)

/-- The verification of a calibration bank has failed (R125): one rebuild from the same inputs, then class 2. DESIGN CHOICE (log
entry 120): the second failure withdraws the pending swap, and a queued rebuild starts at once. -/
def calBuildFailed (n : Fin 2) (s : State) : State :=
  let s1 := bankCancel (calPair n) s
  if !(s.tileDiag n).retried then
    (openBank (calPair n) s1).modDiag n fun d => { d with retried := true, building := d.lastBuild }
  else
    let s2 := report 0x1A 0x1B (BitVec.ofNat 8 n.val) 2 {} s1
    if (s.tileDiag n).queued then startBuild n s2 else s2

/-- FORCED_ZERO and RESERVED_FSTATE of the bank that becomes active, GAIN_CLAMPED, CAL_TEMP and the queued rebuild, at
the ticket close of its swap (R83, R125, R199). -/
def calBankActive (n : Fin 2) (s : State) : State :=
  let kind := (s.link n).kind
  let words := words16 (s.activeTable (calPair n) 0 (2 * calWords kind))
  let forced := (words.filter fun w => decide (3 ≤ w % 16)).length
  let reserved := (words.filter fun w => decide (7 ≤ w % 16)).length
  let temp : U16 := match (s.tileDiag n).lastBuild with
    | some b => BitVec.ofInt 16 b.temp
    | none => (s.tileDiag n).calTemp
  let s1 := (s.modCur n fun c => { c with
      forcedZero := BitVec.ofNat 32 forced, reservedFstate := BitVec.ofNat 32 reserved }).modDiag n
    fun d => { d with gainClamped := d.builtClamped, calTemp := temp }
  let s2 := if reserved = 0 then s1 else report1 0x1A 0x06 (BitVec.ofNat 8 n.val) s1
  if (s.tileDiag n).queued then startBuild n s2 else s2

/-! ### the end of a commit (R195) -/

def countCodes (l : List (Nat × Nat)) (f : Nat → Bool) : U32 := BitVec.ofNat 32 (l.filter fun c => f c.2).length

/-- A commit that verified: what the Cairn list does not stand for goes to it (R196), and a rebuild starts where the verified
map changed (R195, R200). A replay that came during the copy keeps what it restored. -/
def commitMatched (n : Fin 2) (s : State) : State :=
  let kind := (s.link n).kind
  let d0 := s.tileDiag n
  let codes := s.codesOf (fmapVerified n) (mapBytes kind)
  let changed := changedCodes d0.goodAtCopy codes
  let restored := (d0.good.filter fun c => !d0.goodAtCopy.contains c).filter fun c => !(codes.any fun k => k.1 == c.1)
  let s1 := s.modDiag n fun d => { d with
    copying := false, commitFailed := false, repeated := false, valid := true, committed := true
    version := d.version + 1, crc := d.copyCrc, good := codes ++ restored, verified := codes
    openCount := countCodes codes (· == 1), shortCount := countCodes codes (· == 2)
    stuckCount := countCodes codes (· == 3), dimCount := countCodes codes isDim
    retiredCount := countCodes codes fun c => decide (4 ≤ c) && decide (c < 8) }
  let s2 := appendFaults n (changed.map fun c => replayEntry kind c.1 c.2) s1
  if codes ≠ d0.verified then trigger n 1 s2
  else if !d0.committed then trigger n 7 s2
  else if d0.buildWait then requestBuild n s2
  else s2

/-- A commit that did not verify: Gorse repeats it once, and a second mismatch is class 2 (R195). -/
def commitMismatch (n : Fin 2) (s : State) : State :=
  let d := s.tileDiag n
  let s1 := s.modDiag n fun d => { d with copying := false, commitFailed := true, repeated := !d.repeated }
  if d.repeated then
    let s2 := report 0x1A 0x1B (BitVec.ofNat 8 n.val) 2 {} s1
    if d.commitDue then startCommit n s2 else s2
  else startCommit n s1

/-- FMAP_COPY_END: a check unit verifies the copy, `corrupt` being what the copy holds otherwise than it should (R195). Its
job on channel 0 folds the bank address, and ends when those ahead of it have (R121, R330). -/
def fmapCopyEnd (n : Fin 2) (corrupt : List (Nat × Byte)) (s : State) : State :=
  let d := s.tileDiag n
  if !d.copying || s.mgmt.jobs.head? ≠ some (.fmap n) then s
  else
    let len := mapBytes (s.link n).kind
    let base := fmapVerified n
    let s0 : State := { s with mem := { s.mem with
      fm := corrupt.foldl (fun m c => if c.1 < len then cellPut fmReset m (base + c.1) c.2 else m) s.mem.fm } }
    let bad := s0.badIn base len
    let crc := crcOf crc32c (s0.fmRead base len)
    let a : U32 := BitVec.ofNat 32 base
    let s1 := endHead (deviceJob 0 0x83 a (BitVec.ofNat 32 len) a crc32c (if bad then 1 else 0) crc
      (reportBad (s0.badWords base len) s0))
    if !bad && crc.setWidth 32 == d.copyCrc then
      let s2 := commitMatched n s1
      if d.commitDue then startCommit n s2 else s2
    else commitMismatch n s1

def execFmapCopyEnd (n : Fin 2) (corrupt : List (Nat × Byte)) (s : State) : Host.Outcome State Fault Refusal :=
  .next (fmapCopyEnd n corrupt s)

/-! ### FMAP_CTRL (object 0x5010.01) -/

/-- RETIRE. -/
def fmapRetire (n : Fin 2) (p : Pos) (s : State) : Except Abort State :=
  let kind := (s.link n).kind
  if kind = 0xFF || !p.ok kind then .error .valueRange
  else
    let i := p.index kind
    let base := fmapWorking n
    let s1 := reportCode base i s
    .ok (if severity (s.mapCode base i) < 2 then setMapCode base i 4 s1 else s1)

/-- CLEAR. -/
def fmapClear (n : Fin 2) (s : State) : Except Abort State :=
  if s.safety.lamp ≠ .parked then .error .stateConflict
  else
    let base := fmapWorking n
    let s1 : State := { s with
      mem := { s.mem with
        fm := cellClear s.mem.fm base 0x80000
        bad := s.mem.bad.filter fun w => !(decide (base ≤ w * 32) && decide (w * 32 < base + 0x80000)) } }
    let s2 := s1.modDiag n fun d => { d with listFull := false }
    let empty (r : TileRecord) : TileRecord := if r.serial == (s.link n).serial then { r with faults := [] } else r
    .ok (if s.cairn.failing then cairnFailure s2
      else { s2 with cairn := { s2.cairn with tiles := s2.cairn.tiles.map empty } })

/-- FMAP_CTRL with its ACTION in [3:0]. -/
def fmapCtrl (n : Fin 2) (w : U32) (s : State) : Except Abort State :=
  match fld w 0 4 with
  | 1 => .ok (startCommit n s)
  | 2 => fmapRetire n (posOf w) s
  | 3 => fmapClear n s
  | 4 => .ok (trigger n 5 s)
  | _ => .error .valueRange

/-! ### scans and the replay (R196, R197, R210) -/

/-- CMD DIAG_SCAN of a sector mask with the kinds open, short and dim. -/
def sendScan (n : Fin 2) (mask : U16) (s : State) : State := sendCmd n 4 (bytes16 mask ++ [7]) s

/-- Sectors the tile has, as a mask. -/
def Link.allSectors (l : Link) : U16 := BitVec.ofNat 16 (2 ^ sectorCount l.descriptor - 1)

/-- The next unfenced sector from `start` in ascending order, wrapping round. -/
def nextSector (free : U16) (count start : Nat) : Option Nat :=
  ((List.range count).map fun k => (start + k) % count).find? fun i => free.getLsbD i

/-- SCAN_PERIOD on one tile (R197). -/
def scanNext (n : Fin 2) (s : State) : State :=
  let l := s.link n
  let count := sectorCount l.descriptor
  if !l.isUp then s
  else
    match nextSector (l.allSectors &&& ~~~(s.fencedSectors n)) count (s.tileDiag n).nextScan.toNat with
    | none => s
    | some i => (sendScan n (BitVec.ofNat 16 (2 ^ i)) s).modDiag n fun d =>
        { d with nextScan := BitVec.ofNat 4 ((i + 1) % count) }

def execScanPeriodExpiry (s : State) : Host.Outcome State Fault Refusal :=
  .next (if s.gorse && s.safety.lamp != .parked && s.safety.lamp != .off then forAll scanNext s else s)

/-- The codes that a Cairn list restores on a map that holds none, by word index (R193, R196). -/
def listCodes (kind : Byte) (dimRetire : Nat) (es : List U32) : List (Nat × Nat) :=
  (es.foldl (fun m w =>
    if entryBad kind w then m
    else
      let i := (posOf w).index kind
      let cur := ((m.find? fun c : Nat × Nat => c.1 == i).map Prod.snd).getD 0
      (i, entryCode dimRetire (fld w 7 3) (fld w 0 7) cur) :: m.filter fun c => c.1 != i) []).filter fun c => c.2 != 0

/-- A serial number counts as fitted: a link holds its descriptor, or a link still trains (log entry 119). -/
def State.maybeFitted (s : State) (serial : U64) : Bool :=
  s.fitted serial || (List.finRange 2).any fun k => (s.link k).state == .training

/-- FAULT_MAP_REPLAY: the Cairn list of the trained serial number goes through the writer, lists of serial numbers that
are no longer fitted are discarded, and Gorse commits (R195, R196). What the list restores counts as committed, so that
the next commit appends what the list does not hold and nothing else. -/
def faultMapReplay (n : Fin 2) (s : State) : State :=
  if !s.gorse || (s.link n).descriptor = [] then s
  else
    let es := ((s.tileRecord n).map TileRecord.faults).getD []
    let s1 := es.foldl (fun t w => writeEntry n w t) s
    let keep (r : TileRecord) : TileRecord := if s.maybeFitted r.serial then r else { r with faults := [] }
    let tiles := s1.cairn.tiles.map keep
    let s2 : State := if tiles = s1.cairn.tiles then s1 else if s1.cairn.failing then cairnFailure s1
      else { s1 with cairn := { s1.cairn with tiles := tiles, writeFailed := false } }
    let listed := listCodes (s.link n).kind s.diagCfg.dimRetire.toNat es
    let s3 := s2.modDiag n fun d => { d with
      good := listed ++ d.good.filter fun c => !(listed.any fun k => k.1 == c.1)
      listFull := d.listFull || decide (8192 ≤ es.length) }
    startCommit n (s3.modLink n fun l => { l with replayed := true })

def execFaultMapReplay (n : Fin 2) (s : State) : Host.Outcome State Fault Refusal := .next (faultMapReplay n s)

/-- The entries of a DIAG packet, and Gorse's commit after the last packet of a scan or an unsolicited entry (R195). -/
def diagPayload (n : Fin 2) (tag : U16) (last : Bool) (payload : List Byte) (s : State) : State :=
  let es := (List.range (payload.length / 4)).map fun k => u32At payload (4 * k)
  let s1 := es.foldl (fun t w => writeEntry n w t) s
  let ends := last && (s.tileDiag n).scanTag == some tag
  let first := last && (s.tileDiag n).firstScan == some tag
  let s1a := if first then s1.modDiag n fun d => { d with firstScan := none, scanned := true } else s1
  let s2 := if ends then s1a.modDiag n fun d => { d with scanTag := none, scanRun := false } else s1a
  let s3 := if ends && (s.tileDiag n).scanRun then s2.modCur n fun c => { c with limitRun := 0 } else s2
  if s.gorse && (last || (tag == 0 && !es.isEmpty)) then startCommit n s3 else s3

/-! ### ageing (R202) -/

/-- Reference position `i` of a sector. -/
def referencePos (d : List Byte) (kind : Byte) (sector i : Nat) : Pos :=
  let r := sectorRect d sector
  let x := 16 * r.1 + (2 * (i % 8) + 1) * (16 * r.2.2.1) / 16
  let y := 16 * r.2.1 + (2 * (i / 8) + 1) * (16 * r.2.2.2) / 8
  { x := BitVec.ofNat 11 x, y := BitVec.ofNat 9 y, e := BitVec.ofNat 2 (if kind = 1 then i % 3 else 0) }

def posWord (p : Pos) : U32 := BitVec.ofNat 32 (p.xn * 2 ^ 21 + p.yn * 2 ^ 12 + p.e.toNat * 2 ^ 10)

/-- One VF_SAMPLE per sector. -/
def sampleSectors (n : Fin 2) (baseline : Bool) (s : State) : State :=
  let l := s.link n
  let count := sectorCount l.descriptor
  let cmd (t : State) (i : Nat) : State :=
    sendCmd n 5 ([32, 0, 0, 0] ++ (List.range 32).flatMap fun k => bytes32 (posWord (referencePos l.descriptor l.kind i k))) t
  ((List.range count).foldl cmd s).modDiag n fun d => { d with agePending := l.allSectors, ageBaseline := baseline }

/-- An ageing round on one tile, only near the baseline's temperature. -/
def ageRound (n : Fin 2) (s : State) : State :=
  let base := (s.tileDiag n).ageBaseTemp
  let mean := (s.cur n).tempMean
  if (s.link n).isUp && base != 0x8000 && mean != 0x8000 && decide ((mean.toInt - base.toInt).natAbs ≤ 50) then
    sampleSectors n false s
  else s

def execAgePeriodExpiry (s : State) : Host.Outcome State Fault Refusal :=
  .next (if s.gorse then forAll ageRound s else s)

/-- The samples of a VF payload in the order of the reference positions of a sector. -/
def sectorSamples (l : Link) (sector : Nat) (payload : List Byte) : List (Option Nat) :=
  let entries := (List.range (payload.length / 8)).map fun k =>
    (posOf (u32At payload (8 * k)), fld (u32At payload (8 * k + 4)) 16 16)
  (List.range 32).map fun i =>
    (entries.find? fun e => e.1 == referencePos l.descriptor l.kind sector i).map fun e => e.2

/-- The sector whose reference set the first position of a VF payload belongs to. -/
def vfSector (l : Link) (payload : List Byte) : Option Nat :=
  (List.range (sectorCount l.descriptor)).find? fun i =>
    (List.range 32).any fun k => referencePos l.descriptor l.kind i k == posOf (u32At payload 0)

/-- dvf of a sector; none where fewer than 8 positions count. -/
def State.dvfOf (s : State) (n : Fin 2) (sector : Nat) (base : List Nat) (now : List (Option Nat)) : Option U16 :=
  let l := s.link n
  let diffs := (List.range 32).filterMap fun i =>
    let c := s.mapCode (fmapVerified n) ((referencePos l.descriptor l.kind sector i).index l.kind)
    match base[i]?, (now.getD i none) with
    | some b, some v => if c = 0 || isDim c then some ((v : Int) - b) else none
    | _, _ => none
  if diffs.length < 8 then none
  else some (BitVec.ofInt 16 (max 0 (diffs.sum / diffs.length)))

/-- A VF packet's samples: a baseline, or an ageing round (R202). -/
def vfPayload (n : Fin 2) (payload : List Byte) (s : State) : State :=
  let l := s.link n
  let d := s.tileDiag n
  match vfSector l payload with
  | none => s
  | some i =>
    if !d.agePending.getLsbD i then s
    else
      let now := sectorSamples l i payload
      let s1 := s.modDiag n fun d => { d with agePending := d.agePending &&& ~~~(BitVec.ofNat 16 (2 ^ i)) }
      if d.ageBaseline then
        let temp := (s.cur n).tempMean
        let put (r : TileRecord) : TileRecord :=
          { r with baseline := some ((r.baseline.getD (List.replicate 16 [])).set i (now.map fun v => v.getD 0))
                   baseTemp := temp }
        if s.cairn.failing then cairnFailure s1
        else
          let s2 : State := { s1 with cairn := { s1.cairn with
            writeFailed := false, tiles := modTileRecord s.fitted l.serial put s1.cairn.tiles } }
          s2.modDiag n fun d => { d with ageBaseTemp := temp }
      else
        match (s.tileRecord n).bind TileRecord.baseline with
        | none => s1
        | some b =>
          let s2 := (List.range 32).foldl (fun t k => reportCode (fmapVerified n) ((referencePos l.descriptor l.kind i k).index l.kind) t) s1
          match s.dvfOf n i (b.getD i []) now with
          | none => s2
          | some v =>
            if h : i < 16 then s2.modDiag n fun d => { d with ageDvf := vput d.ageDvf ⟨i, h⟩ v } else s2

/-! ### status words -/

/-- FMAP_STATUS (Table 9-5). -/
def State.fmapStatus (s : State) (n : Fin 2) : U32 :=
  let d := s.tileDiag n
  BitVec.ofNat 32 (d.version.toNat * 2 ^ 16 + natOfBool d.listFull * 128 + natOfBool d.stuckListFull * 64
    + natOfBool d.commitFailed * 8 + natOfBool d.copying * 4 + natOfBool (s.mapDirty n) * 2 + natOfBool d.valid)

/-- CAL_STATUS (Table 9-6). -/
def State.calStatus (s : State) (n : Fin 2) : U32 :=
  let d := s.tileDiag n
  BitVec.ofNat 32 (d.gainClamped.toNat * 2 ^ 16 + d.lastTrigger.toNat * 2 ^ 12 + natOfBool d.calsetMismatch * 4
    + natOfBool d.queued * 2 + natOfBool d.building.isSome)

end Sys2Proof.Machine
end

