-- ==== Sys2Proof/Machine/Current.lean ====
section
/-!
DEFINITION. Machine/Current.lean: the predicted current, its filter and its comparison (R206 to R210), the governor
and its budget (R212, R213, R19, R345), tile temperatures (R214) and the PMBus limit (R213, R370).
-/
namespace Sys2Proof.Machine

/-! ### prediction (R206, R207) -/

/-- Current of a band's codes in nA before the shift of subframe L; an RGB tile's codes run red, green, blue. -/
def codesCurrent (d : List Byte) (kind : Byte) (codes : List Byte) : Nat :=
  (codes.zipIdx.map fun c => curEntry d (c.2 % emitters kind) c.1.toNat).sum

/-- Band of a row (R92). -/
def bandOf (kind : Byte) (y : Nat) : Nat := y / bandRows kind

/-- The listed pixels of a band whose sector switch is closed (R203, R206). -/
def State.litStuck (s : State) (n : Fin 2) (b : Nat) : List Pos :=
  let l := s.link n
  (s.tileDiag n).stuck.filter fun p =>
    bandOf l.kind p.yn == b && l.sectorsOn.getLsbD (sectorOf l p.xn p.yn)

/-- BC_H or BC_L of a band (R206). -/
def State.bandCurrent (s : State) (n : Fin 2) (b : Nat) (subL : Bool) (codes : List Byte) : Nat :=
  let l := s.link n
  let stuck := ((s.litStuck n b).map fun p => curEntry l.descriptor p.e.toNat 255).sum
  let sum := codesCurrent l.descriptor l.kind codes + stuck
  if subL then (sum + 8) / 16 else sum

/-- QUI: the sectors whose switches the device has commanded closed (R207). -/
def State.quiescentSum (s : State) (n : Fin 2) : Nat :=
  let l := s.link n
  ((List.range (sectorCount l.descriptor)).map fun i =>
    if l.sectorsOn.getLsbD i then quiescent l.descriptor i else 0).sum

/-- exp series of 1 − e^−x at 80 fractional bits. -/
def expSeries (x : Nat) : Nat → Nat → Int → Int → Int
  | 0, _, _, acc => acc
  | k + 1, i, term, acc =>
    let t := -(term * x / 2 ^ 80) / (i : Int)
    expSeries x k (i + 1) t (acc - t)

/-- K of R207 for a FRAME_DIV and an ISENSE_TAU in µs. -/
def filterK (div : Byte) (tau : U16) : Nat :=
  let x := div.toNat * 312500 * 2 ^ 80 / (204000 * max 1 tau.toNat)
  ((65536 * expSeries x 24 1 (2 ^ 80) 0 + 2 ^ 79) / 2 ^ 80).toNat

/-- One step of the filter (R207), rounding away from zero. -/
def filterStep (f i k : Nat) : Nat :=
  let p : Int := ((i : Int) - f) * k
  ((f : Int) + (if 0 < p then (p + 65535) / 65536 else p / 65536)).toNat

/-- One more frame slot has passed since the last command that R209 names. -/
def countSlot (n : Fin 2) (s : State) : State := s.modLink n fun l => { l with slotsSinceCmd := l.slotsSinceCmd + 1 }

/-- The prediction at the start of a frame slot: after the latch of that slot, before the commands sent in it. -/
def predictSlot (n : Fin 2) (s : State) : State :=
  let l := s.link n
  if !l.isUp then s.modCur n fun c => { c with filter := none }
  else
    let qui := s.quiescentSum n
    let i := qui + (s.cur n).bandNow.toList.sum
    let k := filterK s.frame.divUsed (s.cur n).tau
    s.modCur n fun c => { c with
      quiNow := qui, filter := some (match c.filter with
        | none => i
        | some f => filterStep f i k) }

/-- At the marker of frame slot 18 or 52: F after the update for slot 17 or 51, and whether the comparison is skipped
whatever the ADC gives (R209). It runs before the prediction of its own slot. -/
def holdMarker (n : Fin 2) (s : State) : State :=
  let skip := !(s.link n).isUp || (s.cur n).filter.isNone || decide ((s.link n).slotsSinceCmd < 34)
  s.modCur n fun c => { c with markF := c.filter.getD 0, markSkip := skip }

/-- The code set of a band is latched: its current is shown from here on (R207). -/
def latchCurrent (n : Fin 2) (s : State) : State :=
  s.modCur n fun c => match c.bandNext with
    | some (b, i) => { c with bandNow := vput c.bandNow b i, bandNext := none }
    | none => c

/-- PARK, LIMP or a new RUN: no band has been latched (R207). -/
def clearBands (n : Fin 2) (s : State) : State :=
  s.modCur n fun c => { c with bandNow := .replicate 32 0, bandNext := none }

/-! ### comparison (R209, R210) -/

/-- An `int32` of a formula (log entry 23). -/
def i32Of (x : Int) : Int :=
  if -(2 ^ 31) ≤ x ∧ x < 2 ^ 31 then x else (Config.int32Overflow x).toInt

/-- A cause is held by a record in force at this class or above, or waits in a pending register. -/
def State.raised (s : State) (unit cause : Byte) (cls : Nat) : Bool :=
  s.faults.queue.any (fun r => r.inForce && r.held.any fun h =>
    h.unit == unit && h.cause == cause && decide (cls ≤ h.cls))
  || s.faults.pending.any fun r => r.causes.any fun c =>
    c.1 == unit && c.2.1 == cause && decide (cls ≤ c.2.2.2)

/-- A comparison that is skipped. -/
def skipCurrent (n : Fin 2) (s : State) : State := s.modCur n fun c => { c with skipped := true }

/-- The comparison is skipped whatever the ADC gave: the marker found so, or the link has gone since (R209). -/
def State.skipsCurrent (s : State) (n : Fin 2) : Bool := (s.cur n).markSkip || !(s.link n).isUp

/-- The comparison of an injected code with F (R209). -/
def compareCurrent (n : Fin 2) (code : Nat) (s : State) : State :=
  if s.skipsCurrent n then skipCurrent n s
  else
    let c := s.cur n
    let meas := i32Of (((code : Int) - c.offset.toInt) * c.uaPerLsb.toNat)
    let pred : Int := (c.markF / 1000 : Nat)
    let dev := i32Of (meas - pred)
    let limit := i32Of (c.tolAbs.toNat + pred * c.tolRel.toNat / 65536)
    let fail := decide (limit < (dev.natAbs : Int))
    s.modCur n fun c => { c with
      pred := BitVec.ofInt 32 pred, meas := BitVec.ofInt 32 meas, dev := BitVec.ofInt 32 dev
      skipped := false
      consecFail := if fail then satInc8 c.consecFail else 0
      limitRun := if fail then c.limitRun + 1 else 0
      failCount := if fail then satInc c.failCount else c.failCount }

/-- CUR_FAIL_LIMIT_REACHED: the reactions of R210. -/
def curFailLimit (n : Fin 2) (s : State) : State :=
  let u := unitTile n
  let c := s.cur n
  if c.limitRun < s.diagCfg.curFailLimit.toNat then s
  else if !s.raised u 0x0F 2 then
    let mask := (s.link n).allSectors &&& ~~~(s.fencedSectors n)
    let s1 := report u 0x0F 0xFF 2 { half := BitVec.ofNat 2 (2 ^ n.val) }
      (s.modCur n fun c => { c with limitRun := 0 })
    if mask = 0 then s1
    else
      let tag := (s.link n).cmdTag
      (sendScan n mask s1).modDiag n fun d => { d with scanTag := some tag, scanRun := true }
  else if (s.tileDiag n).scanRun || s.raised u 0x0F 3 then s
  else report u 0x0F 0xFF 3 {} (s.modCur n fun c => { c with limitRun := 0 })

def execCurFailLimitReached (n : Fin 2) (s : State) : Host.Outcome State Fault Refusal :=
  .next (curFailLimit n s)

/-- CUR_STATUS (Table 9-7). -/
def State.curStatus (s : State) (n : Fin 2) : U32 :=
  let c := s.cur n
  let u := unitTile n
  BitVec.ofNat 32 (c.consecFail.toNat * 2 ^ 24 + natOfBool c.skipped * 4
    + natOfBool (s.raised u 0x0F 3) * 2 + natOfBool (s.raised u 0x0F 2))

/-! ### governor (R212, R213, R345) -/

/-- The limit in use, in mA (R213). -/
def State.pmbusLimit (s : State) (n : Fin 2) : U32 :=
  if s.power.pmbAddr[n] = 0 then s.diagCfg.pmbusDefault
  else ((s.cur n).pmbusGood).getD s.diagCfg.pmbusDefault

/-- Junction derate factor (R345). -/
def junctionFactor (floor : U16) (t : Int) : Nat :=
  if t ≤ 1200 then 0x8000
  else if 1350 ≤ t then floor.toNat
  else (0x8000 - ((0x8000 - (floor.toNat : Int)) * (t - 1200)) / 150).toNat

def junctionLimit (limit : U32) (floor : U16) (t : Int) : Nat := limit.toNat * junctionFactor floor t / 32768

/-- TILE_DERATE_LIMIT (R213) in mA, QUI given in nA: the interpolation is exact and its result alone is rounded down. -/
def derateLimit (limit qui : Nat) (t tDerate tMax : Int) : Nat :=
  let top : Int := 1000000 * (limit : Int)
  if t < tDerate then limit
  else if tMax ≤ t then qui / 1000000
  else (((qui : Int) * (tMax - tDerate) + (top - qui) * (tMax - t)) / (1000000 * (tMax - tDerate))).toNat

/-- g_new of R212. -/
def governorScale (g budget hs qui rise : Nat) : Nat :=
  let room := if qui < budget * 1000000 then budget * 1000000 - qui else 0
  let dyn := hs - qui
  let target := if dyn = 0 then 0x8000 else min 0x8000 (g * room / dyn)
  if target < g then target else min target (g + rise)

/-- T_DERATE and T_MAX of the descriptor. -/
def Link.tDerate (l : Link) : Int := i16At l.descriptor 0x14
def Link.tMax (l : Link) : Int := i16At l.descriptor 0x16

/-- Reaching T_MAX starts an episode, which ends below T_DERATE (R213). -/
def maxEpisode (n : Fin 2) (s : State) : State :=
  let c := s.cur n
  let t := c.tempMax.toInt
  let l := s.link n
  if l.descriptor = [] || c.tempMax == 0x8000 then s
  else if l.tMax ≤ t && !c.maxEpisode then
    report (unitTile n) 0x10 0xFF 2 {} (s.modCur n fun c => { c with maxEpisode := true })
  else if t < l.tDerate then s.modCur n fun c => { c with maxEpisode := false }
  else s

/-- The computation for one tile, from the values of the last complete frame. -/
def governTile (n : Fin 2) (s : State) : State :=
  let c := s.cur n
  let l := s.link n
  match c.frameG with
  | none => s
  | some g =>
    let limit := s.pmbusLimit n
    let jd := junctionLimit limit s.tsens.jdFloor s.tsens.tj.toInt
    let derate :=
      if l.descriptor = [] || c.tempMax == 0x8000 then limit.toNat
      else derateLimit limit.toNat c.frameQui c.tempMax.toInt l.tDerate l.tMax
    let budget := min limit.toNat (min jd derate)
    let new := governorScale g.toNat budget (c.frameQui + c.frameSum) c.frameQui s.diagCfg.govRise.toNat
    let capped := if s.raised (unitTile n) 0x0F 2 then min new 0x4000 else new
    let s1 := s.modCur n fun c => { c with
      pmbusLimit := limit, derateLimit := BitVec.ofNat 32 derate, budget := BitVec.ofNat 32 budget
      govNext := BitVec.ofNat 16 capped, govFresh := true }
    { s1 with tsens := { s1.tsens with jdLimit := vput s1.tsens.jdLimit n (BitVec.ofNat 32 jd) } }

/-- GOVERNOR_COMPUTE: Gorse forms the scale of each tile (R212). -/
def execGovernorCompute (s : State) : Host.Outcome State Fault Refusal :=
  .next (if s.gorse then forAll governTile s else s)

/-- The scale at a ticket close (Table 7-4, R19): the last one written, when it lies in Q1.15. -/
def governorTicket (n : Fin 2) (s : State) : State :=
  s.modCur n fun c =>
    let ok := c.govFresh && decide (c.govNext ≤ 0x8000)
    { c with
      frameG := some c.govScale, frameSum := c.sumH, frameQui := c.quiNow
      hSum := BitVec.ofNat 32 (min ((c.quiNow + c.sumH) / 1000) 0xFFFFFFFF)
      govScale := if ok then c.govNext else c.govScale
      govAge := if ok then 0 else c.govAge + 1
      govFresh := false }

/-- GOVERNOR_SCALE_MISSING: three frames without a new scale (R19). -/
def execGovernorScaleMissing (n : Fin 2) (s : State) : Host.Outcome State Fault Refusal :=
  .next (if 3 ≤ (s.cur n).govAge then
      report 0x1B 0x0B (BitVec.ofNat 8 n.val) 2 { half := BitVec.ofNat 2 (2 ^ n.val) } s
    else s)

/-! ### temperatures (R214) -/

/-- Both temperatures taken as T_MAX, reported once per episode. -/
def tempLost (n : Fin 2) (s : State) : State :=
  let c := s.cur n
  let t : U16 := BitVec.ofInt 16 (s.link n).tMax
  let s1 := s.modCur n fun c => { c with tempMax := t, tempMean := t, tempEpisode := true }
  if c.tempEpisode then s1 else report (unitTile n) 0x10 0xFF 2 {} s1

/-- A build that waited for a temperature starts (R199). -/
def releaseBuild (n : Fin 2) (s : State) : State :=
  if (s.tileDiag n).buildWait then requestBuild n s else s

/-- The four values of a TEMP packet. -/
def tempPayload (n : Fin 2) (b : List Byte) (s : State) : State :=
  let vs := ([0, 2, 4, 6].filter fun o => u16At b o != 0x8000).map fun o => i16At b o
  let s1 := s.modCur n fun c => { c with tempSeen := true, tempRun := 0 }
  let s2 := match vs with
    | [] => tempLost n s1
    | v :: t =>
      s1.modCur n fun c => { c with
        tempMax := BitVec.ofInt 16 (t.foldl max v)
        tempMean := BitVec.ofInt 16 (Int.tdiv vs.sum vs.length), tempEpisode := false }
  releaseBuild n (maxEpisode n s2)

/-- The frame ends without a TEMP: counted in every state of the link, for a tile whose descriptor, and with it T_MAX, is
held (R214, log entry 118). -/
def tempFrameEnd (n : Fin 2) (s : State) : State :=
  if (s.link n).descriptor = [] then s
  else s.modCur n fun c => { c with
    tempSeen := false
    tempRun := if c.tempSeen then 0 else c.tempRun + 1
    tempMissing := if c.tempSeen then c.tempMissing else satInc c.tempMissing }

/-- TEMP_MISSING: 8 consecutive frames without TEMP. -/
def execTempMissing (n : Fin 2) (s : State) : Host.Outcome State Fault Refusal :=
  .next (if 8 ≤ (s.cur n).tempRun then releaseBuild n (maxEpisode n (tempLost n s)) else s)

/-! ### PMBus (R213, R370) -/

/-- A LINEAR11 word in mA; values that are not whole mA of a U32 are free (log entry 24). -/
def linear11 (w : U16) : U32 :=
  let e : Int := (BitVec.ofNat 5 (fld w 11 5)).toInt
  let m : Int := (BitVec.ofNat 11 (fld w 0 11)).toInt
  let up := 1000 * m * 2 ^ e.toNat
  let down : Int := 2 ^ (-e).toNat
  if 0 ≤ m ∧ up % down = 0 ∧ up / down < 2 ^ 32 then BitVec.ofInt 32 (up / down) else Config.linear11Ma w

/-- A failed read of a supply: counted, reported, and the third in a row gives up the limit read last (R213, R370). -/
def pmbusFail (n : Fin 2) (s : State) : State :=
  let fails := satInc8 s.power.pmbFails[n]
  let s1 : State := { s with power := { s.power with
    pmbFails := vput s.power.pmbFails n fails, pmbErrCount := satInc s.power.pmbErrCount } }
  let s2 := if 3 ≤ fails then s1.modCur n fun c => { c with pmbusGood := none } else s1
  report1 0x6A 0x1F (BitVec.ofNat 8 n.val) s2

/-- A good read ends the run of failed ones. -/
def pmbusRead (n : Fin 2) (s : State) : State :=
  { s with power := { s.power with pmbFails := vput s.power.pmbFails n 0 } }

/-- The read of IOUT_OC_WARN_LIMIT. -/
def pmbusReadLimit (n : Fin 2) (limit : Option U16) (s : State) : State :=
  match limit with
  | some w => (pmbusRead n s).modCur n fun c => { c with pmbusGood := some (linear11 w) }
  | none => pmbusFail n s

/-- The read of STATUS_WORD: a word that is not zero and differs from the last one read is reported. -/
def pmbusReadStatus (n : Fin 2) (status : Option U16) (s : State) : State :=
  match status with
  | some w =>
    let s1 := pmbusRead n s
    let s2 : State := { s1 with power := { s1.power with
      pmbStatus := vput s.power.pmbStatus n w, pmbSeen := vput s.power.pmbSeen n true } }
    if w ≠ 0 ∧ (w ≠ s.power.pmbStatus[n] ∨ s.power.pmbSeen[n] = false) then report1 0x6A 0x1F (BitVec.ofNat 8 n.val) s2
    else s2
  | none => pmbusFail n s

/-- PMBUS_POLL: the limit and the status word of a tile's supply, none where a read fails (NACK, PEC or timeout). -/
def pmbusPoll (n : Fin 2) (limit status : Option U16) (s : State) : State :=
  if s.power.pmbAddr[n] = 0 || !(s.safety.power == .run || s.safety.power == .idle) then s
  else
    let s1 := pmbusReadStatus n status (pmbusReadLimit n limit s)
    s1.modCur n fun c => { c with pmbusLimit := s1.pmbusLimit n }

def execPmbusPoll (n : Fin 2) (answer : PmbusAnswer) (s : State) : Host.Outcome State Fault Refusal :=
  .next (pmbusPoll n answer.limit answer.status s)

end Sys2Proof.Machine
end

