-- ==== Sys2Proof/Machine/Guard.lean ====
section
/-!
DEFINITION. Machine/Guard.lean: the photometric guard (R218 to R225, R237): zone sums, stray sums, their comparisons,
the clamp and SHADOW_PASS.
-/
namespace Sys2Proof.Machine

/-! ### the active zone set -/

/-- Header and records of the active zone set. -/
def State.zoneSet (s : State) : List Byte := s.activeTable 6 0 3136
def State.zoneNumbers (s : State) : List (Fin 32) :=
  (List.finRange 32).filter fun z => decide (z.val < zoneCount s.zoneSet)
def State.rectNumbers (s : State) : List (Fin 32) :=
  (List.finRange 32).filter fun r => decide (r.val < rectCount s.zoneSet)

/-- Offset of the grid cell of a direction, where the grid holds it (R218). -/
def ZoneRec.cell (z : ZoneRec) (az el : Int) : Option Nat :=
  let u := uOf az / 16
  let v := vOf el / 16
  let cu := (u - z.u0) / 2 ^ z.cellShift.toNat
  let cv := (v - z.v0) / 2 ^ z.cellShift.toNat
  if (z.u0 : Int) ≤ u ∧ (z.v0 : Int) ≤ v ∧ cu < z.gridW ∧ cv < z.gridH then
    some (z.gridOff + cv.toNat * z.gridW + cu.toNat)
  else none

/-- The weight of a direction in a zone (R218). -/
def State.zoneWeight (s : State) (z : ZoneRec) (az el : Int) : Nat :=
  match z.cell az el with
  | some o => (byteAt (s.activeTable 6 o 1) 0).toNat
  | none => 0

def ZoneRec.onTile (z : ZoneRec) (n : Fin 2) : Bool := z.tiles.getLsbD n.val

/-- The ranges of the zone set that the guard reads with the render of band `b` (R218, R272): header and records, and the cells
of the directions of each tile whose link is UP. -/
def State.zoneRanges (s : State) (b : Nat) : List (Nat × Nat) :=
  s.tableRange 6 0 3136 ++ ((List.finRange 2).filter fun n => (s.link n).isUp).flatMap fun n =>
    (bandPositions (s.link n).kind b).flatMap fun p =>
      match s.direction n p.1 p.2 with
      | .lit az el => s.zoneNumbers.flatMap fun z =>
          let rec_ := zoneAt s.zoneSet z.val
          if rec_.onTile n then ((rec_.cell az el).map fun o => s.tableRange 6 o 1).getD [] else []
      | _ => []

/-- A U64 sum that saturates (R219). -/
def addU64 (a : U64) (k : Nat) : U64 := BitVec.ofNat 64 (min (a.toNat + k) (2 ^ 64 - 1))

/-- A byte string in groups of `k`. -/
def groupsOf (k : Nat) : Nat → List Byte → List (List Byte)
  | 0, _ => []
  | m + 1, l => l.take k :: groupsOf k m (l.drop k)

/-- Light of one position in weighted units before the weight (R219). -/
def positionLight (d : List Byte) (subL : Bool) (codes : List Byte) : Nat :=
  (codes.zipIdx.map fun c => fluxEntry d c.2 c.1.toNat).sum * (if subL then 1 else 16)

/-- Directions and light of the positions of a band; a position forced dark weighs nothing (R218, R245). -/
def State.bandLight (s : State) (forced : List Nat) (n : Fin 2) (b : Nat) (subL : Bool) (codes : List Byte) :
    List (Direction × Nat) :=
  let l := s.link n
  let px := bandPositions l.kind b
  (px.zip (groupsOf (emitters l.kind) px.length codes)).map fun p =>
    (s.renderDirection forced n p.1.1 p.1.2, positionLight l.descriptor subL p.2)

/-- What a band adds to a zone. -/
def State.zoneLight (s : State) (z : ZoneRec) (light : List (Direction × Nat)) : Nat :=
  (light.map fun p => match p.1 with
    | .lit az el => s.zoneWeight z az el * p.2
    | _ => 0).sum

/-- Every zone's sum advances by its light of a band of tile `n`. -/
def addZones (s : State) (n : Fin 2) (light : List (Direction × Nat)) (sums : Vector U64 32) : Vector U64 32 :=
  s.zoneNumbers.foldl (fun v z =>
    let rec_ := zoneAt s.zoneSet z.val
    if rec_.onTile n then vmod v z fun a => addU64 a (s.zoneLight rec_ light) else v) sums

/-! ### stray sums (R203) -/

/-- One listed pixel enters the stray sums. -/
def strayPixel (forced : List Nat) (n : Fin 2) (p : Pos) (s : State) : State :=
  match s.renderDirection forced n p.xn p.yn with
  | .lit az el =>
    let l := s.link n
    let amount := 17 * fluxEntry l.descriptor p.e.toNat 255
    let mask := s.sectorMask n p
    s.zoneNumbers.foldl (fun t z =>
      let rec_ := zoneAt s.zoneSet z.val
      let w := if rec_.onTile n then s.zoneWeight rec_ az el else 0
      if w = 0 then t
      else { t with guard := { t.guard with
        stray := vmod t.guard.stray z fun a => addU64 a (w * amount)
        straySectors := vmod t.guard.straySectors z fun m =>
          if n = 0 then (m.1 ||| mask, m.2) else (m.1, m.2 ||| mask) } }) s
  | _ => s

/-- The guard at the render of band 0 of a subframe: the stray sums start afresh, in subframe H the others too. -/
def guardStart (subL : Bool) (s : State) : State :=
  let g := { s.guard with stray := .replicate 32 0, straySectors := .replicate 32 (0, 0) }
  { s with guard := if subL then g else { g with
      road := .replicate 32 0, shadow := .replicate 32 0, sawSward := false, sawHedgerow := false
      lastSource := .dark, shadowFail := false } }

/-- The source of a band render enters the frame's bookkeeping (R221). -/
def noteSource (src : Source) (s : State) : State :=
  { s with guard := { s.guard with
      lastSource := src, sawSward := s.guard.sawSward || src == .sward
      sawHedgerow := s.guard.sawHedgerow || src == .hedgerow } }

/-- The guard over one band render of one tile: road sums from the sent codes, shadow sums from the Sward codes, stray
sums from the listed pixels (R203, R220). -/
def guardBand (forced : List Nat) (n : Fin 2) (b : Nat) (subL : Bool) (sent sward : List Byte) (s : State) : State :=
  if s.zoneNumbers = [] then s
  else
    let road := addZones s n (s.bandLight forced n b subL sent) s.guard.road
    let shadow := if s.guard.shadowFrame then addZones s n (s.bandLight forced n b subL sward) s.guard.shadow
      else s.guard.shadow
    (s.litStuck n b).foldl (fun t p => strayPixel forced n p t)
      { s with guard := { s.guard with road := road, shadow := shadow } }

/-- Sectors of tile `n` that contributed to a zone. -/
def State.straySectorsOf (s : State) (z : Fin 32) (n : Fin 2) : U16 :=
  if n = 0 then s.guard.straySectors[z].1 else s.guard.straySectors[z].2

/-- Bit z of a mask from a test of each zone. -/
def zoneMask (zs : List (Fin 32)) (f : Fin 32 → Bool) : U32 :=
  zs.foldl (fun acc z => if f z then acc ||| BitVec.ofNat 32 (2 ^ z.val) else acc) 0

def State.strayOver (s : State) (z : Fin 32) : Bool :=
  let r := zoneAt s.zoneSet z.val
  r.strayOn && decide (r.strayCap < s.guard.stray[z])

/-- After the render of band 31 of a subframe: each stray sum against its budget (R203). -/
def strayCompare (s : State) : State :=
  let above := s.zoneNumbers.filter s.strayOver
  let s1 : State := { s with guard := { s.guard with
    straySum := s.guard.stray, strayFail := zoneMask s.zoneNumbers s.strayOver } }
  forAll (fun (n : Fin 2) t =>
    let m := above.foldl (fun acc z => acc ||| s.straySectorsOf z n) (0 : U16)
    if m = 0 then t
    else strayFence n m (BitVec.ofNat 8 (((List.range 16).find? fun i => m.getLsbD i).getD 0)) t) s1

/-! ### road and shadow comparisons (R220 to R225) -/

/-- The lamp states of Table 10-6. -/
inductive Grade where
  | service | hedgerow | test | other
  deriving DecidableEq, Repr

def State.grade (s : State) : Grade :=
  match s.safety.lamp with
  | .service => .service
  | .fallback | .recovery => .hedgerow
  | .start => if s.safety.hedgeLatched then .hedgerow else .other
  | .test => .test
  | _ => .other

/-- Caps and floors are compared in this lamp state (Table 10-5). -/
def State.comparesRoad (s : State) : Bool :=
  match s.grade with
  | .service | .hedgerow => true
  | .test => s.safety.testSource != 0
  | .other => false

def State.mixed (s : State) : Bool := s.guard.sawSward && s.guard.sawHedgerow

/-- A tile of the zone has no link that is UP. -/
def State.zoneLinkDown (s : State) (z : ZoneRec) : Bool :=
  (List.finRange 2).any fun n => z.onTile n && !(s.link n).isUp

/-- The zone applies to the source of the frame's last band. -/
def State.zoneApplies (s : State) (z : ZoneRec) : Bool :=
  (z.sward && s.guard.lastSource == .sward) || (z.hedgerow && s.guard.lastSource == .hedgerow)

def State.capFails (s : State) (z : Fin 32) : Bool :=
  let r := zoneAt s.zoneSet z.val
  r.capOn && s.zoneApplies r && decide (r.cap.toNat < s.guard.road[z].toNat + s.guard.straySum[z].toNat)

def State.floorMade (s : State) (r : ZoneRec) : Bool :=
  r.floorOn && s.zoneApplies r && !s.mixed && !s.zoneLinkDown r

def State.floorFails (s : State) (z : Fin 32) : Bool :=
  let r := zoneAt s.zoneSet z.val
  s.floorMade r && decide (s.guard.road[z] < r.floor)

/-- c of R223. -/
def clampValue (g cap t sum margin : Nat) : Nat := if t < cap then g * (cap - t) * margin / (sum * 65536) else 0

/-- A clamp is in force on a tile: a record in force holds a CAP report for it, and CLAMP_G has been lowered. -/
def State.clampOn (s : State) (n : Fin 2) : Bool := s.fences.clamp.getLsbD n.val && s.guard.clampG[n] != 0x8000

/-- A clamp is in force on a tile of the zone. -/
def State.zoneClamped (s : State) (z : ZoneRec) : Bool := (List.finRange 2).any fun n => z.onTile n && s.clampOn n

/-- The clamp of a failing zone on one tile. -/
def clampTile (z : Fin 32) (r : ZoneRec) (n : Fin 2) (s : State) : State :=
  if !r.onTile n then s
  else
    let c := clampValue (s.cur n).govScale.toNat r.cap.toNat s.guard.straySum[z].toNat s.guard.road[z].toNat
      s.guard.clampMargin.toNat
    { s with guard := { s.guard with clampG := vmod s.guard.clampG n fun old => BitVec.ofNat 16 (min old.toNat c) } }

/-- The reaction to a cap that has failed in CAP_FRAMES frames (R223, Table 10-6). The record of a report of class 2 or higher
holds a CAP report for the tiles of the zone. -/
def capReact (z : Fin 32) (r : ZoneRec) (s : State) : State :=
  let i := BitVec.ofNat 8 z.val
  let scope : Scope := { clamp := BitVec.ofNat 2 r.tiles.toNat }
  match s.grade with
  | .service =>
    let s1 := forAll (clampTile z r) s
    let zero := (List.finRange 2).any fun n => r.onTile n && s1.guard.clampG[n] == 0
    let hard := zero || decide (r.capFrames ≤ s.guard.clampRun[z])
    report 0x41 0x11 i (if hard then 3 else 2) scope s1
  | .hedgerow => report 0x41 0x11 i 4 scope s
  | .test => report1 0x41 0x11 i s
  | .other => s

def floorReact (z : Fin 32) (s : State) : State :=
  let i := BitVec.ofNat 8 z.val
  match s.grade with
  | .service => report 0x41 0x12 i 3 {} s
  | .hedgerow => report 0x41 0x12 i 4 {} s
  | .test => report1 0x41 0x12 i s
  | .other => s

/-- The cap and the floor of one zone at frame slot 67. -/
def compareZone (z : Fin 32) (s : State) : State :=
  let r := zoneAt s.zoneSet z.val
  let capMade := r.capOn && s.zoneApplies r
  let capFail := s.capFails z
  let floorFail := s.floorFails z
  let clamped := s.zoneClamped r
  let s1 : State := { s with guard := { s.guard with
    capRun := if capMade then vmod s.guard.capRun z fun k => if capFail then k + 1 else 0 else s.guard.capRun
    clampRun := if capMade then vmod s.guard.clampRun z fun k => if capFail && clamped then k + 1 else 0
      else s.guard.clampRun
    floorRun := if s.floorMade r then vmod s.guard.floorRun z fun k => if floorFail then k + 1 else 0
      else s.guard.floorRun } }
  let s2 := if capFail && decide (r.capFrames ≤ s1.guard.capRun[z]) then capReact z r s1 else s1
  if floorFail && decide (r.floorFrames ≤ s2.guard.floorRun[z]) then floorReact z s2 else s2

/-- A zone of the shadow comparison: APPLY_SWARD, every tile of its mask UP. -/
def State.shadowFails (s : State) (z : Fin 32) : Bool :=
  let r := zoneAt s.zoneSet z.val
  r.sward && !s.zoneLinkDown r
  && ((r.capOn && decide (r.cap.toNat < s.guard.shadow[z].toNat + s.guard.straySum[z].toNat))
      || (r.floorOn && decide (s.guard.shadow[z] < r.floor)))

/-- SHADOW_PASS at frame slot 67 (R237). -/
def shadowCompare (s : State) : State :=
  if s.safety.lamp ≠ .fallback || !s.guard.shadowFrame || s.mixed then s
  else
    let fails := s.guard.shadowFail || s.zoneNumbers.any s.shadowFails
    { s with guard := { s.guard with shadowPass := if fails then 0 else satInc16 s.guard.shadowPass } }

/-- The comparisons of frame slot 67 (R220, R221). -/
def guardCompare (s : State) : State :=
  let zs := s.zoneNumbers
  if zs = [] then s
  else
    let s1 : State :=
      if !s.comparesRoad then s
      else
        let t := zs.foldl (fun t z => compareZone z t) s
        { t with guard := { t.guard with
          zoneSum := s.guard.road, lastMixed := s.mixed
          capFail := zoneMask zs s.capFails, floorFail := zoneMask zs s.floorFails } }
    shadowCompare s1

/-- A new zone set becomes active: every run starts afresh (R221). -/
def guardNewSet (s : State) : State :=
  { s with
    guard := { s.guard with capRun := .replicate 32 0, floorRun := .replicate 32 0, clampRun := .replicate 32 0 }
    stile := { s.stile with run := .replicate 32 0 } }

/-- The clamp of a tile is in force, or waits in a pending register. -/
def State.clampHeld (s : State) (n : Fin 2) : Bool :=
  s.fences.clamp.getLsbD n.val || s.faults.pending.any fun r => r.scope.clamp.getLsbD n.val

/-- GUARD_STATUS (Table 10-14). -/
def State.guardStatus (s : State) : U32 :=
  let t := s.zoneSet
  BitVec.ofNat 32 (natOfBool (s.bank 6).activeBank.isSome * 2 ^ 31 + natOfBool s.guard.shadowFrame * 2 ^ 30
    + natOfBool s.guard.lastMixed * 2 ^ 29 + natOfBool (s.clampOn 1) * 2 ^ 28
    + natOfBool (s.clampOn 0) * 2 ^ 27 + zoneCount t * 256 + rectCount t)

/-- The guard at a ticket close: a clamp whose records are lifted returns to 0x8000 (R223), and the shadow sums follow
the selection of the ticket (R237). -/
def guardTicket (s : State) : State :=
  let clampG := Vector.ofFn fun n : Fin 2 => if s.clampHeld n then s.guard.clampG[n] else 0x8000
  let s1 : State := { s with guard := { s.guard with
    clampG := clampG, shadowFrame := s.safety.lamp == .fallback } }
  { s1 with guard := { s1.guard with status := s1.guardStatus } }

end Sys2Proof.Machine
end

