-- ==== Sys2Proof/Machine/Stile.lean ====
section
/-!
DEFINITION. Machine/Stile.lean: Stile's rectangles, echoes and frame sequence (R227 to R231), and the Hedgerow store as
the light path reads and rechecks it (R232 to R235).
-/
namespace Sys2Proof.Machine

/-! ### findings (Table 10-6) -/

/-- MISS_LIMIT is reached on a zone-set rectangle. -/
def zoneRectReact (cause : Byte) (i : Byte) (rec_ : RectRec) (s : State) : State :=
  match s.grade with
  | .service =>
    if rec_.react = 2 then
      let hard := rec_.layers &&& s.essential
      let soft := rec_.layers &&& ~~~s.essential
      let s1 := forAll (fun (n : Fin 8) t => if hard.getLsbD n.val then report (unitLayer n) cause i 3 {} t else t) s
      if soft = 0 && hard ≠ 0 then s1 else report 0x40 cause i 2 { layers := soft } s1
    else report 0x40 cause i rec_.react.toNat {} s
  | .hedgerow => s
  | _ => report1 0x40 cause i s

/-- MISS_LIMIT is reached on a store rectangle. -/
def storeRectReact (cause i : Byte) (s : State) : State :=
  report 0x40 cause i (if s.grade = .test then 1 else 4) {} s

/-- A comparison of zone-set rectangle `r` (R231). -/
def zoneRectOutcome (cause : Byte) (r : Fin 32) (rec_ : RectRec) (ok : Bool) (s : State) : State :=
  if ok then { s with stile := { s.stile with run := vput s.stile.run r 0 } }
  else
    let k := s.stile.run[r] + 1
    let s1 : State := { s with
      stile := { s.stile with run := vput s.stile.run r k, miss := vmod s.stile.miss r satInc }
      guard := { s.guard with
        shadowFail := s.guard.shadowFail || rec_.isConst
        shadowPass := if s.safety.lamp = .fallback then 0 else s.guard.shadowPass } }
    if k = rec_.missLimit.toNat then zoneRectReact cause (BitVec.ofNat 8 r.val) rec_ s1 else s1

/-- A comparison of store rectangle `r`. -/
def storeRectOutcome (cause : Byte) (r : Fin 32) (rec_ : RectRec) (ok : Bool) (s : State) : State :=
  if ok then { s with stile := { s.stile with hRun := vput s.stile.hRun r 0 } }
  else
    let k := s.stile.hRun[r] + 1
    let s1 : State := { s with
      stile := { s.stile with hRun := vput s.stile.hRun r k, hMiss := vmod s.stile.hMiss r satInc } }
    let i : Byte := BitVec.ofNat 8 (r.val + if rec_.isConst then 128 else 0)
    if k = rec_.missLimit.toNat then storeRectReact cause i s1 else s1

/-! ### signatures (R227, R228) -/

/-- The codes of the rectangle's rows in one band. -/
def RectRec.bandPart (r : RectRec) (kind : Byte) (b : Nat) (codes : List Byte) : List Byte :=
  let first := bandRows kind * b
  (List.range (bandRows kind)).flatMap fun k =>
    if r.y0 ≤ first + k ∧ first + k < r.y0 + r.h then
      slice codes ((k * gridX kind + r.x0) * emitters kind) (r.w * emitters kind)
    else []

def RectRec.firstBand (r : RectRec) (kind : Byte) : Nat := bandOf kind r.y0
def RectRec.lastBand (r : RectRec) (kind : Byte) : Nat := bandOf kind (r.y0 + r.h - 1)
/-- The rectangle is formed over band `b` of tile `n` in the subframe. -/
def RectRec.inBand (r : RectRec) (n : Fin 2) (kind : Byte) (b : Nat) (subL : Bool) : Bool :=
  r.isConst && r.tileFin == n && r.checks subL
  && decide (r.firstBand kind ≤ b) && decide (b ≤ r.lastBand kind)

/-- The signature after one more band. -/
def Sig.feed (g : Sig) (first : Bool) (frame : U32) (leftOut : Bool) (part : List Byte) : Sig :=
  let g0 : Sig := if first then {} else g
  { reg := (crcFeed crc32c (g0.reg.setWidth 64) part).setWidth 32
    frame := some (g0.frame.getD frame)
    uneven := g0.uneven || (g0.frame.any fun f => f != frame)
    leftOut := g0.leftOut || leftOut }

/-- SIG of a finished register. -/
def Sig.value (g : Sig) : U32 := (crcFinish crc32c (g.reg.setWidth 64)).setWidth 32

def RectRec.expected (r : RectRec) (subL : Bool) : U32 := if subL then r.expL else r.expH

/-- R of a signature and whether it matches (R228). -/
def Sig.compare (g : Sig) (r : RectRec) (subL : Bool) (stileFrame : U32) : U32 × Bool :=
  let x := g.value ^^^ fold32 (g.frame.getD 0)
  (x, !g.uneven && x == r.expected subL ^^^ fold32 stileFrame)

/-- A fenced sector overlaps the rectangle. -/
def State.rectFenced (s : State) (n : Fin 2) (r : RectRec) : Bool :=
  let d := (s.link n).descriptor
  (List.range 16).any fun i =>
    let q := sectorRect d i
    (s.fencedSectors n).getLsbD i && overlap r.x0 r.w (16 * q.1) (16 * q.2.2.1)
      && overlap r.y0 r.h (16 * q.2.1) (16 * q.2.2.2)

/-- One zone-set rectangle over one band of Sward codes. -/
def zoneRectBand (n : Fin 2) (b : Nat) (subL : Bool) (codes : List Byte) (s : State) (r : Fin 32) : State :=
  let rec_ := zoneRect s.zoneSet r.val
  let kind := (s.link n).kind
  if !rec_.inBand n kind b subL then s
  else
    let out := !s.meshValid n || s.rectFenced n rec_
    let g := (s.stile.sig[r]).feed (b == rec_.firstBand kind) s.frame.number out (rec_.bandPart kind b codes)
    let s1 : State := { s with stile := { s.stile with sig := vput s.stile.sig r g } }
    if b ≠ rec_.lastBand kind || g.leftOut then s1
    else
      let x := g.compare rec_ subL s.stile.frame
      zoneRectOutcome 0x13 r rec_ x.2
        { s1 with stile := { s1.stile with result := vput s1.stile.result r x.1 } }

/-- One store rectangle over one band of Hedgerow codes. -/
def storeRectBand (n : Fin 2) (b : Nat) (subL : Bool) (codes : List Byte) (s : State) (r : Fin 32) : State :=
  let rec_ := hedgeRect s.hedge.image r.val
  let kind := hedgeKind s.hedge.image n.val
  if !rec_.inBand n kind b subL then s
  else
    let g := (s.stile.hSig[r]).feed (b == rec_.firstBand kind) s.frame.number false (rec_.bandPart kind b codes)
    let s1 : State := { s with stile := { s.stile with hSig := vput s.stile.hSig r g } }
    if b ≠ rec_.lastBand kind then s1
    else storeRectOutcome 0x13 r rec_ (g.compare rec_ subL s.stile.frame).2 s1

def State.storeRects (s : State) : List (Fin 32) :=
  if s.hedge.verified then (List.finRange 32).filter fun r => decide (r.val < s.hedge.rects.toNat) else []

/-- Stile over one band render: `sward` is none while Sward does not render the tile. -/
def stileBand (n : Fin 2) (b : Nat) (subL : Bool) (sward hedge : Option (List Byte)) (s : State) : State :=
  let s1 := match sward with
    | some c => s.rectNumbers.foldl (zoneRectBand n b subL c) s
    | none => s
  match hedge with
  | some c => s1.storeRects.foldl (storeRectBand n b subL c) s1
  | none => s1

/-! ### echoes (R229) -/

/-- The record covers the band of a LATCH in its subframe. -/
def RectRec.echoes (r : RectRec) (n : Fin 2) (latch : Byte) : Bool :=
  let b := fld latch 0 5
  !r.isConst && r.kind == 2 && r.tileFin == n && r.checks (latch.getLsbD 6)
  && decide (r.y0 ≤ b) && decide (b < r.y0 + r.h)

/-- Records that require the ECHO of a latch: zone-set for Sward light, store for Hedgerow light. -/
def State.echoRects (s : State) (n : Fin 2) (e : EchoWait) : List (Fin 32) :=
  match e.source with
  | .sward => s.rectNumbers.filter fun r => (zoneRect s.zoneSet r.val).echoes n e.latch
  | .hedgerow => s.storeRects.filter fun r => (hedgeRect s.hedge.image r.val).echoes n e.latch
  | .dark => []

def echoOutcome (e : EchoWait) (ok : Bool) (s : State) (r : Fin 32) : State :=
  if e.source = .sward then zoneRectOutcome 0x14 r (zoneRect s.zoneSet r.val) ok s
  else storeRectOutcome 0x14 r (hedgeRect s.hedge.image r.val) ok s

/-- ECHO_DEADLINE after a SYNC with valid LATCH. -/
def State.echoDue (s : State) (n : Fin 2) : Option Nat :=
  (s.link n).echo.map fun e => e.at_ + cyclesUs s.stile.echoDeadline.toNat

/-- The comparison of the ECHO that is awaited. -/
def echoCompare (n : Fin 2) (s : State) : State :=
  match (s.link n).echo with
  | none => s
  | some e =>
    let s1 := s.modLink n fun l => { l with echo := none }
    let rs := s.echoRects n e
    if !(s.link n).isUp || rs = [] then s1
    else
      let ok := e.got == some true
      let s2 : State := if ok then s1 else { s1 with stile := { s1.stile with
        echoMismatch := vmod s1.stile.echoMismatch n satInc
        echoLate := if e.got.isNone then vmod s1.stile.echoLate n satInc else s1.stile.echoLate } }
      rs.foldl (echoOutcome e ok) s2

/-- An ECHO that passed the link check: dropped after its deadline, and beyond the first. -/
def echoArrives (n : Fin 2) (p : Packet) (s : State) : State :=
  match (s.link n).echo with
  | none => s
  | some e =>
    if e.got.isSome || decide (e.at_ + cyclesUs s.stile.echoDeadline.toNat < s.clock) then s
    else
      let ok := u32At p.payload 0 == e.expected && p.a == s.stile.frame && p.info == e.latch.setWidth 16
      s.modLink n fun l => { l with echo := some { e with got := some ok } }

/-- The echo value (R174). -/
def echoValue (frame : U32) (latch : Byte) (codes : List Byte) : U32 :=
  crc32cOf (bytes32 frame ++ [latch] ++ codes)

/-! ### frame sequence (R230) -/

/-- STILE_FRAME at a ticket close; `load` at the first ticket close after reset and at each jump. -/
def stileTicket (load : Bool) (s : State) : State :=
  let own := s.stile.frame + 1
  if load || !s.stile.loaded || own = s.frame.number then
    { s with stile := { s.stile with frame := s.frame.number, loaded := true } }
  else
    let s1 : State := { s with stile := { s.stile with
      frame := s.frame.number, seqFaults := satInc s.stile.seqFaults } }
    let cls := match s.grade with
      | .service => 3
      | .hedgerow => 4
      | _ => 1
    report 0x40 0x15 0xFF cls {} s1

/-- STILE_STATUS: rectangles with a run of at least one mismatch. -/
def State.stileStatus (s : State) : U32 := zoneMask (List.finRange 32) fun r => decide (0 < s.stile.run[r])

/-! ### the Hedgerow path (R234, R235) -/

/-- Codes the path forms for a band of a tile of a kind; zero codes from a store that has not verified. -/
def State.hedgeBand (s : State) (bad : List Nat) (kind : Byte) (n : Fin 2) (b : Nat) (subL : Bool) : List Byte :=
  let size := bandCodes kind
  if s.hedge.verified then hedgeCodes s.hedge.image bad n.val b size subL else List.replicate size 0

/-- Codes of fenced sectors are sent as 0 (R235). -/
def State.fenceCodes (s : State) (n : Fin 2) (b : Nat) (codes : List Byte) : List Byte :=
  let l := s.link n
  let px := bandPositions l.kind b
  ((px.zip (groupsOf (emitters l.kind) px.length codes)).flatMap fun p =>
    if s.inFencedSector n p.1.1 p.1.2 then p.2.map fun _ => 0 else p.2)

/-- A store finding of R234. -/
def hedgeFinding (cause : Byte) (s : State) : State :=
  report 0x42 cause 0xFF (if s.safety.lamp = .test then 1 else 4) {} s

/-- Parity errors met while the path reads the store. -/
def storeParity (words : List Nat) (s : State) : State :=
  if words = [] || !s.hedge.locked then s
  else hedgeFinding 0x09 { s with hedge := { s.hedge with lastFail := 0x0A } }

/-- A CRC-64 pass over a store image as channel 1 shows it: a job over HDG with the number of the ticket in force folded in
(R325, R330). -/
def hedgeJob (image : List Byte) (parity : Bool) (crc : U64) (s : State) : State :=
  deviceJob 1 0x444 0 (BitVec.ofNat 32 (hedgeSize image - 8)) s.frame.number crc64 (if parity then 4 else 0) crc s

/-- HEDGE_RECHECK: the CRC-64 of the store is computed again (R234); `parity` are the words with a parity error. -/
def hedgeRecheck (parity : List Nat) (s : State) : State :=
  if !s.hedge.locked then s
  else
    let crc := crcOf crc64 (s.hedge.image.take (hedgeSize s.hedge.image - 8))
    let ok := crc == s.hedge.crc64Ref && parity.isEmpty
    let s0 := hedgeJob s.hedge.image (!parity.isEmpty) crc s
    let s1 : State := { s0 with hedge := { s0.hedge with crc64 := crc, checkOk := ok } }
    if parity ≠ [] then storeParity parity s1
    else if ok then s1
    else hedgeFinding 0x06 { s1 with hedge := { s1.hedge with lastFail := 0x05 } }

def execHedgeRecheck (parity : List Nat) (s : State) : Host.Outcome State Fault Refusal :=
  .next (hedgeRecheck parity s)

/-- HEDGE_STATUS (Table 10-15). -/
def State.hedgeStatus (s : State) : U32 :=
  let h := s.hedge
  BitVec.ofNat 32 (natOfBool h.locked * 2 ^ 31 + natOfBool h.checkOk * 2 ^ 30 + natOfBool h.bound * 2 ^ 29
    + natOfBool (s.safety.mux == .hedgerow) * 2 ^ 28 + h.lastFail.toNat * 2 ^ 16 + h.rects.toNat)

end Sys2Proof.Machine
end

