-- ==== Sys2Proof/Machine/Tiles.lean ====
section
/-!
DEFINITION. Machine/Tiles.lean: the Svarn-E links: training (R177 to R181), lane states (R182, R183, R402), link loss
(R186), and the packets a tile returns (R175, R176).
-/
namespace Sys2Proof.Machine

/-! ### commands to a tile (Table 8-7) -/

/-- P/2 in ns for a FRAME_DIV, rounded to the nearest (R173). -/
def subframeNs (div : Byte) : Nat := (2 * div.toNat * 10625000 + 204) / 408

/-- CMD TIMING. -/
def sendTiming (n : Fin 2) (div : Byte) (frame : U32) (s : State) : State :=
  sendCmd n 7 (leBytes 4 (subframeNs div) ++ bytes32 frame) s

/-- CMD RUN: no band has been latched since (R207); light starts after the next ticket close (R402). -/
def runTile (n : Fin 2) (s : State) : State :=
  clearBands n ((sendCmd n 2 [] s).modLink n fun l => { l with running := true, lit := false, runDue := false })

/-- CMD PARK. -/
def parkTile (n : Fin 2) (s : State) : State :=
  clearBands n ((sendCmd n 1 [] s).modLink n fun l => { l with running := false, lit := false })

/-- CMD RESUME: LIMP is expected until the STATUS after it (R180). -/
def resumeTile (n : Fin 2) (s : State) : State :=
  (sendCmd n 8 [] s).modLink n fun l => { l with resumeAt := some s.clock, limpExpected := true }

/-- CMD SECTOR_POWER where the fences in force and the commanded switches differ (R173, R204). -/
def powerSectors (n : Fin 2) (s : State) : State :=
  let want := ~~~(s.fencedSectors n)
  if (s.link n).isUp && (s.link n).sectorsOn != want then
    (sendCmd n 3 (bytes16 want) s).modLink n fun l => { l with sectorsOn := want }
  else s

/-- The lanes of a link are all in L0. -/
def Link.awake (l : Link) : Bool := l.fwdPs == 0 && l.retPs == 0

/-! ### training (R177 to R181) -/

/-- Result of an attempt (Table 8-12), TILE_CHANGED included. -/
def State.attemptResult (s : State) (n : Fin 2) (o : TrainObs) : Byte :=
  let l := s.link n
  if !o.locked then 1
  else if !o.answered then 2
  else
    let r := descriptorResult o.descriptor
    if r ≠ 0 then r
    else if l.everUp && (u64At o.descriptor 0xC != l.serial || byteAt o.descriptor 6 != l.kind) then 6
    else 0

/-- The first training of a serial number fixes its baseline; the tile's first scan is asked for (R197, R202). -/
def firstService (n : Fin 2) (s : State) : State :=
  let l := s.link n
  let s1 :=
    if (s.tileDiag n).scanned then s
    else
      let tag := l.cmdTag
      (sendScan n l.allSectors s).modDiag n fun d => { d with firstScan := some tag }
  match (s.tileRecord n).bind TileRecord.baseline with
  | some _ =>
    let temp := ((s.tileRecord n).map TileRecord.baseTemp).getD 0x8000
    s1.modDiag n fun d => { d with ageBaseTemp := temp }
  | none => sampleSectors n true s1

/-- CMD RET_POWER, over a link that is UP. -/
def setReturn (n : Fin 2) (idle : Bool) (s : State) : State :=
  if (s.link n).isUp then sendCmd n 0xA [byteOfBool idle] s else s

/-- FWD_PS and RET_PS as SVE_CTRL was last written. -/
def Link.wantFwd (l : Link) : BitVec 2 := BitVec.ofNat 2 (fld l.ctrl 8 2)
def Link.wantRet (l : Link) : BitVec 2 := BitVec.ofNat 2 (fld l.ctrl 4 2)

/-- The lanes of a link that is UP take the states of SVE_CTRL: L1 and L0 by idle and resume, L2 takes the link down (R182). -/
def settleLanes (n : Fin 2) (s : State) : State :=
  let l := s.link n
  let s1 := if l.wantRet ≠ l.retPs && l.wantRet ≠ 2 then setReturn n (l.wantRet == 1) s else s
  s1.modLink n fun l => { l with
    fwdPs := l.wantFwd, retPs := l.wantRet
    state := if l.wantFwd = 2 ∨ l.wantRet = 2 then .down else l.state }

/-- TIMING at link-up: for the period in use, and for a FRAME_DIV that a frame slot has seen and the next ticket carries
(R173). -/
def linkTiming (n : Fin 2) (s : State) : State :=
  let s1 := sendTiming n s.frame.divUsed s.frame.number s
  if s.frame.divSeen = s.frame.divUsed then s1 else sendTiming n s.frame.divSeen s.frame.next s1

/-- An attempt that succeeded: TIMING, RESUME where the tile is in limp and may leave it, PARK, EVENT LINK. The first commit
after it is a trigger again (R200), a listed pixel without a mesh is fenced (R203), and the lanes take the states of
SVE_CTRL. -/
def linkUp (n : Fin 2) (o : TrainObs) (s : State) : State :=
  let s1 := s.modLink n fun l => { l with
    state := .up, trainResult := 0, descriptor := o.descriptor, everUp := true, attempt := 0, waiting := false
    leavesL2 := false, runDue := false
    fwdPs := 0, retPs := 0, lastReturn := s.clock, running := false, lit := false, sectorsOn := 0xFFFF
    tileState := if o.limp then 3 else 0, resumeAt := none, limpExpected := o.limp, overTemp := false
    sync := none, band := none, echo := none }
  let s2 := s1.modCur n fun c => { c with
    tempMax := 0x8000, tempMean := 0x8000, tempRun := 0, tempSeen := false, filter := none }
  let s3 := linkTiming n (s2.modDiag n fun d => { d with committed := false })
  let s4 := if o.limp && s.limpHigh then resumeTile n s3 else s3
  let s5 := fenceListed n (eventLink n (parkTile n s4))
  settleLanes n (if s.gorse then firstService n s5 else s5)

/-- R179: a different tile was found. -/
def tileChanged (n : Fin 2) (s : State) : State :=
  let cls := match s.safety.lamp with
    | .recovery | .test | .parked => 1
    | _ => 3
  report (unitTile n) 0x0D (BitVec.ofNat 8 n.val) cls {} (s.modLink n fun l => { l with denied := true })

/-- An attempt that failed: the next one after 500 µs, or FAILED after the last (R178). -/
def attemptFailed (n : Fin 2) (r : Byte) (s : State) : State :=
  let s1 := s.modLink n fun l =>
    let last := decide (l.trainAttempts.toNat ≤ l.attempt)
    { l with
      trainResult := r, state := if last then .failed else .training, waiting := !last
      fwdPs := if last then 2 else 0, failedAt := s.clock, leavesL2 := l.leavesL2 && !last }
  if r = 6 then tileChanged n s1 else s1

/-- CMD DESC_READ for pages 0 to 15 (Table 8-11). -/
def readDescriptor (n : Fin 2) (s : State) : State :=
  (List.range 16).foldl (fun t k => sendCmd n 6 [BitVec.ofNat 8 k] t) s

/-- One training attempt with what it met. -/
def attempt (n : Fin 2) (o : TrainObs) (s : State) : State :=
  let r := s.attemptResult n o
  let s1 := (if o.locked && o.answered then readDescriptor n s else s).modLink n fun l => { l with
    state := .training, waiting := false, fwdPs := 0, retPs := 0, attempt := l.attempt + 1
    retrainCount := satInc l.retrainCount }
  if r = 0 then linkUp n o s1 else attemptFailed n r s1

/-- TRAINING_ATTEMPT: an attempt of a link that trains or has been lost; none while L1 holds its lanes (R183). -/
def execTrainingAttempt (n : Fin 2) (o : TrainObs) (s : State) : Host.Outcome State Fault Refusal :=
  let l := s.link n
  .next (match l.state with
    | .training => if l.waiting || !l.awake then s else attempt n o s
    | .lost => if l.awake then attempt n o s else s
    | _ => s)

/-- TRAINING_RETRY falls due: 500 µs after a failed attempt the next one starts (R178). -/
def State.retryDue (s : State) (n : Fin 2) : Option Nat :=
  let l := s.link n
  if l.state == .training && l.waiting then some (l.failedAt + cyclesUs 500) else none

def trainingRetry (n : Fin 2) (s : State) : State := s.modLink n fun l => { l with waiting := false }

/-- A series of attempts begins (RETRAIN, lanes that leave L2). -/
def startTraining (n : Fin 2) (s : State) : State :=
  clearBands n (s.modLink n fun l => { l with
    trainResult := if l.state == .training && !l.waiting then 7 else l.trainResult
    state := .training, waiting := false, attempt := 0, fwdPs := 0, retPs := 0, running := false, lit := false, runDue := false
    sync := none, band := none, echo := none })

/-! ### lane states (R182, R183) -/

/-- A lane of a link that is not UP leaves L2 with the full training that R182 asks for, once no lane is to stay in L2
(log entry 118); a link that trains takes the states at its link-up. -/
def leaveDown (n : Fin 2) (s : State) : State :=
  let l := s.link n
  if l.wantFwd ≠ 2 && l.wantRet ≠ 2 && l.state == .down then
    startTraining n (s.modLink n fun l => { l with leavesL2 := true })
  else s

/-- FWD_PS, RET_PS and RETRAIN of SVE_CTRL. -/
def setSveCtrl (n : Fin 2) (fwd ret : BitVec 2) (retrain : Bool) (s : State) : Except Abort State :=
  let l := s.link n
  let idle := fwd != 0 || ret != 0
  if idle && !(s.safety.lamp == .parked && !l.running) then .error .stateConflict
  else if fwd = 3 ∨ ret = 3 then .error .valueRange
  else
    let s1 := s.modLink n fun l => { l with ctrl := BitVec.ofNat 32 (256 * fwd.toNat + 16 * ret.toNat) }
    .ok (if retrain then startTraining n s1 else if l.isUp then settleLanes n s1 else leaveDown n s1)

/-- Lanes return to L0 before light: L1 resumes, L2 trains (R183). -/
def wakeLanes (n : Fin 2) (s : State) : State :=
  let s1 := s.modLink n fun l => { l with ctrl := 0 }
  if (s.link n).isUp then settleLanes n s1 else leaveDown n s1

/-- No replay of the stuck-on list is left to wait for: the list is whole, or the boot ROM runs, which replays none (R194,
R360, R384). -/
def State.listWhole (s : State) (n : Fin 2) : Bool := (s.link n).replayed || s.net.romOnly

/-- No lane is on its way back from L2 by training (R183). -/
def State.lanesHome (s : State) : Bool := (List.finRange 2).all fun n => !((s.link n).state == .training && (s.link n).leavesL2)

/-- RUN may be sent: the link is UP with its lanes in L0, the replay it needs is complete (R402), and every lane has
returned (R183). -/
def State.mayRun (s : State) (n : Fin 2) : Bool :=
  (s.link n).isUp && (s.link n).awake && s.listWhole n && !(s.link n).running && s.lanesHome

/-- The tiles are lit by a lamp command, TEST_SOURCE or a restart: every lane to L0, and then RUN (R183, R402). A tile whose
RUN waits for the other's lanes receives it by TILE_AUTO_RUN. -/
def lightTiles (s : State) : State :=
  forAll (fun (n : Fin 2) t => if t.mayRun n then runTile n t else t)
    (forAll wakeLanes { s with safety := { s.safety with parkDue := false } })

/-- TILE_AUTO_RUN: a link that came UP in a state that lights (R402). -/
def execTileAutoRun (n : Fin 2) (s : State) : Host.Outcome State Fault Refusal :=
  .next (if s.lightsTiles && !s.safety.parkDue && s.limpHigh && s.mayRun n then runTile n s else s)

/-! ### link loss (R186) -/

/-- The link becomes LOST: report, EVENT LINK, and retraining. -/
def loseLink (n : Fin 2) (s : State) : State :=
  let cls := match s.safety.lamp with
    | .test | .parked | .recovery => 1
    | _ => 3
  let s1 := clearBands n (s.modLink n fun l => { l with
    state := .lost, attempt := 0, waiting := false, running := false, lit := false, runDue := false
    sync := none, band := none, echo := none })
  eventLink n (report (unitLink n) 0x0C 0xFF cls {} (s1.modCur n fun c => { c with filter := none }))

/-- SVARN_E_LINK_LOSS falls due: at once when lock has been lost for 10 µs, or at LOSS_TIMEOUT of silence. Lanes that idle by
command lose nothing. -/
def State.lossDue (s : State) (n : Fin 2) (lockLost : Bool) : Option Nat :=
  let l := s.link n
  if !l.isUp || !l.awake then none
  else some (if lockLost then s.clock else l.lastReturn + cyclesUs l.lossTimeout.toNat)

/-! ### return packets (R163, R175, R176) -/

/-- The kinds that a tile sends (Table 8-5). -/
def tileKinds : List Byte := [0x21, 0x22, 0x23, 0x24, 0x25]

/-- Symbol errors of the return lane are counted (R159). -/
def returnErrors (n : Fin 2) (p : Packet) (s : State) : State :=
  s.modLink n fun l => { l with retLaneErr := satAdd l.retLaneErr (packetErrors p).length }

/-- A return packet of a kind: dropped and counted, in training too, or handed on over a link that is UP; each one that passes
its CRC feeds supervision. DESIGN CHOICE (log entry 120): of the header only FLAGS is tested for reserved bits; a non-zero SEQ,
INFO, A or B that the kind does not use is no reserved bit. -/
def tileReceive (n : Fin 2) (kind : Byte) (limit : Nat) (p : Packet) (reserved : Bool) (act : State → State) (s : State) :
    State :=
  if (s.link n).retPs ≠ 0 then s
  else
    let s1 := returnErrors n p s
    if !packetWhole p || !tileKinds.contains p.kind
        || (p.kind == kind && (reserved || decide (limit < p.payload.length) || p.payload.length % 4 != 0)) then
      s1.modLink n fun l => { l with retCrcErr := satInc l.retCrcErr }
    else if p.kind ≠ kind || !(s.link n).isUp then s1
    else act (s1.modLink n fun l => { l with lastReturn := s.clock })

def execEchoReceive (n : Fin 2) (p : Packet) (s : State) : Host.Outcome State Fault Refusal :=
  .next (tileReceive n 0x21 4 p (p.flags != 0) (echoArrives n p) s)

/-- A LIMP that STATUS reports is expected: after RESUME, while LIMPn_N is low, and from a thermal restart to its RESUME, in
which Table 16-6 shows no loss (R180, log entry 120). -/
def State.expectsLimp (s : State) (n : Fin 2) : Bool := !s.limpHigh || (s.link n).limpExpected || s.tsens.resumeDue

/-- RUN to a tile that has answered the RESUME of a thermal restart with PARK, in lamp state FALLBACK (R348). -/
def runAfterPark (n : Fin 2) (s : State) : State :=
  let l := s.link n
  if l.runDue && l.tileState == 1 && s.safety.lamp == .fallback && s.mayRun n && s.limpHigh then runTile n s else s

/-- The state form of STATUS (Table 8-8). -/
def statusState (n : Fin 2) (b : List Byte) (s : State) : State :=
  let ts := byteAt b 0
  let hot := (byteAt b 6).getLsbD 0
  let rising := hot && !(s.link n).overTemp
  let s1 := s.modLink n fun l => { l with
    tileState := BitVec.ofNat 4 ts.toNat, fwdDropped := u32At b 8, overTemp := hot }
  let s2 := if rising then report1 (unitTile n) 0x10 0xFF s1 else s1
  if ts = 3 then
    if s.expectsLimp n then clearBands n s2 else loseLink n s2
  else runAfterPark n s2

/-- STATUS: its state form feeds supervision; descriptor pages matter to a training attempt alone. -/
def execStatusReceive (n : Fin 2) (p : Packet) (s : State) : Host.Outcome State Fault Refusal :=
  .next (tileReceive n 0x25 256 p (p.flags != 0)
    (fun t => if fld p.info 0 8 = 0 ∧ p.payload.length = 32 then statusState n p.payload t else t) s)

/-- TEMP (R214). -/
def execTempReceive (n : Fin 2) (p : Packet) (s : State) : Host.Outcome State Fault Refusal :=
  .next (tileReceive n 0x24 8 p (p.flags != 0)
    (fun t => if p.payload.length = 8 then tempPayload n p.payload t else t) s)

/-- DIAG (R193 to R195). -/
def execDiagReceive (n : Fin 2) (p : Packet) (s : State) : Host.Outcome State Fault Refusal :=
  .next (tileReceive n 0x22 1024 p (fld p.flags 1 7 != 0) (diagPayload n p.info (packetFlag p 0) p.payload) s)

/-- VF (R202). -/
def execVfReceive (n : Fin 2) (p : Packet) (s : State) : Host.Outcome State Fault Refusal :=
  .next (tileReceive n 0x23 256 p (p.flags != 0)
    (fun t => if t.gorse then vfPayload n p.payload t else t) s)

/-! ### status words -/

/-- SVE_STATUS (Table 8-16). -/
def State.sveStatus (s : State) (n : Fin 2) : U32 :=
  let l := s.link n
  BitVec.ofNat 32 (l.trainResult.toNat * 2 ^ 24 + l.tileState.toNat * 2 ^ 20 + l.fwdPs.toNat * 2 ^ 18
    + l.retPs.toNat * 2 ^ 16 + l.state.code * 4096 + natOfBool (l.descriptor != []))

end Sys2Proof.Machine
end

