-- ==== Sys2Proof/Machine/Dma.lean ====
section
/-!
DEFINITION. Machine/Dma.lean: the DMA engine (R313 to R324), and Cairn as its readers see it (R385).
-/
namespace Sys2Proof.Machine

/-! ### Cairn as bytes (Table 18-6) -/

/-- Byte `i` of slot `a / size` of a ring whose entries stand newest first; none where nothing was written. -/
def ringByte (entries : List (List Byte)) (count slots size a : Nat) : Option Byte :=
  let slot := a / size
  ((List.range (min entries.length slots)).find? fun k => (count - 1 - k) % slots == slot).map fun k =>
    byteAt (entries.getD k []) (a % size)

/-- A byte of the fault-map lists: four of 8192 entries of 4 bytes, a list per serial number (R196, R385); none past a list's
last entry. The lists stand in the order in which they were begun (DESIGN CHOICE, log entry 8). -/
def State.listByte (s : State) (a : Nat) : Option Byte :=
  match (s.cairn.tiles.getD (a / 0x8000) { serial := 0, faults := [], baseline := none, baseTemp := 0 }).faults[a % 0x8000 / 4]? with
  | some w => some (byteAt (bytes32 w) (a % 4))
  | none => none

/-- A byte of Cairn: the rings and lists whose layout the spec gives, and a free value elsewhere (log entry 8). -/
def State.cairnByte (s : State) (a : Nat) : Byte :=
  let known : Option Byte :=
    if 0x30000 ≤ a ∧ a < 0x50000 then ringByte s.access.log s.access.logCount.toNat 4096 32 (a - 0x30000)
    else if 0x50000 ≤ a ∧ a < 0x68000 then
      ringByte s.faults.history s.faults.histCount.toNat 2048 48 (a - 0x50000)
    else if 0x68000 ≤ a ∧ a < 0x68800 then ringByte s.tsens.records s.tsens.recCount.toNat 64 32 (a - 0x68000)
    else if 0x70000 ≤ a ∧ a < 0x90000 then s.listByte (a - 0x70000)
    else none
  known.getD (Config.cairnByte s.freeCount a)

def State.cairnRead (s : State) (a len : Nat) : List Byte := (List.range len).map fun i => s.cairnByte (a + i)

/-- A read of Cairn uses up one draw of its free bytes. -/
def drawn (s : State) : State := { s with freeCount := s.freeCount + 1 }

/-! ### descriptors (R315, R316) -/

/-- A descriptor as fetched (Table 15-2). -/
structure Desc where
  src : Nat
  dst : Nat
  length : Nat
  next : U32
  tag : U16
  srcSpace : Nat
  dstSpace : Nat
  flags : Byte
  reserved : Bool
  deriving DecidableEq, Repr

def descOf (b : List Byte) : Desc :=
  { src := le (slice b 0 4), dst := le (slice b 4 4), length := le (slice b 8 4), next := u32At b 0xC
    tag := u16At b 0x10, srcSpace := fld (byteAt b 0x12) 0 4, dstSpace := fld (byteAt b 0x12) 4 4
    flags := byteAt b 0x13, reserved := u16At b 0x16 != 0 || u32At b 0x1C != 0 }

def Desc.last (d : Desc) : Bool := d.flags.getLsbD 0
def Desc.barrier (d : Desc) : Bool := d.flags.getLsbD 1

/-- Bytes of a space (Table 15-1); 0 for a space that is reserved. -/
def State.spaceSize (s : State) (code : Nat) : Nat :=
  match code with
  | 0 => fmSize
  | 1 => s.clocks.flashSize.toNat * 1024
  | 2 => 2 ^ 32
  | 3 => 0x200000
  | 4 => 0x100000
  | _ => 0

/-- The address rule of R315. -/
def descAddressOk (a : Nat) : Bool := a % 32 == 0 && decide (a + 32 ≤ tableStart)

/-- Codes 0x01 to 0x05 of Table 15-3; 0 when the descriptor passes. -/
def State.descCheck (s : State) (d : Desc) : Byte :=
  if !(d.srcSpace == 0 || d.srcSpace == 1 || d.srcSpace == 3) || !(d.dstSpace == 0 || d.dstSpace == 2) then 1
  else if d.src % 4 ≠ 0 ∨ d.dst % 4 ≠ 0 ∨ d.length % 4 ≠ 0 ∨ d.length < 4 ∨ 0x1000000 < d.length then 2
  else if s.spaceSize d.srcSpace < d.src + d.length then 3
  else if s.spaceSize d.dstSpace < d.dst + d.length then 4
  else if fld d.flags 2 6 ≠ 0 ∨ d.reserved then 5
  else 0

/-! ### the transfer (R317, R321, R322) -/

/-- Pieces of a range cut at the multiples of 32 of its addresses, as (offset, length). -/
def cutBeats (a len : Nat) : Nat → List (Nat × Nat)
  | 0 => []
  | fuel + 1 =>
    if len = 0 then []
    else
      let k := min len (32 - a % 32)
      (0, k) :: (cutBeats (a + k) (len - k) fuel).map fun b => (b.1 + k, b.2)

/-- The beats of a descriptor in the order of the copy (log entry 26): cut at the words of a field-memory destination,
else at those of the source; descending when the ranges intersect and DST lies above SRC. -/
def Desc.beats (d : Desc) : List (Nat × Nat) :=
  let a := if d.dstSpace = 0 then d.dst else d.src
  let l := cutBeats a d.length (d.length / 4 + 1)
  if d.srcSpace = 0 ∧ d.dstSpace = 0 ∧ d.src < d.dst ∧ d.dst < d.src + d.length then l.reverse else l

/-- The bytes of the source as they stand before the descriptor begins (R322). -/
def State.sourceBytes (s : State) (d : Desc) : List Byte :=
  match d.srcSpace with
  | 0 => s.fmRead d.src d.length
  | 1 => s.flashRead d.src d.length
  | _ => s.cairnRead d.src d.length

/-- One beat: its error, or the state after it. -/
def moveBeat (d : Desc) (src : List Byte) (off len : Nat) (s : State) : Except (Byte × State) State :=
  let bad := if d.srcSpace = 0 then s.badWords (d.src + off) len else []
  if bad ≠ [] then .error (7, reportBad bad s)
  else if d.dstSpace = 0 then
    let a := d.dst + off
    if inTable a len && !s.tableWriteOk false a len then .error (6, s)
    else .ok (fmStore a (slice src off len) (noteLease a len s))
  else if !s.svh.linkUp || s.svh.txPs == 2 then .error (0xA, s)
  else .ok s

/-- The beats up to `limit` bytes: bytes moved, the error met, and the state. -/
def moveBeats (d : Desc) (src : List Byte) (limit : Nat) :
    List (Nat × Nat) → Nat → State → Nat × Byte × State
  | [], done, s => (done, 0, s)
  | (off, len) :: t, done, s =>
    if limit < done + len then (done, 0, s)
    else
      match moveBeat d src off len s with
      | .error e => (done, e.1, e.2)
      | .ok s1 => moveBeats d src limit t (done + len) s1

/-- READBACK packets of the bytes that reached HLS (R323). -/
def stageReadback (k : Fin 8) (d : Desc) (src : List Byte) (done : Nat) (s : State) : State :=
  let packet (i : Nat) : Readback :=
    ⟨BitVec.ofNat 16 (0xFF00 + k.val), BitVec.ofNat 32 (d.dst + 2048 * i),
      slice (src.take done) (2048 * i) 2048⟩
  { s with svh := { s.svh with readbacks := s.svh.readbacks ++ (List.range ((done + 2047) / 2048)).map packet } }

/-- The transfer of a descriptor, limited to `limit` bytes. -/
def transfer (k : Fin 8) (d : Desc) (limit : Nat) (s : State) : Nat × Byte × State :=
  let src := s.sourceBytes d
  let s0 := if d.srcSpace = 3 then drawn s else s
  let r := moveBeats d src limit d.beats 0 s0
  if d.dstSpace = 2 then (r.1, r.2.1, stageReadback k d src r.1 r.2.2) else r

/-! ### write-back and the chain (R317 to R320) -/

/-- Writes of channel `k` to HLS whose packets have not left (R321). -/
def State.unsent (s : State) (k : Fin 8) : Bool :=
  s.svh.readbacks.any fun r => r.info.toNat == 0xFF00 + k.val

/-- After the finish the channel is IDLE; a GO that landed while the finish waited has the next chain start (R319). -/
def Channel.afterChain (c : Channel) : Channel :=
  match c.pendingHead with
  | none => { c with run := false }
  | some h => { c with cur := h, pendingHead := none, chainErr := false }

/-- The chain finishes once the packets of its writes have left (R320). -/
def finishChain (k : Fin 8) (s : State) : State :=
  if s.unsent k then s.modChannel k fun c => { c with finishing := true }
  else
    let s1 := s.modChannel k fun c => { c.afterChain with
      barrierWait := false, finishing := false, chainCount := satInc c.chainCount }
    gateEvent 2 (BitVec.ofNat 4 k.val) (s.channel k).chainErr s1

/-- The end of a chain samples PENDING (R319). -/
def endChain (k : Fin 8) (s : State) : State :=
  match (s.channel k).pendingHead with
  | some h => s.modChannel k fun c => { c with cur := h, pendingHead := none, barrierWait := false, finishing := false }
  | none => finishChain k s

/-- A bad descriptor or a fetch error (R317). -/
def badDescriptor (k : Fin 8) (err : Byte) (s : State) : State :=
  let s1 := s.modChannel k fun c => { c with lastErr := err, chainErr := true, badCount := satInc c.badCount }
  report1 0x58 0x20 (BitVec.ofNat 8 k.val)
    { s1 with mgmt := { s1.mgmt with badTotal := satInc s1.mgmt.badTotal } }

/-- The write-back of the current descriptor. -/
def writeBack (k : Fin 8) (done : Nat) (err : Byte) (s : State) : State :=
  let a := (s.channel k).cur.toNat
  let b := s.fmRead a 32
  let word := b.take 0x14 ++ [if err = 0 then 1 else 2, err] ++ slice b 0x16 2 ++ leBytes 4 done ++ slice b 0x1C 4
  let s1 := fmStore a word (noteLease a 32 s)
  let s2 := s1.modChannel k fun c => { c with
    lastTag := (descOf b).tag, barrierWait := false
    doneCount := if err = 0 then satInc c.doneCount else c.doneCount }
  if err = 0 then s2 else badDescriptor k err s2

/-- After a write-back the chain continues at NEXT or ends. -/
def nextDescriptor (k : Fin 8) (d : Desc) (s : State) : State :=
  if d.last then endChain k s else s.modChannel k fun c => { c with cur := d.next, barrierWait := false }

/-- The descriptor has been moved: with BARRIER, and at the end of the chain, its write-back waits until the packets of
its writes have left (R320, R321). -/
def settleDescriptor (k : Fin 8) (d : Desc) (done : Nat) (err : Byte) (s : State) : State :=
  if (d.barrier || d.last) && s.unsent k then
    s.modChannel k fun c => { c with barrierWait := true, moved := done, moveErr := err }
  else nextDescriptor k d (writeBack k done err s)

/-- Error of the fetch at CH_CUR; 0 when it succeeds. -/
def State.fetchError (s : State) (k : Fin 8) : Byte :=
  let a := (s.channel k).cur.toNat
  if !descAddressOk a then 0x10 else if s.badIn a 32 then 0x11 else 0

/-- The fetch fails: the chain ends without a write-back. -/
def fetchFails (k : Fin 8) (err : Byte) (s : State) : State :=
  let bad := if err = 0x11 then s.badWords (s.channel k).cur.toNat 32 else []
  endChain k (badDescriptor k err (reportBad bad s))

/-- Error code of a failing source read: xSPI or Cairn. -/
def Desc.sourceError (d : Desc) : Byte := if d.srcSpace = 1 then 8 else 9

/-- DESCRIPTOR_WRITE_BACK: the current descriptor of a RUN channel is fetched, checked, moved and written back. `source`
is the outcome of its xSPI or Cairn reads, and `failAt` the bytes moved before a read failed. -/
def descriptorStep (k : Fin 8) (source : FlashRead) (failAt : Nat) (s : State) : State :=
  let c := s.channel k
  if !c.run then s
  else
    let d := descOf (s.fmRead c.cur.toNat 32)
    if c.barrierWait || c.finishing then
      if s.unsent k then s
      else
        let s1 := if c.barrierWait then writeBack k c.moved c.moveErr s else s
        if c.finishing then finishChain k s1 else nextDescriptor k d s1
    else if s.fetchError k ≠ 0 then fetchFails k (s.fetchError k) s
    else if s.descCheck d ≠ 0 then settleDescriptor k d 0 (s.descCheck d) s
    else
      let broken := source = .error && d.srcSpace != 0
      let r := transfer k d (if broken then min failAt (d.length - 1) else d.length) s
      let err := if r.2.1 ≠ 0 then r.2.1 else if broken then d.sourceError else 0
      let s1 := r.2.2
      let s2 : State := if err = 8 then
        { s1 with clocks := { s1.clocks with flashErr := satInc s1.clocks.flashErr } } else s1
      settleDescriptor k d r.1 err s2

def execDescriptorWriteBack (channel : Fin 8) (source : FlashRead) (failAt : Nat) (s : State) :
    Host.Outcome State Fault Refusal := .next (descriptorStep channel source failAt s)

/-! ### CH_CTRL (R318, R319, R355) -/

/-- ACTION GO. -/
def goChannel (k : Fin 8) (s : State) : Except Abort State :=
  let c := s.channel k
  if s.blockStopped 3 || (c.run && c.pendingHead.isSome) then .error .stateConflict
  else if !descAddressOk c.head.toNat then .error .valueRange
  else .ok (s.modChannel k fun c =>
    if c.run then { c with pendingHead := some c.head }
    else { c with run := true, cur := c.head, chainErr := false, barrierWait := false, finishing := false })

/-- The last descriptor of a stopped chain: its write-back waits, as with BARRIER, until the packets of the chain's writes have
left (R320). -/
def stopAt (k : Fin 8) (moved : Nat) (err : Byte) (s : State) : State :=
  if s.unsent k then
    s.modChannel k fun c => { c with barrierWait := true, finishing := true, moved := moved, moveErr := err }
  else finishChain k (writeBack k moved err s)

/-- ACTION STOP, which finds `moved` bytes of the current descriptor written. -/
def stopChannel (k : Fin 8) (moved : Nat) (s : State) : State :=
  let c := s.channel k
  if !c.run then s
  else
    let d := descOf (s.fmRead c.cur.toNat 32)
    let s0 := s.modChannel k fun c => { c with pendingHead := none }
    if c.barrierWait then stopAt k c.moved 0xB s0
    else if c.finishing then s0
    else if s.fetchError k ≠ 0 then fetchFails k (s.fetchError k) s0
    else if s.descCheck d ≠ 0 then stopAt k 0 0xB s0
    else
      let r := transfer k d moved s0
      stopAt k r.1 (if r.2.1 ≠ 0 then r.2.1 else 0xB) r.2.2

/-! ### status words -/

/-- CH_STATUS (Table 15-7). -/
def Channel.status (c : Channel) : U32 :=
  BitVec.ofNat 32 (c.lastErr.toNat * 2 ^ 24 + c.lastTag.toNat * 256 + natOfBool c.chainErr * 8
    + natOfBool c.barrierWait * 4 + natOfBool c.pendingHead.isSome * 2 + natOfBool c.run)

/-- DMA_STATUS (0x7000.01). -/
def State.dmaStatus (s : State) : U32 :=
  let m (f : Channel → Bool) : Nat := (maskOf fun k => f (s.channel k)).toNat
  BitVec.ofNat 32 (m Channel.chainErr * 2 ^ 16 + m (fun c => c.pendingHead.isSome) * 256 + m Channel.run)

end Sys2Proof.Machine
end

