-- ==== Sys2Proof/Machine/Check.lean ====
section
/-!
DEFINITION. Machine/Check.lean: the check units (R325 to R334), the verifications that channel 0 runs (R121, R330), and
the alive supervision of channel 2 (R246, R331).
-/
namespace Sys2Proof.Machine

/-! ### configuration (CHK_CFG, CHK_PARAM) -/

def Chk.sel (c : Chk) : Nat := fld c.cfg 0 4
def Chk.mode (c : Chk) : Nat := fld c.cfg 4 2
def Chk.fold (c : Chk) : Nat := fld c.cfg 6 2
def Chk.space (c : Chk) : Nat := fld c.cfg 8 3

/-- The CRC of SEL (Table 15-6, R333). -/
def Chk.spec (c : Chk) : CrcSpec :=
  match c.sel with
  | 0 => crc8
  | 1 => crc16
  | 2 => crc32
  | 4 => crc64
  | 15 => ⟨fld c.param 0 7, c.poly, c.init, c.param.getLsbD 8, c.param.getLsbD 9, c.xorout⟩
  | _ => crc32c

/-- A CHK_CFG value whose codes the channel allows (R333). -/
def chkCfgOk (k : Fin 8) (w : U32) : Bool :=
  let sel := fld w 0 4
  let fold := fld w 6 2
  (decide (sel ≤ 4) || (sel == 15 && decide (3 ≤ k.val))) && decide (fld w 4 2 ≤ 1)
  && (fold == 0 || (decide (fold ≤ 2) && decide (k.val ≤ 1))) && decide (fld w 8 3 ≤ 4)

/-- Bits of CHK_CFG that are not reserved. -/
def chkCfgMask : U32 := 0xFFF

/-- Lamp states in which CUSTOM may be set (R333). -/
def State.customAllowed (s : State) : Bool :=
  s.safety.lamp == .start || s.safety.lamp == .test || s.safety.lamp == .recovery

/-! ### jobs (R328 to R332) -/

/-- A job starts: the configuration and the folded number are sampled (R328, R330). -/
def Chk.start (c : Chk) (frame : U32) (feed : Bool) : Chk :=
  { c with
    busy := true, feedOpen := feed, done := false, err := 0, isMatch := false, mismatch := false
    jobCfg := c.cfg, jobAddr := c.addr, jobLen := c.len, jobSpec := c.spec, reg := crcInit c.spec
    jobFold := if c.fold = 1 then frame else if c.fold = 2 then c.addr else 0 }

/-- The job ends with a crc (R328, R330, R332). -/
def Chk.finish (c : Chk) (crc : U64) : Chk :=
  let r := foldResult c.jobSpec (fld c.jobCfg 6 2) c.jobFold crc
  let compare := fld c.jobCfg 4 2 == 1
  let eq := r == c.expect
  { c with
    busy := false, feedOpen := false, done := true, result := r, foldN := c.jobFold
    isMatch := compare && eq, mismatch := compare && !eq
    mismatchCount := if compare && !eq then satInc c.mismatchCount else c.mismatchCount }

/-- The job ends with an error: CHK_RESULT unchanged (R329, R332). -/
def Chk.fail (c : Chk) (err : Byte) : Chk :=
  { c with
    busy := false, feedOpen := false, done := true, err := err, isMatch := false
    mismatch := fld c.jobCfg 4 2 == 1 }

/-- The end of a job of channel `k`, with the report of CMP_IE (R332). -/
def endJob (k : Fin 8) (f : Chk → Chk) (s : State) : State :=
  let s1 := s.modChk k f
  if (s1.chk k).mismatch && (s.chk k).jobCfg.getLsbD 11 then report1 0x59 0x23 0xFF s1 else s1

/-- Spaces a host channel may read, and the range rule (R329). -/
def State.chkRangeOk (s : State) (c : Chk) : Bool :=
  (c.space == 0 || c.space == 1 || c.space == 3) && c.len != 0
  && decide (c.addr.toNat + c.len.toNat ≤ s.spaceSize c.space)

/-- ACTION START_MEM. -/
def startMem (k : Fin 8) (s : State) : Except Abort State :=
  let c := s.chk k
  if c.busy || s.blockStopped 4 then .error .stateConflict
  else if !s.chkRangeOk c then .error .valueRange
  else .ok (s.modChk k fun c => c.start s.frame.number false)

/-- ACTION FEED_OPEN. -/
def feedOpen (k : Fin 8) (s : State) : Except Abort State :=
  let c := s.chk k
  if c.busy || s.blockStopped 4 then .error .stateConflict
  else if c.fold = 2 then .error .valueRange
  else .ok (s.modChk k fun c => c.start s.frame.number true)

/-- A CHK_FEED write of at most 4096 bytes. -/
def chkFeed (k : Fin 8) (bytes : List Byte) (s : State) : Except Abort State :=
  if k.val < 3 || !(s.chk k).feedOpen then .error .stateConflict
  else if bytes = [] then .error .valueRange
  else .ok (s.modChk k fun c => { c with reg := crcFeed c.jobSpec c.reg bytes })

/-- ACTION FEED_CLOSE. -/
def feedClose (k : Fin 8) (s : State) : Except Abort State :=
  let c := s.chk k
  if !c.feedOpen then .error .stateConflict
  else .ok (endJob k (fun c => c.finish (crcFinish c.jobSpec c.reg)) s)

/-- ACTION ABORT. -/
def checkAbort (k : Fin 8) (s : State) : State :=
  if (s.chk k).busy then endJob k (fun c => c.fail 5) s else s

/-- ALIVE of a CHK_CTRL write (R331). -/
def Chk.takeAlive (c : Chk) (v : Byte) : Chk :=
  let ok := !c.aliveSeen || v == c.alive + 1
  { c with alive := v, aliveSeen := true, aliveOk := ok
           aliveErrCount := if ok then c.aliveErrCount else satInc c.aliveErrCount }

/-- CHK_CTRL from a carrier (R325, R329, R331): channels 0 to 2 refuse it. The action is judged first, and ALIVE is
taken with an action that is accepted. -/
def chkCtrl (k : Fin 8) (w : U32) (s : State) : Except Abort State :=
  if k.val < 3 then .error .stateConflict
  else
    let r : Except Abort State := match fld w 0 4 with
      | 0 => .ok s
      | 1 => startMem k s
      | 2 => feedOpen k s
      | 3 => feedClose k s
      | 4 => .ok (checkAbort k s)
      | _ => .error .valueRange
    match r with
    | .error e => .error e
    | .ok s1 => .ok (s1.modChk k fun c => c.takeAlive (BitVec.ofNat 8 (fld w 8 8)))

/-- CHECK_JOB_END: the memory job of a channel ends. `source` is the outcome of its xSPI, Cairn or store reads; a parity error of
the store raises R234 (R329). -/
def checkJobEnd (k : Fin 8) (source : FlashRead) (s : State) : State :=
  let c := s.chk k
  if !c.busy || c.feedOpen then s
  else
    let a := c.jobAddr.toNat
    let len := c.jobLen.toNat
    match fld c.jobCfg 8 3 with
    | 0 =>
      if s.badIn a len then endJob k (fun c => c.fail 1) (reportBad (s.badWords a len) s)
      else endJob k (fun c => c.finish (crcOf c.jobSpec (s.fmRead a len))) s
    | 1 =>
      if source = .error then
        endJob k (fun c => c.fail 2) { s with clocks := { s.clocks with flashErr := satInc s.clocks.flashErr } }
      else endJob k (fun c => c.finish (crcOf c.jobSpec (s.flashRead a len))) s
    | 3 =>
      if source = .error then endJob k (fun c => c.fail 3) s
      else endJob k (fun c => c.finish (crcOf c.jobSpec (s.cairnRead a len))) (drawn s)
    | _ =>
      if source = .error then endJob k (fun c => c.fail 4) (storeParity [0] s)
      else endJob k (fun c => c.finish (crcOf c.jobSpec (slice s.hedge.image a len))) s

def execCheckJobEnd (channel : Fin 8) (source : FlashRead) (s : State) : Host.Outcome State Fault Refusal :=
  .next (checkJobEnd channel source s)

/-! ### verifications (R121, R325, R330) -/

/-- The last table that the verification of a pair reads: its address and length. -/
def State.lastVerified (s : State) (p : Fin 8) (v : Verdict) : Nat × Nat :=
  let base := (bankWindow p (s.bank p).inactive).1
  match p.val with
  | 0 | 1 => (base, s.calLength (pairTile p))
  | 4 =>
    if (s.bank p).byPack then
      let luts := (s.pack.directory.zipIdx.filter fun e => e.1.kind == 2).map fun e => (e.1, e.2)
      let upTo := luts.filter fun e => v.result == 0 || decide (e.2 ≤ v.entry.toNat)
      ((upTo.getLast?.map fun e => base + 2112 * e.1.target.toNat).getD base, 2112)
    else (base + 2112 * 31, 2112)
  | _ => (base, (s.governing p).length.toNat)

/-- VERIFICATION_END: the verification at the head of channel 0's jobs ends (R121, R123, R125). One that ends in a supply dip
is run again at recovery, and a calibration bank is judged by that run (R366, log entry 116). -/
def verificationEnd (p : Fin 8) (s : State) : State :=
  if s.mgmt.jobs.head? ≠ some (.bank p) then s
  else
    let v := s.verify p
    let last := s.lastVerified p v
    let bad := s.badIn last.1 last.2
    let a : U32 := BitVec.ofNat 32 last.1
    let s1 := deviceJob 0 0x83 a (BitVec.ofNat 32 last.2) a crc32c (if bad then 1 else 0)
      (crcOf crc32c (s.fmRead last.1 last.2)) (reportBad (s.verifyBad p) s)
    let s3 := settleVerification p v (endHead s1)
    if s.power.supplies.toList.any Supply.warn then s3.modBank p fun b => { b with reverify := true }
    else if isPackPair p then s3
    else if v.result = 0 then healBuild (BitVec.ofNat 8 (pairTile p).val) s3
    else calBuildFailed (pairTile p) s3

/-! ### alive supervision (R246) -/

/-- Gorse's write of CHK_CTRL on channel 2. -/
def gorseAlive (v : Byte) (s : State) : State :=
  let s1 := s.modChk 2 fun c => c.takeAlive v
  if s.safety.aliveOpen then
    { s1 with safety := { s1.safety with
        aliveWrites := s1.safety.aliveWrites + 1
        aliveGood := s1.safety.aliveGood && (s1.chk 2).aliveOk } }
  else s1

/-- The L marker opens the interval in which the write must come. -/
def aliveStart (s : State) : State :=
  { s with safety := { s.safety with aliveOpen := true, aliveWrites := 0, aliveGood := true } }

/-- Frame slot 67: the frame is missed or not, and three missed frames in a row are class 3. -/
def aliveEnd (s : State) : State :=
  if !s.safety.aliveOpen then s
  else
    let missed := !(s.safety.aliveWrites == 1 && s.safety.aliveGood)
    let run := if missed then s.safety.aliveRun + 1 else 0
    let s1 : State := { s with safety := { s.safety with
      aliveOpen := false, aliveRun := run
      aliveMiss := if missed then satInc s.safety.aliveMiss else s.safety.aliveMiss } }
    if 3 ≤ run then report 0x01 0x0B 0xFF 3 {} s1 else s1

/-! ### status words -/

/-- A job runs on the channel; those of channel 0 are the verifications. -/
def State.chkBusy (s : State) (k : Fin 8) : Bool := (s.chk k).busy || (k == 0 && !s.mgmt.jobs.isEmpty)

/-- CHK_STATUS (Table 15-8). -/
def State.chkStatus (s : State) (k : Fin 8) : U32 :=
  let c := s.chk k
  BitVec.ofNat 32 (c.err.toNat * 2 ^ 24 + c.alive.toNat * 2 ^ 16 + natOfBool c.aliveOk * 128
    + natOfBool c.mismatch * 64 + natOfBool c.isMatch * 32 + natOfBool c.done * 16
    + natOfBool c.feedOpen * 2 + natOfBool (s.chkBusy k))

/-- CHK_SUMMARY (0x7400.01). -/
def State.chkSummary (s : State) : U32 :=
  BitVec.ofNat 32 ((maskOf fun k => (s.chk k).mismatch).toNat * 256 + (maskOf fun k => s.chkBusy k).toNat)

end Sys2Proof.Machine
end

