-- ==== Sys2Proof/Machine/Lamp.lean ====
section
/-!
DEFINITION. Machine/Lamp.lean: the lamp commands (R241, R242), TEST_SOURCE (R243), and the loop and PRBS sessions
(R184, R185), as effects of a host write.
-/
namespace Sys2Proof.Machine

/-! ### LAMP_CMD (Table 11-3) -/

/-- 0x00 lamp OFF. -/
def lampOff (s : State) : Except Abort State :=
  if s.safety.lamp = .parked then .ok (setLamp .off s) else .error .stateConflict

/-- 0x02 SERVICE: the host's demand is withdrawn; from PARKED the tiles are lit. -/
def lampService (s : State) : Except Abort State :=
  match s.safety.lamp with
  | .fallback => .ok (clearDemand 1 s)
  | .parked =>
    let s1 := clearDemand 1 s
    .ok (lightTiles (setLamp (if s1.safety.demand = 0 then .service else .fallback) s1))
  | _ => .error .stateConflict

/-- 0x03 FALLBACK: the host's demand is set. -/
def lampFallback (s : State) : Except Abort State :=
  match s.safety.lamp with
  | .service => .ok (setDemand 1 s)
  | .parked => .ok (lightTiles (setLamp .fallback (setDemand 1 s)))
  | _ => .error .stateConflict

/-- 0x05 PARKED: codes 0, PARK to both tiles, the host's demand cleared. -/
def lampParked (s : State) : Except Abort State :=
  match s.safety.lamp with
  | .service | .fallback | .test | .recovery | .off => .ok (darken (setLamp .parked (clearDemand 1 s)))
  | _ => .error .stateConflict

/-- 0x06 TEST, for the holder of the unlock. -/
def lampTest (holder : Bool) (s : State) : Except Abort State :=
  if !holder then .error .accessDenied
  else if s.safety.lamp = .parked then .ok (setLamp .test s)
  else .error .stateConflict

/-- 0x07 RECOVERY, for the holder of the unlock. -/
def lampRecovery (holder : Bool) (s : State) : Except Abort State :=
  if !holder then .error .accessDenied
  else if s.safety.lamp = .parked then
    let s1 := setLamp .recovery s
    .ok (if s1.hedge.verified then lightTiles s1 else s1)
  else .error .stateConflict

/-- A write of LAMP_CMD. -/
def lampCmd (code : Byte) (holder : Bool) (s : State) : Except Abort State :=
  match code.toNat with
  | 0 => lampOff s
  | 2 => lampService s
  | 3 => lampFallback s
  | 5 => lampParked s
  | 6 => lampTest holder s
  | 7 => lampRecovery holder s
  | _ => .error .valueRange

/-! ### TEST_SOURCE (R243) -/

/-- The Hedgerow store has failed its checks. -/
def State.storeFailed (s : State) : Bool := !(s.hedge.verified && s.hedge.checkOk)

/-- A write of TEST_SOURCE. -/
def setTestSource (v : Byte) (s : State) : Except Abort State :=
  let old := s.safety.testSource
  let conflict := s.safety.lamp != .test || ((v == 1 || v == 2) && s.safety.testRunning)
    || (v == 2 && s.storeFailed)
  let s1 : State := { s with safety := { s.safety with testSource := v } }
  if conflict then .error .stateConflict
  else if 2 < v.toNat then .error .valueRange
  else if v = 0 then .ok (darken s1)
  else if old = 0 then .ok (lightTiles s1)
  else if v = 2 ∧ old = 1 then .ok (selectHedgerow s1)
  else .ok s1

/-! ### TEST_CTRL (R184, Table 8-17) -/

/-- Bits of TEST_CTRL that are not reserved. -/
def testCtrlMask : U32 := 0xFF0000FF

/-- The Svarn-E link that a TEST_CTRL word names; none for Svarn-H. -/
def testLink (w : U32) : Option (Fin 2) :=
  match fld w 28 4 with
  | 1 => some 0
  | 2 => some 1
  | _ => none

/-- Field values that TEST_CTRL allows. -/
def testCtrlOk (w : U32) : Bool :=
  let lanes := fld w 24 4
  let loop := fld w 4 4
  decide (fld w 28 4 ≤ 2) && decide (loop ≤ 3) && decide (fld w 0 4 ≤ 2)
  && ((testLink w).isNone || !(loop == 1 || loop == 2) || lanes % 4 == 1 || lanes % 4 == 2)

/-- CMD TEST with the session's loop, pattern and forward lanes; the tile takes part in a far-end loop only. -/
def sendTest (n : Fin 2) (w : U32) (s : State) : State :=
  let loop : Byte := if fld w 4 4 = 3 then 3 else 0
  sendCmd n 9 [loop, BitVec.ofNat 8 (fld w 0 4), BitVec.ofNat 8 (fld w 24 2)] s

/-- The tile of the session is in PARK, as its last STATUS says. -/
def State.tileParked (s : State) (n : Fin 2) : Bool := (s.link n).isUp && (s.link n).tileState == 1

/-- A write of TEST_CTRL: LOOP and PRBS both 0 end the session. -/
def setTestCtrl (w0 : U32) (s : State) : Except Abort State :=
  let w := w0 &&& testCtrlMask
  let starts := fld w 0 8 != 0
  if s.safety.lamp ≠ .test ∨ s.safety.testSource ≠ 0 then .error .stateConflict
  else if starts && !(testLink w).all (fun n => s.tileParked n) then .error .stateConflict
  else if !testCtrlOk w then .error .valueRange
  else
    let target := if starts then testLink w else if s.safety.testRunning then testLink s.safety.testCtrl else none
    let s1 := match target with
      | some n => sendTest n w s
      | none => s
    .ok { s1 with safety := { s1.safety with
      testCtrl := w, testRunning := starts
      prbsErr := if starts then 0 else s.safety.prbsErr, prbsLock := if starts then 0 else s.safety.prbsLock
      checkers := if starts then .replicate 8 {} else s.safety.checkers } }

/-- Lanes whose checkers a session runs: the lanes of a Svarn-H session, the return lane of a Svarn-E link. -/
def State.checkerLane (s : State) (lane : Fin 8) : Bool :=
  let w := s.safety.testCtrl
  s.safety.testRunning && fld w 0 4 != 0
  && (if (testLink w).isSome then lane == 0 else decide (lane.val < 4) && (fld w 24 4).testBit lane.val)

/-- The next bit of PRBS7, x^7 + x^6 + 1, or of PRBS31, x^31 + x^28 + 1; bit 0 of the register is the latest bit (R185). -/
def prbsNext (mode : Nat) (reg : BitVec 31) : Bool :=
  if mode = 1 then xor (reg.getLsbD 6) (reg.getLsbD 5) else xor (reg.getLsbD 30) (reg.getLsbD 27)

def prbsShift (reg : BitVec 31) (b : Bool) : BitVec 31 := (reg <<< 1) ||| BitVec.ofNat 31 (natOfBool b)

/-- The generator: `k` line bits from a register. -/
def prbsBits (mode : Nat) : BitVec 31 → Nat → List Bool
  | _, 0 => []
  | reg, k + 1 => prbsNext mode reg :: prbsBits mode (prbsShift reg (prbsNext mode reg)) k

/-- One received bit. Until its lock the checker takes the received bits into its register and counts those that the pattern
foretells in a row, 64 of which lock it; from the lock on its register runs by itself and every other bit is an error. -/
def prbsCheck (mode : Nat) (c : PrbsChecker) (b : Bool) : PrbsChecker :=
  let next := prbsNext mode c.reg
  if c.locked then
    { c with reg := prbsShift c.reg next, errors := c.errors + natOfBool (b != next) }
  else
    let run := if b = next then c.run + 1 else 0
    { c with reg := prbsShift c.reg b, run := run, locked := decide (64 ≤ run) }

/-- PRBS_CHECKER_LOCK: the bits that a lane receives (R185). A checker locks after 64 error-free bits, and the bits after them
count in PRBS_ERR where they differ. -/
def execPrbsCheckerLock (received : LaneBits) (s : State) : Host.Outcome State Fault Refusal :=
  let lane := received.lane
  .next (if s.checkerLane lane then
      let c := received.bits.foldl (prbsCheck (fld s.safety.testCtrl 0 4)) { s.safety.checkers[lane] with errors := 0 }
      { s with safety := { s.safety with
        checkers := vput s.safety.checkers lane c, prbsErr := satAdd s.safety.prbsErr c.errors
        prbsLock := if c.locked then s.safety.prbsLock ||| BitVec.ofNat 8 (2 ^ lane.val) else s.safety.prbsLock } }
    else s)

end Sys2Proof.Machine
end

