-- ==== Sys2Proof/Machine/Twin.lean ====
section
/-!
DEFINITION. Machine/Twin.lean: the twin-telegram comparator, unit 0x48 (R248 to R254).
-/
namespace Sys2Proof.Machine

/-- COMMAND GLARE_SAFE of a copy (Table 11-6). -/
def glareSafe (b : List Byte) : Bool := byteAt b 1 == 1
def twinSeq (b : List Byte) : U16 := u16At b 2

/-- LAST_SEQ of a carrier. -/
def State.twinLast (s : State) : Carrier → Option U16
  | .can => s.twin.lastSeqCan
  | .t1s => s.twin.lastSeqT1s
  | .svh => none

/-- The copy passes R249 on its carrier. -/
def State.twinOk (s : State) (c : Carrier) (b : List Byte) : Bool :=
  let target := u16At b 4
  c != .svh && decide (b.length = 16) && crc32Of (b.take 12) == u32At b 12 && byteAt b 0 == 1
  && decide ((byteAt b 1).toNat ≤ 1) && fld target 10 6 == 0 && allZero (slice b 6 6)
  && (target == 0 || target == s.net.nodeActive)
  && (s.twinLast c).all fun l => let d := (twinSeq b - l).toNat; decide (1 ≤ d) && decide (d ≤ 32767)

/-- A copy is accepted on its carrier. -/
def acceptTwin (c : Carrier) (b : List Byte) (s : State) : State :=
  match c with
  | .can => { s with twin := { s.twin with lastSeqCan := some (twinSeq b), canAt := some s.clock } }
  | .t1s => { s with twin := { s.twin with lastSeqT1s := some (twinSeq b), t1sAt := some s.clock } }
  | .svh => s

def dropTwin (s : State) : State := { s with twin := { s.twin with dropped := satInc s.twin.dropped } }

/-- Acting on GLARE_SAFE: the class 0 record and FALLBACK_DEMAND [2] (R251, R252, R254). -/
def actGlareSafe (s : State) : State := setDemand 2 (report 0x48 0x16 0xFF 0 {} s)

/-- A confirmed telegram. -/
def confirmTwin (glare : Bool) (seq : U16) (s : State) : State :=
  let s1 : State := { s with twin := { s.twin with
    confirmed := satInc s.twin.confirmed, decided := seq, supervisedFrom := some s.clock, timedOut := false } }
  if glare then actGlareSafe s1 else clearDemand 2 s1

/-- One copy alone at the end of its window. -/
def unconfirmTwin (w : TwinWindow) (s : State) : State :=
  let s1 := report1 0x48 0x16 0xFF { s with twin := { s.twin with
    unconfirmed := satInc s.twin.unconfirmed, decided := w.seq, open_ := none } }
  if glareSafe w.bytes then actGlareSafe s1 else s1

/-- Two copies of one SEQ. -/
def compareTwin (w : TwinWindow) (b : List Byte) (s : State) : State :=
  let s0 : State := { s with twin := { s.twin with open_ := none } }
  if w.bytes.take 12 = b.take 12 then confirmTwin (glareSafe b) w.seq s0
  else
    let s1 := report1 0x48 0x16 0xFF { s0 with twin := { s0.twin with
      mismatch := satInc s0.twin.mismatch, decided := w.seq } }
    if glareSafe w.bytes || glareSafe b then actGlareSafe s1 else s1

/-- A copy whose SEQ has been decided. -/
def lateTwin (b : List Byte) (s : State) : State :=
  if glareSafe b then
    actGlareSafe (report1 0x48 0x16 0xFF { s with twin := { s.twin with
      unconfirmed := satInc s.twin.unconfirmed } })
  else dropTwin s

def openTwin (c : Carrier) (b : List Byte) (s : State) : State :=
  { s with twin := { s.twin with
      open_ := some ⟨twinSeq b, b, c, s.clock⟩, recent := some (twinSeq b) } }

/-- The SEQ lies before that of the most recent window, or equals it when that window is closed (R251). -/
def State.twinDecided (s : State) (seq : U16) : Bool :=
  s.twin.recent.any fun r =>
    let d := (r - seq).toNat
    (decide (1 ≤ d) && decide (d ≤ 32767)) || (d == 0 && s.twin.open_.isNone)

/-- The comparison of TWIN_MODE 0x00 (R251). -/
def windowTwin (c : Carrier) (b : List Byte) (s : State) : State :=
  if s.twinDecided (twinSeq b) then lateTwin b s
  else
    match s.twin.open_ with
    | none => openTwin c b s
    | some w =>
      if w.seq = twinSeq b then (if w.carrier = c then s else compareTwin w b s)
      else openTwin c b (unconfirmTwin w s)

/-- One copy. -/
def twinCopy (c : Carrier) (b : List Byte) (s : State) : State :=
  if !s.twinOk c b then dropTwin s
  else
    let s1 := acceptTwin c b s
    match s.twin.modeUsed.toNat, c with
    | 0, _ => windowTwin c b s1
    | 1, .can => confirmTwin (glareSafe b) (twinSeq b) s1
    | 2, .t1s => confirmTwin (glareSafe b) (twinSeq b) s1
    | _, _ => s1

/-- The comparator runs: the block is out of reset in RUN or IDLE. -/
def State.twinRuns (s : State) : Bool :=
  !s.aon.held && s.net.served && (s.safety.power == .run || s.safety.power == .idle)

/-- A frame received without error, whatever its identifier (CAN_RX_OK, T1S_RX_OK). -/
def countRx (c : Carrier) (s : State) : State :=
  if c = .svh then s else s.modPort c fun p => { p with rxOk := satInc p.rxOk }

/-- A frame that the device acts on: its own node, or broadcast (R283). -/
def State.addressed (s : State) (dest : BitVec 10) : Bool := dest == 0 || dest == s.net.nodeActive.setWidth 10

/-- A frame dropped and counted in OA_DROPPED. -/
def dropFrame (c : Carrier) (s : State) : State := s.modPort c fun p => { p with dropped := satInc p.dropped }

def broadcastMac : BitVec 48 := 0xFFFFFFFFFFFF

/-- The device's MAC address, or the broadcast address: the destinations that T1S accepts (R286). -/
def State.ownMac (s : State) (m : Option (BitVec 48)) : Bool :=
  m.all fun a => a == s.cairn.mac.setWidth 48 || a == broadcastMac

/-- The head of a T1S frame breaks R286. -/
def twinHeadBad (x : TwinCopy) : Bool := x.head.version != 1 || x.reservedSet || x.head.overlong

/-- A copy whose frame the carrier has received: one for another node is ignored (R283), and a head that breaks R286 has its
frame dropped. -/
def takeTwin (c : Carrier) (copy : TwinCopy) (s : State) : State :=
  if !s.addressed copy.dest then s
  else if c == .t1s && twinHeadBad copy then dropFrame c s
  else twinCopy c copy.bytes s

/-- TWIN_TELEGRAM: a copy arrives on a carrier (R248, R249); T1S accepts it by its destination (R286). -/
def execTwinTelegram (c : Carrier) (copy : TwinCopy) (s : State) : Host.Outcome State Fault Refusal :=
  .next (if !s.twinRuns || (c == .t1s && !s.ownMac copy.head.toMac) then s else takeTwin c copy (countRx c s))

/-- TWIN_WINDOW_EXPIRY falls due (R251). -/
def State.windowDue (s : State) : Option Nat := s.twin.open_.map fun w => w.openedAt + cyclesUs s.twin.window.toNat

def windowExpiry (s : State) : State :=
  match s.twin.open_ with
  | none => s
  | some w => unconfirmTwin w s

/-- Class 2 with the forcing of R253. -/
def reportTwinTimeout (s : State) : State := report 0x48 0x16 0xFF 2 { twin := true } s

/-- TWIN_TIMEOUT falls due: no confirmed telegram for TWIN_TIMEOUT while the stream is supervised (R253). -/
def State.twinTimeoutDue (s : State) : Option Nat :=
  if !s.safety.serviceSeen || s.twin.modeUsed != 0 || s.twin.timedOut then none
  else s.twin.supervisedFrom.map fun e => e + cyclesMs s.twin.timeout.toNat

def twinTimeout (s : State) : State := reportTwinTimeout { s with twin := { s.twin with timedOut := true } }

/-- The comparator at a ticket close: TWIN_MODE is latched (R250), supervision starts with the first ticket close of
SERVICE, and a timeout that still holds is reported again (log entry 27). -/
def twinTicket (s : State) : State :=
  let start := s.safety.lamp == .service && !s.safety.serviceSeen
  let s1 : State := { s with
    safety := { s.safety with serviceSeen := s.safety.serviceSeen || start }
    twin := { s.twin with
      modeUsed := s.twin.mode
      supervisedFrom := if start then some (s.twin.supervisedFrom.getD s.clock) else s.twin.supervisedFrom } }
  if s1.twin.timedOut && s1.twin.modeUsed == 0 then reportTwinTimeout s1 else s1

/-- A carrier is seen: it accepted a copy within TWIN_TIMEOUT. -/
def State.twinSeen (s : State) (e : Option Nat) : Bool :=
  e.any fun t => decide (s.clock - t < cyclesMs s.twin.timeout.toNat)

/-- TWIN_STATUS (Table 11-13). -/
def State.twinStatus (s : State) : U32 :=
  BitVec.ofNat 32 (s.twin.decided.toNat * 2 ^ 16 + natOfBool (s.safety.demand.getLsbD 2) * 128
    + natOfBool s.fences.twin * 64 + natOfBool s.twin.open_.isSome * 8
    + natOfBool (s.twinSeen s.twin.t1sAt) * 4 + natOfBool (s.twinSeen s.twin.canAt) * 2
    + natOfBool (s.twin.modeUsed == 0 && !s.fences.twin))

end Sys2Proof.Machine
end

