-- ==== Sys2Proof/Machine/TimeBase.lean ====
section
/-!
DEFINITION. Machine/TimeBase.lean: the IEEE 802.1AS time base (R300, R301).
-/
namespace Sys2Proof.Machine

/-- The network domain runs. -/
def State.netRuns (s : State) : Bool :=
  !s.aon.held && (s.safety.power == .run || s.safety.power == .idle)

/-- The time base runs: in RUN, IDLE and SLEEP (R351, R363). -/
def State.tbRuns (s : State) : Bool := s.netRuns || (!s.aon.held && s.safety.power == .sleep)

/-- The grid runs on its local clock for want of a lock (R150, TB_UNLOCKED_MS). -/
def State.runsUnlocked (s : State) : Bool := s.frame.running && s.frame.alignUsed == 1 && !s.tb.locked

/-- CORE cycles of TB_UNLOCKED_MS up to now. -/
def State.unlockedTotal (s : State) : Nat :=
  s.frame.unlockedCycles + if s.runsUnlocked then s.clock - s.frame.unlockedAt else 0

/-- The count is settled before the lock, the mode or the running of the grid changes. -/
def settleUnlocked (s : State) : State :=
  { s with frame := { s.frame with unlockedCycles := s.unlockedTotal, unlockedAt := s.clock } }

/-- CORE cycles of 2^k s. -/
def logSeconds (k : Int) : Nat := cyclesS 1 * 2 ^ k.toNat / 2 ^ (-k).toNat

def setLocked (locked : Bool) (s : State) : State :=
  let s1 := settleUnlocked s
  { s1 with tb := { s1.tb with locked := locked, everLocked := s1.tb.everLocked || locked } }

/-- The steering: the count goes on from where it stands, at a free rate (log entry 7). -/
def steerRate (s : State) : State :=
  let r := s.drawSteer
  { r.2 with tb := { r.2.tb with origin := s.tb.origin + s.tbDrift s.clock, since := s.clock, rate := r.1 } }

/-- A Sync with its offset from the grandmaster: a step while unlocked and beyond 4 × TB_LOCK_TOL, else a steering. -/
def steer (offset : Int) (s : State) : State :=
  if !s.tb.locked && decide (4 * s.tb.lockTol.toNat < offset.natAbs) then
    { s with tb := { s.tb with origin := s.tb.origin + offset } }
  else steerRate s

/-- The lock after a Sync (R301). -/
def judgeLock (offset : Int) (s : State) : State :=
  let tol := s.tb.lockTol.toNat
  let run := if offset.natAbs ≤ tol then s.tb.lockRun + 1 else 0
  let s1 : State := { s with tb := { s.tb with lockRun := run } }
  if s.tb.locked then (if 4 * tol < offset.natAbs then setLocked false s1 else s1)
  else if 4 ≤ run then setLocked true s1 else s1

/-- The best master clock algorithm: the device's own clock goes before one of this priority1 and identity (R300). -/
def State.ownMaster (s : State) (priority1 : Byte) (gm : U64) : Bool :=
  s.tb.priority1 != 255
  && (decide (s.tb.priority1 < priority1) || (s.tb.priority1 == priority1 && Config.masterTie gm))

/-- The master that the device follows goes before another one: by priority1, and of two equal ones by an order that the spec
leaves to IEEE 802.1AS (R300, log entry 29). -/
def State.followsBetter (s : State) (priority1 : Byte) (gm : U64) : Bool :=
  !s.tb.isGrandmaster && s.tb.syncAt.isSome && s.tb.gmIdentity != gm
  && (decide (s.tb.gmPriority < priority1) || (s.tb.gmPriority == priority1 && Config.masterFirst s.tb.gmIdentity gm))

/-- TIME_BASE_SYNC: a Sync, its offset corrected by Follow_Up and Pdelay. The device follows the best clock; a Sync of a
clock that its own or the one it follows goes before is not followed. -/
def timeBaseSync (gm : U64) (priority1 : Byte) (interval offset : Int) (s : State) : State :=
  if !s.tbRuns || s.ownMaster priority1 gm || s.followsBetter priority1 gm then s
  else
    let s0 := if s.tb.isGrandmaster then setLocked false s else s
    let s1 : State := { s0 with tb := { s0.tb with
      isGrandmaster := false, sentAt := none, lockRun := if s.tb.isGrandmaster then 0 else s0.tb.lockRun
      gmIdentity := gm, gmPriority := priority1, syncAt := some s.clock, intervalLog2 := interval
      offset := satI32 offset } }
    judgeLock offset (steer offset s1)

def execTimeBaseSync (grandmaster : SyncSource) (intervalLog2 offsetNs : Int) (s : State) :
    Host.Outcome State Fault Refusal := .next (timeBaseSync grandmaster.identity grandmaster.priority1 intervalLog2 offsetNs s)

/-- TIME_BASE_UNLOCK_TIMEOUT falls due: 3 Sync intervals without a Sync. -/
def State.unlockTimeoutDue (s : State) : Option Nat :=
  if s.tb.isGrandmaster then none else s.tb.syncAt.map fun e => e + 3 * logSeconds s.tb.intervalLog2

def unlockTimeout (s : State) : State :=
  let s1 := setLocked false s
  { s1 with tb := { s1.tb with lockRun := 0, syncAt := none } }

/-- The device is the best master: its own clock may be one, and no better clock is followed. -/
def State.wins (s : State) : Bool :=
  s.tb.priority1 != 255 && (s.tb.isGrandmaster || s.tb.syncAt.isNone || s.ownMaster s.tb.gmPriority s.tb.gmIdentity)

/-- The edge on which the grandmaster's next Sync is due: 2^TB_LOG_SYNC s after the one before; the first one at once. -/
def State.syncDue (s : State) : Option Nat :=
  if !s.tbRuns || !s.wins then none
  else match s.tb.isGrandmaster, s.tb.sentAt with
    | true, some e => some (e + logSeconds s.tb.logSync.toInt)
    | _, _ => some s.clock

/-- GRANDMASTER_SYNC_SEND: with TB_PRIORITY1 below 255 the device may win the best master clock algorithm; as
grandmaster it sends a Sync and reports itself locked. -/
def grandmasterSync (s : State) : State :=
  let s1 := setLocked true s
  { s1 with tb := { s1.tb with
      isGrandmaster := true, gmIdentity := Config.clockIdentity s.cairn.mac, gmPriority := s.tb.priority1, syncAt := none
      syncsSent := s1.tb.syncsSent + 1, sentAt := some s1.clock } }

/-- TB_PRIORITY1 of 255 ends the grandmaster role (R300). -/
def setPriority1 (v : Byte) (s : State) : State :=
  let s1 : State := { s with tb := { s.tb with priority1 := v } }
  if v = 255 && s.tb.isGrandmaster then
    let s2 := setLocked false s1
    { s2 with tb := { s2.tb with isGrandmaster := false, lockRun := 0, sentAt := none } }
  else s1

end Sys2Proof.Machine
end

