-- ==== Sys2Proof/Machine/Analog.lean ====
section
/-!
DEFINITION. Machine/Analog.lean: the ADC (R335 to R342) and TSENS with the thermal shutdown (R344 to R350).
-/
namespace Sys2Proof.Machine

/-! ### window comparators (R342) -/

/-- A result violates the window. -/
def Wcmp.violates (w : Wcmp) (code : Nat) : Bool :=
  let within := decide (fld w.limits 0 12 ≤ code) && decide (code ≤ fld w.limits 16 12)
  if w.cfg.getLsbD 29 then within else !within

/-- One offered result. -/
def Wcmp.offer (w : Wcmp) (code : Nat) : Wcmp :=
  if !w.violates code then { w with run := 0, alarm := false }
  else
    let run := satInc8 w.run
    let sets := !w.alarm && decide (fld w.cfg 8 8 ≤ run.toNat)
    { w with
      run := run, alarm := w.alarm || sets, alarmSeen := w.alarmSeen || sets
      alarmCount := if sets then satInc w.alarmCount else w.alarmCount }

/-- The comparator watches this source: regular channel or injected slot. -/
def Wcmp.watches (w : Wcmp) (injected : Bool) (n : Nat) : Bool :=
  w.cfg.getLsbD 31 && w.cfg.getLsbD 30 == injected
  && (if injected then fld w.cfg 24 2 == n else fld w.cfg 16 5 == n)

/-- A result is offered to comparator `i`; a setting of ALARM acts by REACT. -/
def offerResult (injected : Bool) (n code : Nat) (i : Fin 8) (s : State) : State :=
  let w := s.adc.wcmp[i]
  if !w.watches injected n then s
  else
    let v := w.offer code
    let s1 : State := { s with adc := { s.adc with wcmp := vput s.adc.wcmp i v } }
    if v.alarm && !w.alarm then
      match fld w.cfg 0 2 with
      | 1 => report 0x60 0x23 0xFF 0 {} s1
      | 2 => report1 0x60 0x23 0xFF s1
      | _ => s1
    else s1

def offerAll (injected : Bool) (n code : Nat) (s : State) : State := forAll (offerResult injected n code) s

/-! ### regular sequence (R337, R341) -/

/-- The converter runs (R335). -/
def State.adcRuns (s : State) : Bool :=
  s.adc.ready && !s.aon.held && (s.safety.power == .run || s.safety.power == .idle)

def slotChannel (w : U16) : Nat := fld w 8 5

/-- Table 16-1: the divider of a channel's input. -/
def channelDivider (ch : Nat) : Nat := if ch = 22 then 2 else if ch = 23 then 4 else 1

/-- The code of an input in µV: to the nearest LSB of 1.5 V / 4096 after the scaling, half an LSB upward, within 12 bits
(R335). -/
def adcCode (ch microvolts : Nat) : Nat :=
  let full := 1500000 * channelDivider ch
  min 4095 ((8192 * microvolts + full) / (2 * full))

/-- The reference check on INT0. -/
def checkReference (code : Nat) (s : State) : State :=
  let run := if 2690 ≤ code ∧ code ≤ 2772 then 0 else s.adc.refRun + 1
  let s1 : State := { s with adc := { s.adc with refCode := BitVec.ofNat 16 code, refRun := run } }
  if 3 ≤ run then report 0x60 0x23 0xFF 2 {} { s1 with adc := { s1.adc with refFault := true } } else s1

/-- A channel's result register takes a code. -/
def putResult (ch code : Nat) (s : State) : State :=
  if h : ch < 24 then
    { s with adc := { s.adc with result := vput s.adc.result ⟨ch, h⟩ (BitVec.ofNat 16 code) } }
  else s

/-- REGULAR_CONVERSION_END: INT0 at position 0, then regular slots in order; the set-up is sampled at the start of a
round. `microvolts` is the input of the channel converted. -/
def regularConversionEnd (microvolts : Nat) (s : State) : State :=
  if !s.adcRuns || !s.adc.regRun || s.adc.injBusy then s
  else
    let pos := s.adc.position
    let ch := if pos = 0 then 20 else slotChannel (s.adc.roundSlot.toList.getD (pos - 1) 0)
    let code := adcCode ch microvolts
    let s1 := putResult ch code s
    let s2 := if pos = 0 then checkReference code s1 else s1
    let s3 := offerAll false ch code s2
    if s.adc.roundLen.toNat ≤ pos then
      { s3 with adc := { s3.adc with
          position := 0, roundCount := s3.adc.roundCount + 1, roundLen := s3.adc.regLen
          roundSlot := s3.adc.regSlot } }
    else { s3 with adc := { s3.adc with position := pos + 1 } }

def execRegularConversionEnd (microvolts : Nat) (s : State) : Host.Outcome State Fault Refusal :=
  .next (regularConversionEnd microvolts s)

/-! ### injected sequence (R338 to R340) -/

/-- A trigger enabled in INJ_CFG starts the injected sequence: 1 H marker, 2 L marker, 3 ADTRIG (R338). -/
def startInjected (src : BitVec 2) (s : State) : State :=
  { s with adc := { s.adc with
      injBusy := true, injSource := src, injFrom := s.clock
      injAbort := if s.adc.regRun then satInc s.adc.injAbort else s.adc.injAbort } }

/-- A trigger that meets a running sequence is dropped; the first dropped marker of a frame is reported (R339). -/
def dropTrigger (src : BitVec 2) (s : State) : State :=
  let first := src != 3 && !s.adc.dropReported
  let s1 : State := { s with adc := { s.adc with
    injDropped := satInc s.adc.injDropped, dropReported := s.adc.dropReported || first } }
  if first then report1 0x60 0x23 0xFF s1 else s1

/-- The running sequence is that of an ADTRIG edge on this same ADC edge, of 20 CORE cycles. -/
def State.sameAdcEdge (s : State) : Bool :=
  s.adc.injBusy && s.adc.injSource == 3 && s.clock / 20 == s.adc.injFrom / 20

/-- A trigger arrives. Of a marker and an ADTRIG edge on one ADC edge the marker runs and the other is dropped (R339). -/
def injectedTrigger (src : BitVec 2) (s : State) : State :=
  if !s.adc.injBusy then startInjected src s
  else if src ≠ 3 && s.sameAdcEdge then
    { s with adc := { s.adc with injSource := src, injDropped := satInc s.adc.injDropped } }
  else dropTrigger src s

/-- Both comparisons of a marker are skipped (R209, R340). -/
def skipBoth (s : State) : State := forAll skipCurrent s

/-- A mid marker of subframe H or L. -/
def midMarker (subL : Bool) (s : State) : State :=
  let on := s.adc.injCfg.getLsbD (if subL then 9 else 8)
  if !s.adcRuns || !on then skipBoth s
  else if s.adc.injBusy && !s.sameAdcEdge then skipBoth (injectedTrigger (if subL then 2 else 1) s)
  else injectedTrigger (if subL then 2 else 1) s

/-- ADTRIG_EDGE: an edge of the chosen polarity, held for 2 ADC cycles. -/
def execAdtrigEdge (rising : Bool) (heldCycles : Nat) (s : State) : Host.Outcome State Fault Refusal :=
  let edge := s.adc.injCfg.getLsbD (if rising then 12 else 13)
  .next (if s.adcRuns && s.adc.injCfg.getLsbD 10 && edge && decide (2 ≤ heldCycles) then injectedTrigger 3 s
    else s)

/-- The code of injected slot `k` from its input. -/
def State.injectedCode (s : State) (microvolts : List Nat) (k : Fin 4) : Nat :=
  adcCode (slotChannel s.adc.injSlot[k]) (microvolts.getD k.val 0)

/-- One injected result: its register and the comparators. -/
def injectedResult (src : BitVec 2) (k : Fin 4) (code : Nat) (s : State) : State :=
  let w : U32 := BitVec.ofNat 32 (2 ^ 31 + src.toNat * 2 ^ 29 + code)
  offerAll true k.val code { s with adc := { s.adc with injResult := vput s.adc.injResult k w } }

/-- The current comparison of tile `n` with its injected code (R209, R340, R341). -/
def injectedCompare (src : BitVec 2) (code : Fin 4 → Nat) (n : Fin 2) (s : State) : State :=
  if src = 3 then s
  else if s.raised 0x60 0x23 2 then skipCurrent n s
  else compareCurrent n (code (Fin.castLE (by decide) n)) s

/-- INJECTED_SEQUENCE_END: `microvolts` are the inputs of the injected slots in order. -/
def injectedSequenceEnd (microvolts : List Nat) (s : State) : State :=
  if !s.adc.injBusy || !s.adcRuns then s
  else
    let src := s.adc.injSource
    let len := fld s.adc.injCfg 0 3
    let code := s.injectedCode microvolts
    let results := (List.finRange 4).foldl (fun t k => if k.val < len then injectedResult src k (code k) t else t) s
    forAll (injectedCompare src code) { results with adc := { results.adc with injBusy := false } }

def execInjectedSequenceEnd (microvolts : List Nat) (s : State) : Host.Outcome State Fault Refusal :=
  .next (injectedSequenceEnd microvolts s)

/-! ### thermal records (R350) -/

/-- A record of Table 16-5. -/
def writeThermal (kind cause : Byte) (trip : Int) (holdMs : Nat) (s : State) : State :=
  if s.cairn.failing then cairnFailure s
  else
    let head := bytes32 s.tsens.recCount ++ bytes64 s.logTime ++ bytes16 s.cairn.bootCount ++ [kind, cause]
      ++ bytes16 (BitVec.ofInt 16 trip) ++ bytes16 (BitVec.ofInt 16 s.aon.tripPeak)
      ++ [s.aon.restarts, s.tsens.lampBefore.code, 0, 0] ++ leBytes 4 holdMs
    { s with
      tsens := { s.tsens with
        recCount := s.tsens.recCount + 1
        records := ((head ++ bytes32 (crc32cOf head)) :: s.tsens.records).take 64 }
      cairn := { s.cairn with writeFailed := false, wroteAt := some s.clock } }

/-! ### shutdown (R346, R347, R349) -/

/-- The tiles are in limp: no band is latched, and RUN is needed before light. -/
def tilesInLimp (s : State) : State :=
  forAll (fun (n : Fin 2) t => clearBands n (t.modLink n fun l => { l with
    running := false, lit := false, runDue := false })) s

/-- A shutdown at a second reading `trip`, of a sensor that was `broken` then or not. In SLEEP it waits for the wake it causes
(R361). -/
def thermalShutdown (trip : Int) (broken : Bool) (s : State) : State :=
  if s.aon.thermalHold then s
  else if s.safety.power = .sleep then
    (if s.power.thermalWake then s else { s with power := { s.power with
        thermalWake := true, thermalTrip := trip, thermalBroken := broken } })
  else
    let last := s.aon.restarts == 3
    let cause : Byte := if broken then 2 else 1
    let s1 : State := { s with
      aon := { s.aon with thermalHold := true, holdFrom := s.clock, tripPeak := trip }
      tsens := { s.tsens with
        stopped := true, latched := s.tsens.latched || last, lampBefore := s.safety.lamp, timerFrom := none
        resumeDue := false } }
    let s2 := tilesInLimp (setLamp .limp s1)
    let s3 := report 0x61 0x1E 0xFF (if last then 4 else 3) {} s2
    writeThermal (if last then 2 else 1) cause trip 0 s3

/-! ### readings (R344, R345, R348) -/

/-- The sensor is judged after a reading: `bad` is the cause found, 0 for none. -/
def judgeSensor (bad : Byte) (t : Tsens) : Tsens :=
  if bad ≠ 0 then
    { t with
      broken := true, goodRun := 0, brokenCause := if t.broken then t.brokenCause else bad
      brokenCount := if t.broken then t.brokenCount else satInc t.brokenCount }
  else if t.broken then
    (if 8 ≤ t.goodRun + 1 then { t with broken := false, goodRun := 0 } else { t with goodRun := t.goodRun + 1 })
  else t

/-- TJ from the last 8 readings, truncated toward zero. -/
def meanOf (l : List Int) : Int := Int.tdiv l.sum l.length

/-- TJ_RAW of a conversion: a broken sensor reads 1400. -/
def Tsens.reads (t : Tsens) (raw : Int) : Int := if t.broken then 1400 else raw

/-- The highest raw reading since the shutdown (R350). -/
def noteTripPeak (r : Int) (s : State) : State :=
  if s.aon.thermalHold then { s with aon := { s.aon with tripPeak := max s.aon.tripPeak r } } else s

/-- TJ_RAW, TJ, the peak, the restart timer and the run of hot readings. VALID and the peaks wait for the first reading
(R344): `first` says that this is a reading. -/
def showReading (first : Bool) (raw : Int) (clock : Nat) (hold : Bool) (t : Tsens) : Tsens :=
  let r := t.reads raw
  let tj := if t.broken then 1400 else meanOf t.last8
  let taken := t.valid || first
  { t with
    raw := BitVec.ofInt 16 r, tj := BitVec.ofInt 16 tj, valid := taken
    peak := if taken && (t.peak == 0x8000 || decide (t.peak.toInt < r)) then BitVec.ofInt 16 r else t.peak
    hotRun := if 1400 ≤ r then t.hotRun + 1 else 0
    timerFrom := if hold && decide (tj < 1150) then some (t.timerFrom.getD clock) else none }

/-- The derating episode (R345). -/
def derating (s : State) : State :=
  let tj := s.tsens.tj.toInt
  if !s.tsens.derating && decide (1200 ≤ tj) then
    report1 0x61 0x1E 0xFF { s with tsens := { s.tsens with derating := true } }
  else if s.tsens.derating && decide (tj < 1190) then { s with tsens := { s.tsens with derating := false } }
  else s

/-- TSENS runs: PD_ANA is powered outside DEEP, DEW and power OFF (R344, R351). -/
def State.tsensRuns (s : State) : Bool :=
  !s.aon.held && (s.safety.power == .run || s.safety.power == .idle || s.safety.power == .sleep)

/-- TSENS_READING: one conversion; `railCode` says that it returned code 0 or full scale. -/
def tsensReading (raw : Int) (railCode : Bool) (s : State) : State :=
  if !s.tsensRuns then s
  else
    let t := s.tsens
    let step := t.lastRaw.any fun l => decide (100 < (raw - l).natAbs)
    let bad : Byte := if railCode then 1 else if step then 3 else 0
    let t1 : Tsens := { judgeSensor bad t with
      readingAt := s.clock, lastRaw := if railCode then none else some raw
      last8 := if railCode then t.last8 else (raw :: t.last8).take 8 }
    let s1 := derating (noteTripPeak (t1.reads raw) { s with tsens := showReading true raw s.clock s.aon.thermalHold t1 })
    if 2 ≤ s1.tsens.hotRun then thermalShutdown s1.tsens.raw.toInt s1.tsens.broken s1 else s1

def execTsensReading (raw : Int) (railCode : Bool) (s : State) : Host.Outcome State Fault Refusal :=
  .next (tsensReading raw railCode s)

/-- TSENS_NO_CONVERSION falls due: no conversion for 1 ms. -/
def State.noConversionDue (s : State) : Option Nat :=
  if s.tsensRuns then some (s.tsens.readingAt + cyclesMs 1) else none

/-- The broken sensor reads 1400 and causes a shutdown. -/
def noConversion (s : State) : State :=
  let t1 := showReading false 1400 s.clock s.aon.thermalHold (judgeSensor 2 { s.tsens with lastRaw := none })
  let s1 := derating (noteTripPeak 1400 { s with tsens := { t1 with readingAt := s.clock, hotRun := t1.hotRun + 1 } })
  thermalShutdown 1400 true s1

/-- The lamp state that a restart reads as the one at the shutdown: the present one where a reset has left LIMP since (log
entry 35). -/
def State.lampAtShutdown (s : State) : LampState := if s.safety.lamp = .limp then s.tsens.lampBefore else s.safety.lamp

/-- THERMAL_RESTART falls due: the restart timer reaches 10 s without the fell latch (R348). A hold with TS_RESTARTS at 3 is
that of a latched shutdown, which no restart follows (R349). -/
def State.restartDue (s : State) : Option Nat :=
  if !s.aon.thermalHold || s.aon.fell || s.aon.restarts == 3 || !(s.safety.power == .run || s.safety.power == .idle) then none
  else s.tsens.timerFrom.map fun e => e + cyclesS 10

def thermalRestart (s : State) : State :=
  let lamp : LampState := match s.lampAtShutdown with
    | .start | .service | .fallback => .fallback
    | _ => .parked
  let s1 : State := { s with
    aon := { s.aon with thermalHold := false, restarts := s.aon.restarts + 1 }
    tsens := { s.tsens with stopped := false, timerFrom := none, resumeDue := true, lampBefore := s.lampAtShutdown }
    safety := { s.safety with mux := .dark, muxNext := none } }
  writeThermal 3 0 s1.tsens.tj.toInt (s.msSince s.aon.holdFrom) (setLamp lamp s1)

/-! ### status words -/

/-- ADC_STATUS (0x7800.01). -/
def State.adcStatus (s : State) : U32 :=
  BitVec.ofNat 32 (natOfBool s.adc.refFault * 8 + natOfBool s.adc.injBusy * 4 + natOfBool s.adc.regRun * 2
    + natOfBool s.adc.ready)

/-- WCMP_STATUS (0x7840.03). -/
def Wcmp.status (w : Wcmp) : U32 :=
  BitVec.ofNat 32 (w.run.toNat * 256 + natOfBool w.alarmSeen * 2 + natOfBool w.alarm)

/-- TS_STATUS (Table 16-7). -/
def State.tsStatus (s : State) : U32 :=
  let t := s.tsens
  BitVec.ofNat 32 (t.brokenCause.toNat * 256 + natOfBool t.latched * 32 + natOfBool s.aon.thermalHold * 16
    + natOfBool t.timerFrom.isSome * 8 + natOfBool t.derating * 4 + natOfBool t.broken * 2 + natOfBool t.valid)

/-- TS_HOLD_LEFT (0x7C20.02). -/
def State.holdLeft (s : State) : U16 :=
  if !s.aon.thermalHold then 0
  else match s.tsens.timerFrom with
    | none => 10000
    | some e => BitVec.ofNat 16 ((cyclesS 10 - (s.clock - e) + 799999) / 800000)

end Sys2Proof.Machine
end

