-- ==== Sys2Proof/Machine/Frame.lean ====
section
/-!
DEFINITION. Machine/Frame.lean: the frame grid and its alignment (R141 to R154), what a frame slot does (Table 7-2, R145,
R155 to R157, R235, R236), and the ticket close (Table 7-4).
-/
namespace Sys2Proof.Machine

/-- Offset of a local grid time from a reference ticket close; none without a reference (R150, R152). DESIGN CHOICE (log
entry 118): in ALIGN_MODE 0x02 the references are the last accepted edge and whole periods from it, edges still to come
included. -/
def State.refOffset (s : State) (g : Int) : Option Int :=
  if s.frame.alignUsed = 1 && s.tb.locked then
    some (g + 204 * (s.tb.origin + s.tbDrift (g / cycleTu)) - 204 * (s.frame.epochUsed.toNat : Int))
  else if s.frame.alignUsed = 2 && s.frame.fsyncSeen then
    s.frame.fsyncAt.map fun e => g - (e * cycleTu - 204 * (s.frame.fsyncDelay.toNat : Int))
  else none

/-- PHASE_ERROR in ns, to the nearest (R152, log entry 31). -/
def phaseErrorOf (d p : Int) : Int :=
  let r := d % p
  (2 * (if p < 2 * r then r - p else r) + 204) / 408

/-- The lengthening of frame slot 0 that places the next ticket close on a reference (R153). -/
def jumpOf (d p : Int) : Int := (-d) % p

/-! ### FSYNC (R151) -/

/-- An edge is accepted: the first, or P ± 1 % after the last. -/
def State.fsyncOk (s : State) (highNs : Nat) : Bool :=
  decide (200 ≤ highNs) && s.frame.fsyncAt.all fun e =>
    decide (100 * ((s.clock : Int) * cycleTu - e * cycleTu - periodTu s.frame.divUsed).natAbs
      ≤ (periodTu s.frame.divUsed).natAbs)

/-- FSYNC_EDGE: a rising edge of the pin. -/
def execFsyncEdge (highNs : Nat) (s : State) : Host.Outcome State Fault Refusal :=
  .next (if !s.frame.running || s.frame.alignUsed != 2 then s
    else if s.fsyncOk highNs then
      { s with frame := { s.frame with fsyncAt := some s.clock, fsyncSeen := true } }
    else { s with frame := { s.frame with fsyncRejected := satInc s.frame.fsyncRejected } })

/-- FSYNC_LOSS falls due: three frame periods without an accepted edge. DESIGN CHOICE (log entry 118): a follower that has
never accepted an edge has lost none, and reports nothing. -/
def State.fsyncLossDue (s : State) : Option Nat :=
  if s.frame.alignUsed != 2 || !s.frame.running then none
  else s.frame.fsyncAt.map fun e => edgeOf (e * cycleTu + 3 * periodTu s.frame.divUsed)

def fsyncLoss (s : State) : State :=
  report1 0x1C 0x25 0xFF { s with frame := { s.frame with fsyncSeen := false, fsyncAt := none } }

/-! ### a band render -/

/-- Sward renders: not in the boot ROM (R384), not under a thermal hold (R347). -/
def State.swardOn (s : State) : Bool := s.gorse && !s.tsens.stopped

/-- Field-memory words found uncorrectable are marked and reported (R272). -/
def noteUncorrectable (words : List Nat) (s : State) : State :=
  let ws := words.filter fun w => decide (w < fmSize / 32)
  reportBad ws { s with mem := { s.mem with bad := s.mem.bad ++ ws.filter fun w => !s.mem.bad.contains w } }

/-- Layers that underrun in the render of band `b` (R155). -/
def State.underruns (s : State) (missing : Byte) (b : Nat) : Byte :=
  maskOf fun n =>
    let l := s.layer n
    s.layerOn 0 n && (missing.getLsbD n.val || l.paletteBad
      || (List.finRange 2).any fun t => (s.link t).isUp && s.readsBad l t b)

/-- One layer that underruns: the count of Ln_UNDERRUN_COUNT, and the report (R156, R157). -/
def underrun (n : Fin 8) (s : State) : State :=
  let first := !(s.layer n).underrunThisFrame
  let s1 := s.modLayer n fun l => { l with
    underrunCount := satInc l.underrunCount, underrunThisFrame := true }
  if s.isEssential n then report (unitLayer n) 0x02 (BitVec.ofNat 8 n.val) 3 {} s1
  else if first then report1 (unitLayer n) 0x02 (BitVec.ofNat 8 n.val) s1
  else s1

/-- UNDERRUN_LIMIT consecutive frames with an underrun fence a non-essential layer (R156). -/
def execUnderrunLimitReached (layer : Fin 8) (s : State) : Host.Outcome State Fault Refusal :=
  let l := s.layer layer
  .next (if !s.isEssential layer && !s.fencedMask.getLsbD layer.val
        && decide (s.frame.underrunLimit.toNat ≤ l.underrunRun + natOfBool l.underrunThisFrame) then
      reportLayer layer 0x02 s
    else s)

/-- The last `late` codes are still missing when the encoder must send (R145). -/
def blankLate (late : Nat) (codes : List Byte) : List Byte :=
  codes.mapIdx fun i c => if codes.length ≤ i + late then 0 else c

/-- Residue mismatches of the warp unit (R245). -/
def residue (n : Fin 2) (bad : List Nat) (s : State) : State :=
  if bad = [] then s
  else report 0x18 0x0A (BitVec.ofNat 8 n.val) 3 {}
    { s with warp := { s.warp with residueErr := satAdd s.warp.residueErr bad.length } }

/-- A band that is late: class 3 for the first of a frame (R145). -/
def lateBand (late : Nat) (s : State) : State :=
  if late = 0 then s
  else if s.frame.lateReported then s
  else report 0x1C 0x23 0xFF 3 {} { s with frame := { s.frame with lateReported := true } }

/-- Subframe H begins: its counts and sums start afresh, whatever the links do (R38, R85, R212). -/
def startCounts (s : State) : State :=
  forAll (fun (n : Fin 2) t => t.modCur n fun c => { c with clampRun := 0, sumH := 0 })
    { s with warp := { s.warp with oocRun := .replicate 2 0 } }

/-- Counts of subframe H: out-of-canvas pixels and clamped codes (R38, R85), and the band current (R206, R212). -/
def countBand (n : Fin 2) (b : Nat) (subL : Bool) (r : BandCodes) (current : Nat) (s : State) : State :=
  let s1 : State := if subL then s
    else { s with warp := { s.warp with oocRun := vmod s.warp.oocRun n fun x => x + r.ooc } }
  s1.modCur n fun c => { c with
    clampRun := if subL then c.clampRun else c.clampRun + r.clamped
    sumH := if subL then c.sumH else c.sumH + current
    bandNext := if h : b < 32 then some (⟨b, h⟩, current) else none }

/-- The Hedgerow codes of a band of a tile; none while the path is stopped (R235, R347). The path decodes the band of a tile
whose link is not UP too, for the grid of the image. -/
def State.hedgeTap (s : State) (bad : List Nat) (n : Fin 2) (b : Nat) (subL : Bool) : Option (List Byte) :=
  let kind := if (s.link n).isUp then (s.link n).kind else hedgeKind s.hedge.image n.val
  if s.tsens.stopped then none else some (s.hedgeBand bad kind n b subL)

/-- The render of one band for a tile whose link is UP, and its BAND packet (R90, R144, R172, R235). The warp unit forms
directions whichever source is selected, so the positions `residues` are dark for Sward, the counts and the guard (R245). -/
def renderUp (left : Byte) (bad : List Nat) (residues : List Nat) (late : Nat) (b : Nat) (subL : Bool) (n : Fin 2)
    (s : State) : State :=
  let l := s.link n
  let size := bandCodes l.kind
  let on := s.swardOn && !l.denied
  let forced := if s.meshValid n && !s.tsens.stopped then residues else []
  let r : BandCodes := if on then s.renderBand left forced n b subL else { codes := List.replicate size 0 }
  let hedge := s.hedgeTap bad n b subL
  let chosen := match s.safety.mux with
    | .sward => r.codes
    | .hedgerow => s.fenceCodes n b (hedge.getD (List.replicate size 0))
    | .dark => List.replicate size 0
  let lit := l.lit && s.safety.mux != .dark
  let sent := blankLate late (if lit then chosen else List.replicate size 0)
  let s1 := residue n forced s
  let s2 := s1.modLink n fun l => { l with
    band := some { band := BitVec.ofNat 5 b, sub := subL, frame := s.frame.number, codes := sent
                   source := if lit then s.safety.mux else .dark } }
  let s3 := countBand n b subL r (s.bandCurrent n b subL sent) s2
  let s4 := guardBand forced n b subL sent r.codes s3
  lateBand late (stileBand n b subL (if on then some r.codes else none) hedge s4)

/-- The render of one band for one tile: for a tile whose link is not UP the Hedgerow path decodes and Stile compares its
store rectangles (R227, R231, R235); Sward renders no such tile (log entry 72). -/
def renderTile (left : Byte) (bad : List Nat) (residues : List Nat) (late : Nat) (b : Nat) (subL : Bool) (n : Fin 2)
    (s : State) : State :=
  if (s.link n).isUp then renderUp left bad residues late b subL n s
  else stileBand n b subL none (s.hedgeTap bad n b subL) s

/-- The uncorrectable words that a render meets: in what Sward reads where it runs, and in the zone set, which the guard reads
whatever the source (R218, R272). -/
def State.renderWords (s : State) (b : Nat) : List Nat :=
  if s.mem.bad = [] then []
  else
    let sward := if s.swardOn then s.rowRanges b ++ s.tableRanges b else []
    s.badAmong (sward ++ s.zoneRanges b)

/-- The band render of a frame slot: the gate sample, the sources, the underruns and both tiles in turn. DESIGN CHOICE (log
entry 118): the source rows, which R143 fetches within the slot before, read as field memory stands at the start of the
render. -/
def renderSlot (b : Nat) (subL : Bool) (obs : SlotObs) (s : State) : State :=
  let s1 := gateSample { s with safety := { s.safety with
    mux := s.safety.muxNext.getD s.safety.mux, muxNext := none } }
  let s2 := obs.boxParity.foldl (fun t i => boxParity i t) s1
  let known := (s2.renderWords b).filter fun w => !obs.uncorrectable.contains w
  let s3 := storeParity obs.storeParity (noteUncorrectable obs.uncorrectable (reportBad known s2))
  let left := if s3.swardOn then s3.underruns obs.missing b else 0
  let s4 := if b = 0 then guardStart subL s3 else s3
  let s5 := forAll (fun (n : Fin 8) t => if inMask left n then underrun n t else t) s4
  let s6 := noteSource s5.safety.mux s5
  renderTile left obs.storeParity obs.residue1 obs.late1 b subL 1
    (renderTile left obs.storeParity obs.residue0 obs.late0 b subL 0 s6)

/-! ### the latch and SYNC -/

/-- The tile has a complete band for this slot, the lamp state has light and the paths run: LATCH is valid (R171). -/
def State.latches (s : State) (n : Fin 2) (b : Nat) (subL : Bool) : Bool :=
  let l := s.link n
  match l.band with
  | some p => p.band == BitVec.ofNat 5 b && p.sub == subL && p.source != .dark && l.lit
      && s.lightsTiles && !s.tsens.stopped
  | none => false

/-- BOOT_T_HEDGEROW and BOOT_T_SERVICE at the first latch of each source; the first Hedgerow latch of START (Table 10-5). -/
def noteLatch (src : Source) (s : State) : State :=
  let us : U32 := BitVec.ofNat 32 (min ((s.clock - s.clocks.releasedAt) / 800) 0xFFFFFFFF)
  match src with
  | .hedgerow =>
    { s with
      safety := { s.safety with hedgeLatched := true }
      clocks := { s.clocks with
        bootHedgerow := if s.clocks.bootHedgerow = 0 then us else s.clocks.bootHedgerow } }
  | .sward =>
    { s with clocks := { s.clocks with
        bootService := if s.clocks.bootService = 0 then us else s.clocks.bootService } }
  | .dark => s

/-- SYNC is sent to a tile: its link is UP with the forward lanes in L0 and runs no session (R171, R184). DESIGN CHOICE (log
entry 120): a PRBS session without a loop, whose raw bits fill the lanes, stops SYNC too. -/
def State.syncs (s : State) (n : Fin 2) : Bool :=
  (s.link n).isUp && (s.link n).fwdPs == 0
  && !(s.safety.testRunning && testLink s.safety.testCtrl == some n)

/-- The valid latch of a band and the ECHO it asks for (R174, R229). -/
def latchBand (n : Fin 2) (b : Nat) (subL : Bool) (p : Band) (s : State) : State :=
  let latch : Byte := BitVec.ofNat 8 (128 + 64 * natOfBool subL + b)
  let s1 := latchCurrent n (s.modLink n fun l => { l with
    sync := some ⟨BitVec.ofNat 8 s.frame.slot, latch, s.frame.number⟩, band := none
    echo := some { latch := latch, frame := s.frame.number, at_ := s.clock
                   expected := echoValue p.frame latch p.codes, source := p.source } })
  noteLatch p.source s1

/-- LIMP counts as unexpected again once a SYNC has followed RESUME by 100 µs (R180). -/
def Link.settleLimp (clock : Nat) (l : Link) : Link :=
  match l.resumeAt with
  | some e => if e + cyclesUs 100 ≤ clock then { l with resumeAt := none, limpExpected := false } else l
  | none => l

/-- SYNC to one tile at the start of a frame slot. -/
def syncTile (n : Fin 2) (s : State) : State :=
  if !s.syncs n then s
  else
    let s0 := (echoCompare n s).modLink n (Link.settleLimp s.clock)
    let empty := s0.modLink n fun l => { l with
      sync := some ⟨BitVec.ofNat 8 s.frame.slot, 0, s.frame.number⟩, band := none }
    match latchOf s.frame.slot, (s0.link n).band with
    | some q, some p => if s0.latches n q.1 q.2 then latchBand n q.1 q.2 p s0 else empty
    | _, _ => empty

/-! ### a frame slot -/

/-- PARK, RESUME and RUN that wait for a frame slot, and the sector switches (R173, R241, R348, R402). RESUME goes out with
LIMPn_N high and outside LIMP alone (R180, R189). -/
def slotCommands (s : State) : State :=
  let parks := s.safety.parkDue
  let s1 : State := if parks then
      forAll (fun (n : Fin 2) t => if (t.link n).isUp then parkTile n t else t)
        { s with safety := { s.safety with parkDue := false } }
    else s
  let resumes := s.tsens.resumeDue && s.frame.slot == 66 && s.limpHigh && s.safety.lamp != .limp
  let s2 : State := if resumes then
      forAll (fun (n : Fin 2) t => 
        if (t.link n).isUp then (resumeTile n t).modLink n fun l => { l with runDue := true } else t)
        { s1 with tsens := { s1.tsens with resumeDue := false } }
    else s1
  forAll (fun (n : Fin 2) t => powerSectors n (runAfterPark n t)) s2

/-- FRAME_DIV as this frame slot start sees it, and one TIMING command for each value written to it (R141, R173). -/
def slotDiv (s : State) : State :=
  let s1 : State := { s with frame := { s.frame with divSeen := s.frame.frameDiv, divWrites := [] } }
  forAll (fun (n : Fin 2) t =>
    if (t.link n).isUp then s.frame.divWrites.foldl (fun u v => sendTiming n v t.frame.next u) t else t) s1

/-- OOC_COUNT, OOC_SEEN, CLAMP_COUNT and the runs of underruns of the frame that frame slot 67 completes. -/
def publishCounts (s : State) : State :=
  let ooc := Vector.ofFn fun n : Fin 2 => BitVec.ofNat 32 s.warp.oocRun[n]
  let s1 : State := { s with
    warp := { s.warp with oocCount := ooc }
    layers := vall s.layers fun l => { l with
      underrunRun := if l.underrunThisFrame then l.underrunRun + 1 else 0, underrunThisFrame := false } }
  forAll (fun (n : Fin 2) t => t.modCur n fun c => { c with clampCount := BitVec.ofNat 32 c.clampRun }) s1

/-- The markers of frame slots 18 and 52 hold F before the prediction of their own slot (R209). -/
def slotHolds (s : State) : State := if s.frame.slot = 18 ∨ s.frame.slot = 52 then forAll holdMarker s else s

/-- The markers and comparisons of a frame slot (R143, R203, R209, R220, R246, R275). -/
def slotMarkers (s : State) : State :=
  match s.frame.slot with
  | 18 => midMarker false s
  | 52 => midMarker true s
  | 33 => strayCompare s
  | 36 => aliveStart s
  | 67 => publishCounts (forAll tempFrameEnd (faultFrameEnd (aliveEnd (guardCompare (strayCompare s)))))
  | _ => s

/-- The band render of a frame slot, where it has one. -/
def slotRender (obs : SlotObs) (s : State) : State :=
  match renderOf s.frame.slot with
  | some q => if s.frame.rendering then renderSlot q.1 q.2 obs s else s
  | none => s

/-- FRAME_SLOT_START: SYNC first, then the prediction with the switches commanded before this slot (R207), the markers,
the render and its BAND packets, and last the commands, which R173 sends in the rest of the slot. -/
def frameSlotStart (j : Fin 68) (obs : SlotObs) (s : State) : State :=
  if !s.frame.running || s.frame.fresh then s
  else
    let s0 := s.at_ (s.slotEdge j.val)
    let s1 := slotDiv { s0 with frame := { s0.frame with slot := j.val } }
    let s2 := slotHolds (forAll countSlot (forAll syncTile (if j.val = 1 then startCounts s1 else s1)))
    slotCommands (slotRender obs (slotMarkers (forAll predictSlot s2)))

def execFrameSlotStart (slot : Fin 68) (obs : SlotObs) (s : State) : Host.Outcome State Fault Refusal :=
  .next (frameSlotStart slot obs s)

/-! ### the selection of a ticket (R29, R63, R201, R222, R236, R242, R243) -/

/-- What stands against Sward, as the reports that R63, R29 and R201 name. -/
def swardFindings (s : State) : List (State → State) :=
  ((List.finRange 8).filter fun n => s.isEssential n && !s.validBuf n).map (fun n =>
      report (unitLayer n) 0x05 (BitVec.ofNat 8 n.val) 3 {})
  ++ ((List.finRange 2).filter fun n => (s.link n).isUp && !s.meshValid n).map (fun n =>
      report 0x18 0x05 (BitVec.ofNat 8 n.val) 3 {})
  ++ ((List.finRange 2).filter fun n => (s.link n).isUp && (s.bank (calPair n)).activeBank.isNone).map (fun n =>
      report 0x1A 0x05 (BitVec.ofNat 8 n.val) 3 {})

def zoneSetActive (s : State) : Bool := (s.bank 6).activeBank.isSome

/-- Sward's turn in SERVICE or FALLBACK with no demand left. DESIGN CHOICE (log entry 118): without a zone set, which R222
speaks of in START alone, the ticket carries Hedgerow with lamp state FALLBACK, without a demand and without a report. -/
def chooseService (s : State) : Source × State :=
  let found := swardFindings s
  if found = [] && zoneSetActive s then (.sward, setLamp .service s)
  else (.hedgerow, setLamp .fallback (found.foldl (fun t f => f t) s))

/-- TEST_SOURCE 0x01: Sward as commanded (R243, R63); while no zone set has ever been active Sward is never selected (R19),
and the tiles stay dark (DESIGN CHOICE, log entry 118). -/
def chooseTestSward (s : State) : Source × State :=
  (if zoneSetActive s then .sward else .dark, (swardFindings s).foldl (fun t f => f t) s)

/-- The source that the ticket selects, apart from the wait for RUN. -/
def chooseSource (s : State) : Source × State :=
  match s.safety.lamp with
  | .off | .parked | .limp => (.dark, s)
  | .test =>
    match s.safety.testSource.toNat with
    | 0 => (.dark, s)
    | 1 => chooseTestSward s
    | _ => (.hedgerow, s)
  | .recovery => (if s.hedge.verified then .hedgerow else .dark, s)
  | .start =>
    if s.swardOn && s.safety.demand = 0 && zoneSetActive s && (swardFindings s).isEmpty then
      (.sward, setLamp .service s)
    else (if s.hedge.verified then .hedgerow else .dark, s)
  | .service | .fallback => if s.safety.demand = 0 then chooseService s else (.hedgerow, setLamp .fallback s)

/-- RUN has been sent to every tile whose link is UP (R236). -/
def State.allRun (s : State) : Bool := (List.finRange 2).all fun n => !(s.link n).isUp || (s.link n).running

/-- The selection: light on dark tiles waits for RUN. -/
def selectTicket (s : State) : State :=
  if s.safety.mux = .dark && !s.allRun then
    { s with frame := { s.frame with selection := .dark }, safety := { s.safety with muxNext := none } }
  else
    let c := chooseSource s
    { c.2 with
      frame := { c.2.frame with selection := c.1 }
      safety := { c.2.safety with mux := c.1, muxNext := none } }

/-! ### alignment at a ticket close (R142, R148 to R153) -/

/-- The frame's own values: number, grid time and edge. DESIGN CHOICE (log entry 118): the first ticket close after reset in
ALIGN_MODE 0x01 while the time base is unlocked takes the number 0, as in the other modes. DESIGN CHOICE (log entry 120): the
first ticket close of a grid jumps onto the reference and counts the jump whatever the lamp state, in RECOVERY and LIMP too. -/
def openFrame (s : State) : State :=
  let f := s.frame
  if f.fresh then
    let g0 : Int := s.clock * cycleTu
    let p := periodTu f.divSeen
    let d := s.refOffset g0
    let jump := (d.map fun x => jumpOf x p).getD 0
    let g := g0 + jump
    let number : U32 :=
      match f.alignUsed.toNat, s.refOffset g with
      | 1, some x => BitVec.ofInt 32 (x / p)
      | _, _ => if f.closed then f.number + 1 else 0
    let s1 := s.at_ (edgeOf g)
    { s1 with frame := { f with
        fresh := false, closed := true, number := number, prevNumber := f.number, gate := none
        gridTime := g, closeAt := edgeOf g, divUsed := f.divSeen
        jumped := true, nextNumber := none
        relockCount := if jump = 0 then f.relockCount else satInc f.relockCount } }
  else
    let g := f.gridTime + periodTu f.divUsed
    let s1 := s.at_ (edgeOf g)
    { s1 with frame := { f with
        number := f.next, prevNumber := f.number, gate := none, gridTime := g, closeAt := edgeOf g, divUsed := f.divSeen } }

/-- ALIGN_MODE and FRAME_EPOCH take effect (R150); a device that leaves FSYNC forgets its edges. -/
def latchAlign (s : State) : State :=
  let s1 := settleUnlocked s
  let f := s1.frame
  let leaves := f.alignUsed == 2 && f.alignMode != 2
  { s1 with frame := { f with
      alignUsed := f.alignMode, epochUsed := f.epoch
      fsyncAt := if leaves then none else f.fsyncAt
      fsyncSeen := f.fsyncSeen && !leaves
      fsyncPulse := f.fsyncOut && f.alignMode != 2 } }

/-- The phase error of the closing edge and the correction of frame slot 0 (R152, R153). DESIGN CHOICE (log entry 120): where
no error is formed PHASE_ERROR keeps its last value. -/
def correctPhase (s : State) : State :=
  let f := s.frame
  let p := periodTu f.divUsed
  match s.refOffset (f.closeAt * cycleTu), s.refOffset f.gridTime with
  | some edge, some grid =>
    let err := phaseErrorOf edge p
    let slew : Int := f.phaseSlew.toNat
    let corr := if s.lighting then 204 * clampInt (-slew) slew (-err) else jumpOf grid p
    let jump := !s.lighting && corr != 0
    { s with frame := { f with
        phaseError := satI32 err, aligned := decide (err.natAbs ≤ f.alignTol.toNat)
        slewing := corr != 0, gridTime := f.gridTime + corr, jumped := jump
        relockCount := if jump then satInc f.relockCount else f.relockCount
        nextNumber := if f.alignUsed = 1 && !s.lighting then some (BitVec.ofInt 32 ((grid + corr) / p + 1))
          else none } }
  | _, _ => { s with frame := { f with aligned := false, slewing := false, jumped := false, nextNumber := none } }

/-- TICKET_TIME, FIRST_LIGHT_TIME and the bits of ALIGN_STATUS (R149, Table 7-8). -/
def stampFrame (s : State) : State :=
  { s with frame := { s.frame with
      ticketTime := BitVec.ofInt 64 (s.tbAt s.frame.closeAt)
      firstLight := BitVec.ofInt 64 (s.tbAt (s.slotEdge 2))
      tbLockedSeen := s.tb.locked, fsyncShown := s.frame.fsyncSeen && s.frame.alignUsed == 2 } }

/-! ### ticket close (Table 7-4, R146) -/

/-- WARP_STATUS of a tile (Table 2-5) apart from LAST_REFUSAL. -/
def State.warpStatus (s : State) (n : Fin 2) : U32 :=
  let p : Fin 8 := if n = 0 then 2 else 3
  let t := s.activeTable p 0 (meshLength (s.link n).kind)
  if !s.meshValid n then BitVec.ofNat 32 (8 * natOfBool (s.warp.oocCount[n] != 0))
  else BitVec.ofNat 32 (darkCells t (s.link n).kind * 2 ^ 16 + natOfBool (s.warp.oocCount[n] != 0) * 8
    + natOfBool (u64At t 0x10 != 0) * 4 + natOfBool ((s.bank p).bank1 == .active) * 2 + 1)

/-- What the ticket latches as written: aim, dither, BOX_FRAME. -/
def latchSettings (s : State) : State :=
  { s with frame := { s.frame with
      ditherUsed := s.frame.ditherMode, boxFrameUsed := s.stamp.boxFrame
      aimAzUsed := s.warp.aimAz, aimElUsed := s.warp.aimEl } }

/-- The hand-over after the swaps, of what a mesh swap leaves (R61), and the schedule's part in what it drops (R139). -/
def handOverTicket (meshSwap : Bool) (s : State) : State :=
  let s1 := if meshSwap then (let t := recheckPending s; schedDropped s t t) else s
  handOverAll s1.frame.firstLight s1

/-- What follows the swaps that take effect at this ticket close (R61, R125, R221, R139). -/
def afterSwaps (swaps : List (Fin 8)) (s : State) : State :=
  let s2 := handOverTicket (swaps.any fun p => p == 2 || p == 3) s
  let s3 := copyPalettes (reportUnfit s2)
  let s4 := forAll (fun (n : Fin 2) t => if swaps.contains (calPair n) then calBankActive n t else t) s3
  let s5 := if swaps.contains 6 then guardNewSet s4 else s4
  if swaps.contains 7 then stopSchedule 0 s5 else s5

/-- A finished sparing copy takes its place (R274). -/
def engageSpares (s : State) : State :=
  { s with faults := { s.faults with copied := .replicate 2 false } }

/-- The ticket closes of a freeze (R366). -/
def thaw (s : State) : State :=
  let left := if s.power.supplies.toList.any Supply.warn then s.power.freezeLeft else s.power.freezeLeft - 1
  if !s.power.frozen || s.power.supplies.toList.any Supply.warn then s
  else { s with power := { s.power with freezeLeft := left, frozen := left != 0 } }

/-- Flags of a frame that start afresh. -/
def freshFrame (s : State) : State :=
  { s with
    layers := vall s.layers fun l => { l with overwritten := false }
    pack := { s.pack with refusedThisFrame := false }
    frame := { s.frame with lateReported := false, slot := 0 }
    adc := { s.adc with dropReported := false } }

/-- The reference fault stands while its record does (R341). -/
def referenceTicket (s : State) : State :=
  { s with adc := { s.adc with refFault := s.adc.refFault && s.raised 0x60 0x23 2 } }

/-- Tiles that received RUN before this ticket close light from here (R402). -/
def lightTicket (s : State) : State :=
  forAll (fun (n : Fin 2) t => t.modLink n fun l => { l with lit := l.running }) s

/-- BOOT_STAGE: the milestones that the ticket close finds reached (log entry 30). -/
def bootStage (s : State) : State :=
  let up (f : Fin 2 → Bool) : Bool := (List.finRange 2).all fun n => !(s.link n).isUp || f n
  let packed := zoneSetActive s && s.pack.activeId != 0
  let stage : Byte :=
    if s.clocks.bootStage = 0x0F then 0x0F
    else if s.safety.serviceSeen then 0x0A
    else if up fun n => (s.bank (calPair n)).activeBank.isSome then 9
    else if up fun n => (s.tileDiag n).scanned then 8
    else if packed then 7 else 6
  { s with clocks := { s.clocks with
      bootStage := if s.clocks.bootStage ≤ stage then stage else s.clocks.bootStage } }

/-- Step 1 of a power-state entry acknowledges: band renders stop (R354). -/
def handshakeTicket (s : State) : State :=
  if s.power.target.isSome && s.power.step == 1 then
    { s with
      frame := { s.frame with rendering := false }
      power := { s.power with step := 2, stopped := s.power.stopped ++ [1] } }
  else s

/-- A ticket close, on its edge: every command before it has come before that edge (R11). -/
def ticketClose (s : State) : State :=
  if !s.frame.running then s
  else
    let load := s.frame.jumped || s.frame.nextNumber.isSome || s.frame.fresh
    let s0 := if s.frame.fresh then acceptHeld (openFrame s) else openFrame s
    let s1 := stampFrame (correctPhase (latchAlign s0))
    let s2 := referenceTicket (faultTicket (freshFrame s1))
    let s3 := afterSwaps s2.swapping (swapBanks s2)
    let s4 := stampTicket (latchSettings (levelTicket s3))
    let s5 := lightTicket (forAll governorTicket s4)
    let s6 := guardTicket (selectTicket s5)
    let s7 := twinTicket (schedTicket (stileTicket load s6))
    let s8 := engageSpares (handshakeTicket (bootStage (thaw s7)))
    { s8 with warp := { s8.warp with status := Vector.ofFn fun n => s8.warpStatus n } }

end Sys2Proof.Machine
end

