-- ==== Sys2Proof/Machine/Dictionary.lean ====
section
/-!
DEFINITION. Machine/Dictionary.lean: the object dictionary (chapter 14): types, access codes, flags and defaults of every
object, and the value that a read of it returns.
-/
namespace Sys2Proof.Machine

/-! ### types and access (Tables 0-4, 14-1, 14-3) -/

/-- Access codes (Table 0-4). -/
inductive Acc where
  | ro | rw | wo | rwp | rwl
  deriving DecidableEq, Repr, Inhabited

def Acc.code : Acc → Byte
  | .ro => 1 | .rw => 2 | .wo => 3 | .rwp => 4 | .rwl => 5

/-- Object types (Table 14-1); a DOMAIN with its largest size. -/
inductive Ty where
  | bool | u8 | u16 | u32 | u64 | i8 | i16 | i32
  | str (n : Nat)
  | domain (max : Nat)
  deriving DecidableEq, Repr, Inhabited

def Ty.code : Ty → Byte
  | .bool => 1 | .u8 => 2 | .u16 => 3 | .u32 => 4 | .u64 => 5 | .i8 => 6 | .i16 => 7 | .i32 => 8
  | .str _ => 9 | .domain _ => 10

/-- Size in bytes; for a DOMAIN, its largest size. -/
def Ty.size : Ty → Nat
  | .bool | .u8 | .i8 => 1
  | .u16 | .i16 => 2
  | .u32 | .i32 => 4
  | .u64 => 8
  | .str n => n
  | .domain n => n

def Ty.isDomain : Ty → Bool
  | .domain _ => true
  | _ => false

/-- An object: type, access, FLAGS of Table 14-3 and default. -/
structure Obj where
  ty : Ty
  acc : Acc
  flags : Nat := 0
  dflt : Nat := 0
  deriving DecidableEq, Repr, Inhabited

def ro (t : Ty) (d : Nat := 0) : Obj := ⟨t, .ro, 0, d⟩
def wo (t : Ty) : Obj := ⟨t, .wo, 0, 0⟩
def rw (t : Ty) (d : Nat := 0) : Obj := ⟨t, .rw, 0, d⟩
def rwl (t : Ty) (d : Nat := 0) : Obj := ⟨t, .rwl, 0, d⟩
/-- An RWP object is persisted with each write (R308). -/
def rwp (t : Ty) (d : Nat := 0) : Obj := ⟨t, .rwp, 2, d⟩
/-- FLAGS: [0] STORED, [2] TICKET, [3] RESET, [4] LONG. -/
def Obj.flag (o : Obj) (f : Nat) : Obj := { o with flags := o.flags + f }
def Obj.stored (o : Obj) : Bool := o.flags % 2 == 1

/-- One index, or a family of indices (R304), with the objects at subindices 1 upward. -/
structure Row where
  index : Nat
  objs : List Obj
  members : Nat := 1
  stride : Nat := 1
  deriving DecidableEq, Repr, Inhabited

/-! ### the maps (Tables 14-7 to 14-13) -/

def rowsIdentity : List Row := [
  { index := 0x0100, objs := [ro (.str 16), ro (.str 16), ro (.str 24), ro .u8 0x41, ro .u64, ro .u32, ro (.str 16)] },
  { index := 0x0101, objs := [ro .u32, ro .u32, ro .u8, ro .u32] },
  { index := 0x0102, objs := [ro .u16 1, ro .u16] },
  { index := 0x0110, objs := [rw .u32 0x00010001, ro (.domain 16)] }]

def rowsNet : List Row := [
  { index := 0x1000, objs := [(rwp .u16 1).flag 8, ro .u16 1] },
  { index := 0x1010, objs := [(rwl .u8).flag 1, (rwl .u8 1).flag 1, ro .u32, ro .u32, ro .u32, ro .u32] },
  { index := 0x1020, objs := [(rwl .bool 1).flag 1, (rwl .u8 1).flag 1, (rwl .u8 8).flag 1, ro .u64, ro .u32, ro .u32,
      ro .u32, ro .u32, ro .u32] },
  { index := 0x1030, objs := [(rw .u16 100).flag 1, ro .u32, ro .u32, ro .u32, (rw .u8 0x54).flag 1,
      (rw .u8 0x54).flag 1, (rw .u8 0x7E).flag 1, ro .u32, ro .u32, (rw .u8 2).flag 1] },
  { index := 0x1040, objs := [rwp .u8 255, rwp .i8 0xFD, (rw .u16 500).flag 1, ro .u64, ro .i32, ro .u64] }]

def rowsLayers : List Row := [
  { index := 0x2000, objs := [ro .u8, ro .u8, ro .u8, rwp .u8] },
  { index := 0x2010, objs := [wo .u32, ro .u32] },
  { index := 0x2020, objs := [ro .u32] },
  { index := 0x2030, objs := [(rwl .u8).flag 5] },
  { index := 0x2031, objs := List.replicate 6 (ro .u32) },
  { index := 0x2100, objs := [rw .u32 0xFF, rw .u32, rw .u32, rw .u16, rw .u16, rw .u32, rw .u32], members := 8,
    stride := 16 },
  { index := 0x2101, objs := [rw .i32, rw .i32, rw .u16 4096, rw .u16 4096], members := 8, stride := 16 },
  { index := 0x2102, objs := [wo .u32, ro .u32, ro .u32, ro .u32, ro .u32, ro .u32], members := 8, stride := 16 },
  { index := 0x2103, objs := [ro .u32, ro .u32, ro .u32, ro .u16, ro .u32], members := 8, stride := 16 },
  { index := 0x2108, objs := [ro .u32 0xFF, ro .u32, ro .u32, ro .u16, ro .u16, ro .u32, ro .u32], members := 8,
    stride := 16 },
  { index := 0x2109, objs := [ro .i32, ro .i32, ro .u16 4096, ro .u16 4096], members := 8, stride := 16 }]

def rowsWarp : List Row := [
  { index := 0x3000, objs := List.replicate 4 ((rwl .i16).flag 5) },
  { index := 0x3002, objs := [ro .u32, ro .u32] },
  { index := 0x3003, objs := [ro .u32, ro .u32] },
  { index := 0x3004, objs := [ro .u16, ro .u16] },
  { index := 0x3010, objs := [rw .i16, ro .i16, (rw .u16).flag 1, rwp .u16, rwp .i16 512, ro .u32, ro .u16 65535] },
  { index := 0x3020, objs := [ro .u32 0xA0000000, ro .u16, ro .u16 65535, ro .u32, ro .u32, ro .u32, ro .u32] },
  { index := 0x3021, objs := [rwp .u16 100, rwp .u16 100, rwp .u16 655, rwp .u16 20, (rwl .u8).flag 5] }]

def rowsPacks : List Row := [
  { index := 0x3800, objs := [(wo .u32).flag 16, ro .u32 0x00FF0000, ro .u32, ro .u32, ro .u16, rwp .bool 1,
      (rw .u16 60).flag 1] },
  { index := 0x3810, objs := [wo .u32, ro .u32, rw (.domain 32), ro .u32, ro .u32, ro .u32], members := 8 },
  { index := 0x3820, objs := [(rw .u16 240).flag 1] },
  { index := 0x3830, objs := [wo .u32, wo .bool, ro .u32, ro .u8] },
  { index := 0x3840, objs := [ro .u32] }]

def rowsFrame : List Row := [
  { index := 0x4000, objs := [(rwl .u8 40).flag 5, ro .u32 4166667, ro .u32, ro .u64, ro .u64] },
  { index := 0x4001, objs := [(rwl .u8).flag 5, (rwl .u64).flag 5, (rwl .bool).flag 1, (rw .u16).flag 1,
      (rw .u16 2000).flag 1, (rw .u16 1000).flag 1, ro .i32, ro .u32, ro .u32, ro .u32, ro .u32] },
  { index := 0x4002, objs := [(rw .u8 3).flag 1] },
  { index := 0x4003, objs := List.replicate 8 (ro .u32) },
  { index := 0x4004, objs := List.replicate 8 (ro .u64) }]

def rowsLinks : List Row := [
  { index := 0x4800, objs := [rw .u32, ro .u32, ro .u32, ro .u32, ro .u32, ro .u32] },
  { index := 0x4801, objs := List.replicate 4 (ro .u32) },
  { index := 0x4810, objs := [rw .u32, rw .u32, ro .u32, ro .u32, ro .u32], members := 16 },
  { index := 0x4840, objs := [rw .u32, ro .u32 0x000A0000, rwp .u16 1000, (rw .u8 3).flag 1, ro .u32, ro .u32, ro .u32,
      ro .u32], members := 2, stride := 8 },
  { index := 0x4850, objs := [ro .u8 0xFF, ro .u64, ro (.domain 32), ro (.domain 4096)], members := 2 },
  { index := 0x4860, objs := [rw .u32, ro .u32, ro .u8] }]

def rowsDiag : List Row := [
  { index := 0x5000, objs := [rwp .u8 64, rwp .u8 64, (rw .u16 1000).flag 1, (rw .u16 60).flag 1, (rw .u16 50).flag 1,
      rwp .u8 6, (rw .u16 0x200).flag 1, rwp .u16 262, rwp .u16 164, rwp .u32 4000] },
  { index := 0x5010, objs := [wo .u32, ro .u32, ro .u32, ro .u32, ro .u32, ro .u32, ro .u32, ro .u32, ro .u32, ro .u16,
      ro .u16, ro .u32, ro .i16], members := 2 },
  { index := 0x5020, objs := [(rwl .u16 2000).flag 1, (rwl .i16).flag 1, (rwl .u16 1000).flag 1, rwp .u32 150000,
      rwp .u16 0x1000, ro .u32, ro .i32, ro .i32, ro .u32, ro .u32, ro .u32, ro .u16 0x8000, ro .u32, ro .u32,
      ro .u32], members := 2 },
  { index := 0x5030, objs := [ro .i16 0x8000, ro .i16 0x8000, ro .u32, ro (.domain 32), ro .i16 0x8000],
    members := 2 }]

def rowsGuard : List Row := [
  { index := 0x5800, objs := [ro .u32, ro .u32, ro .u32, ro .u32, ro .u16 0x8000, ro .u16 0x8000, rwp .u16 0xE000,
      ro .u16] },
  { index := 0x5810, objs := List.replicate 32 (ro .u64) },
  { index := 0x5811, objs := List.replicate 32 (ro .u64) },
  { index := 0x5840, objs := [ro .u32, ro .u32, rwp .u16 8, ro .u32] },
  { index := 0x5841, objs := List.replicate 32 (ro .u32) },
  { index := 0x5842, objs := List.replicate 32 (ro .u32) },
  { index := 0x5843, objs := List.replicate 4 (ro .u32) },
  { index := 0x5880, objs := [ro .u32, ro .u32, ro .u64, ro .u64, rwp .u16 1000] },
  { index := 0x5881, objs := List.replicate 32 (ro .u32) }]

def rowsSafety : List Row := [
  { index := 0x6000, objs := [ro .u8 1, ro .u8, wo .u8, ro .u8, rw .u8] },
  { index := 0x6010, objs := [(rwp .u8).flag 4, rwp .u16 4000, rwp .u16 50, ro .u32, ro .u32, ro .u32, ro .u32,
      ro .u32] },
  { index := 0x6020, objs := [wo (.domain 32), wo .bool, ⟨.domain 32, .rwp, 0, 0⟩, ro .u32, rwp .u16 300, ro .u32] },
  { index := 0x6030, objs := [ro .u32, rw .u32, ro (.domain 32)] },
  { index := 0x6040, objs := [ro .u32, ro .u32] }]

def rowsFaults : List Row := [
  { index := 0x6800, objs := [ro .u32, ro .u32, rw .u8, ro (.domain 16), wo .u16, wo .u16, ro .u16] },
  { index := 0x6810, objs := [(rw .u8 8).flag 1, rwp .u8 2, rwp .u8 3, rwp .u8 2, (rw .u16 16).flag 1] },
  { index := 0x6820, objs := [ro .u32, rw .u32, ro (.domain 48), ro .u16] },
  { index := 0x6830, objs := [ro .u16 0xFFFF, ro .u32, ro .u32] }]

def rowsDma : List Row := [
  { index := 0x7000, objs := [ro .u32, ro .u32] },
  { index := 0x7010, objs := [wo .u32, rw .u32, ro .u32, ro .u32, ro .u32, ro .u32, ro .u32], members := 8 },
  { index := 0x7400, objs := [ro .u32] },
  { index := 0x7410, objs := [wo .u32, rw .u32 3, rw .u32, rw .u32, wo (.domain 4096), ro .u64, rw .u64, ro .u32,
      ro .u32, rw .u64 0x1EDC6F41, rw .u64 0xFFFFFFFF, rw .u64 0xFFFFFFFF, rw .u16 0x0320, ro .u32, ro .u32],
    members := 8 }]

def rowsAdc : List Row := [
  { index := 0x7800, objs := [ro .u32, ro .u16, ro .u32] },
  { index := 0x7810, objs := [rw .u8 4, rw .u16 0x1400, rw .u16 0x1500, rw .u16 0x1600, rw .u16 0x1700]
      ++ List.replicate 12 (rw .u16) },
  { index := 0x7820, objs := [rwl .u32 0x302, rwl .u16 0x0001, rwl .u16 0x0101, rwl .u16 0x0201, rwl .u16 0x0301, ro .u32,
      ro .u32, ro .u32, ro .u32, ro .u32, ro .u32] },
  { index := 0x7830, objs := List.replicate 24 (ro .u16) },
  { index := 0x7840, objs := [rw .u32 0x100, rw .u32 0x0FFF0000, ro .u32, ro .u32], members := 8 },
  { index := 0x7880, objs := [rwl .u32, ro .u32] },
  { index := 0x7C00, objs := [ro .i16, ro .i16, ro .i16 0x8000, ro .u32, ro .u32] },
  { index := 0x7C10, objs := [rwp .u16 0x4000, ro .u32, ro .u32] },
  { index := 0x7C20, objs := [ro .u8, ro .u16, ro .u32, rw .u32, ro (.domain 32)] }]

def rowsPower : List Row := [
  { index := 0x8000, objs := [wo .u8, ro .u32 0x00FF00F0, ro .u32] },
  { index := 0x8010, objs := [ro .u32 0x00FFFFFF] },
  { index := 0x8020, objs := List.replicate 4 (ro .u16) ++ List.replicate 4 (ro .u16 0xFFFF) ++ List.replicate 8 (ro .u32)
      ++ [rwp .u16 1000, ro .u32] },
  { index := 0x8030, objs := [rwl .u16 100, rwl .u8 2, ro .u32] },
  { index := 0x8040, objs := [rwl .u8 0x7F, rwl .u32, wo .bool] },
  { index := 0x8050, objs := [ro .u32, ro .u32] },
  { index := 0x8060, objs := [rwl .u8, rwl .u8, ro .u32, ro .u32, ro .u32] }]

def rowsClocks : List Row := [
  { index := 0x8800, objs := [(rwl .u8).flag 16, ro .u32, ro .u32] },
  { index := 0x8810, objs := [rw .u32, (wo .bool).flag 16, ro .u32] },
  { index := 0x8820, objs := List.replicate 13 (ro .u32) },
  { index := 0x8830, objs := [wo .u32, ro .u8] ++ List.replicate 8 (ro .u32) ++ [rwp .u16 100] },
  { index := 0x8840, objs := [ro .u8, ro .u32, ro .u32, rwp .u8] },
  { index := 0x8850, objs := [ro .u32, ro .u32, ro .u32, ro .u32, rwp .u32, ro .u32] },
  { index := 0x8860, objs := [ro .u32, ro .u32, ro (.domain 64)] }]

/-- Every index in use. -/
def dictRows : List Row :=
  rowsIdentity ++ rowsNet ++ rowsLayers ++ rowsWarp ++ rowsPacks ++ rowsFrame ++ rowsLinks ++ rowsDiag ++ rowsGuard
    ++ rowsSafety ++ rowsFaults ++ rowsDma ++ rowsAdc ++ rowsPower ++ rowsClocks

/-- OBJECT_COUNT (0x0102.02). -/
def objectCount : Nat := (dictRows.map fun r => r.members * r.objs.length).sum

/-- The member of a row that an index names. -/
def Row.member (r : Row) (index : Nat) : Option Nat :=
  let d := index - r.index
  if r.index ≤ index ∧ d % r.stride = 0 ∧ d / r.stride < r.members then some (d / r.stride) else none

/-- The row of an index, and its member. -/
def rowOf (index : Nat) : Option (Row × Nat) :=
  (dictRows.find? fun r => (r.member index).isSome).bind fun r => (r.member index).map fun m => (r, m)

/-- An index is served (R302, R384): while the boot ROM runs, three ranges alone. -/
def State.indexServed (s : State) (index : Nat) : Bool :=
  (rowOf index).isSome && (!s.net.romOnly || decide (index < 0x1000)
    || (decide (0x6000 ≤ index) && decide (index < 0x6800)) || decide (0x8800 ≤ index))

/-- The object at an index and subindex; subindex 0 is an RO U8 (R302). -/
def objOf (index sub : Nat) : Option Obj :=
  (rowOf index).bind fun r => if sub = 0 then some (ro .u8 r.1.objs.length) else r.1.objs[sub - 1]?

/-- DESC of an index and subindex (Table 14-3, R307). -/
def descBytes (index sub : Nat) : List Byte :=
  match objOf index sub with
  | none => List.replicate 16 0
  | some o =>
    [o.ty.code, o.acc.code, BitVec.ofNat 8 o.flags, 0] ++ leBytes 2 o.ty.size ++ [0, 0] ++ leBytes 8 o.dflt

/-! ### values -/

def flagByte (b : Bool) : List Byte := [byteOfBool b]

def vendorName : List Byte := padTo 16 [0x43, 0x68, 0x6F, 0x7A, 0x69, 0x74, 0x61, 0x6C]
def deviceName : List Byte := padTo 16 [0x48, 0x4C, 0x4B, 0x32, 0x34, 0x31, 0x36]
def orderingCode : List Byte :=
  padTo 24 [0x48, 0x4C, 0x4B, 0x32, 0x34, 0x31, 0x36, 0x2D, 0x46, 0x42, 0x34, 0x38, 0x34, 0x2D, 0x41, 0x32]

def fin2 (m : Nat) : Fin 2 := ⟨m % 2, Nat.mod_lt _ (by decide)⟩
def fin4 (m : Nat) : Fin 4 := ⟨m % 4, Nat.mod_lt _ (by decide)⟩
def fin8 (m : Nat) : Fin 8 := ⟨m % 8, Nat.mod_lt _ (by decide)⟩
def fin16 (m : Nat) : Fin 16 := ⟨m % 16, Nat.mod_lt _ (by decide)⟩

/-- An entry of a ring by its sequence number, the newest first in the list; no bytes where it is not held. -/
def ringEntry (entries : List (List Byte)) (count index : U32) : List Byte :=
  if index.toNat < count.toNat then entries.getD (count.toNat - 1 - index.toNat) [] else []

/-- T1S_STATUS (Table 14-4). -/
def State.t1sStatus (s : State) : U32 :=
  BitVec.ofNat 32 (natOfBool (!s.net.plcaEnable) * 8
    + natOfBool (s.net.plcaEnable && s.net.plcaId == 0) * 4) ||| (s.net.t1sStatus &&& 3)

/-- Seconds of lockout remaining, rounded up (Table 11-14). -/
def State.lockoutLeft (s : State) : Nat :=
  match s.access.lockoutFrom with
  | none => 0
  | some e => (cyclesS 60 - (s.clock - e) + (cyclesS 1 - 1)) / cyclesS 1

/-- UNLOCK_STATUS (Table 11-14). -/
def State.unlockStatus (s : State) : U32 :=
  let h : Nat × Nat := match s.access.holder with
    | none => (0, 0)
    | some q => (q.2.toNat, (carrierCode q.1).toNat)
  BitVec.ofNat 32 (h.1 * 2 ^ 22 + min s.lockoutLeft 63 * 2 ^ 16 + s.access.fails.toNat * 2 ^ 12 + h.2 * 4
    + natOfBool (s.access.hash != []) * 2 + natOfBool s.access.holder.isSome)

/-- ALIGN_STATUS (Table 7-8). -/
def State.alignStatus (s : State) : U32 :=
  BitVec.ofNat 32 (natOfBool s.frame.slewing * 8 + natOfBool s.frame.fsyncShown * 4 + natOfBool s.frame.tbLockedSeen * 2
    + natOfBool s.frame.aligned)

/-- SVH_STATUS (0x4800.02). -/
def State.svhStatus (s : State) : U32 :=
  BitVec.ofNat 32 (natOfBool s.svh.linkUp * 256 + s.svh.rxPs.toNat * 64 + s.svh.txPs.toNat * 16 + s.svh.lanesLocked.toNat)

/-- WIN_STATUS (0x4810.03). -/
def Window.status (w : Window) : U32 :=
  BitVec.ofNat 32 (w.seq.toNat * 2 ^ 16 + natOfBool w.error * 2 + natOfBool w.opened)

/-- NVM_STATUS (Table 14-6). -/
def State.nvmStatus (s : State) : U32 :=
  BitVec.ofNat 32 (s.cairn.skipIndex.toNat * 2 ^ 16 + s.cairn.skipped.toNat * 2 ^ 8 + natOfBool s.cairn.storeFailed * 4
    + natOfBool (s.cairn.snapshot == []) * 2 + natOfBool s.cairn.writing.isSome)

/-- POWER_STATUS (Table 17-9). -/
def State.powerStatus (s : State) : U32 :=
  let p := s.power
  let target := (p.target.map fun t => t.code.toNat).getD 15
  BitVec.ofNat 32 (p.lastRefusal.toNat * 2 ^ 24 + p.refusingDomain.toNat * 2 ^ 20 + p.lastWake.toNat * 2 ^ 16
    + target * 16 + natOfBool p.rollingBack * 8 + natOfBool p.target.isSome * 4)

/-- States of the twelve domains in a power state (Table 17-1), domain 0 first. -/
def domainStates : PowerState → List Nat
  | .run => List.replicate 12 3
  | .idle => [3, 3, 3, 3, 3, 2, 2, 2, 3, 3, 3, 3]
  | .sleep => [3, 3, 1, 1, 2, 0, 1, 0, 0, 0, 0, 2]
  | .deep => [3, 3, 0, 0, 0, 0, 0, 0, 0, 0, 0, 0]
  | .dew => [3, 3, 0, 0, 0, 0, 0, 0, 0, 0, 0, 2]
  | .off => [3, 0, 0, 0, 0, 0, 0, 0, 0, 0, 0, 0]

/-- DOMAIN_STATUS (0x8010.01). -/
def State.domainStatus (s : State) : U32 :=
  BitVec.ofNat 32 ((domainStates s.safety.power).foldr (fun d acc => d + 4 * acc) 0)

/-- Bits of a list of flags, bit 0 first. -/
def bitsOf (l : List Bool) : Nat := l.foldr (fun b acc => natOfBool b + 2 * acc) 0

/-- SUPPLY_STATUS (0x8020.12). -/
def State.supplyStatus (s : State) : U32 :=
  let l := s.power.supplies.toList
  BitVec.ofNat 32 (s.power.freezeLeft.toNat * 2 ^ 16 + natOfBool s.power.frozen * 2 ^ 15 + bitsOf (l.map Supply.long) * 256
    + bitsOf (l.map Supply.warn) * 16 + bitsOf (l.map Supply.seen))

/-- RET_STATUS (0x8050.01). -/
def State.retStatus (s : State) : U32 :=
  BitVec.ofNat 32 (natOfBool s.power.retSaved * 256 + s.power.retFail.toNat * 16 + s.power.retPass.toNat)

/-- CALSET_STATUS (0x8810.03). -/
def State.calsetStatus (s : State) : U32 :=
  let m := s.mgmt
  BitVec.ofNat 32 (natOfBool m.calsetFailed * 8 + natOfBool m.calsetWriting * 4 + natOfBool m.calsetDigestOk * 2
    + natOfBool m.calsetValid)

/-- CLK_STATUS (0x8820.01). -/
def State.clkStatus (s : State) : U32 :=
  BitVec.ofNat 32 (natOfBool s.clocks.pllLocked * 2 ^ 31 + natOfBool s.clocks.lprcSuspect * 2 ^ 30 + s.clocks.fail.toNat)

/-- The record at FAULT_SEL (0x6800.04). -/
def State.faultRecord (s : State) : List Byte :=
  match s.faults.queue[s.faults.sel.toNat]? with
  | some r => recordBytes s r
  | none => zeros 16

def LayerConfig.bytes0 (c : LayerConfig) : List (List Byte) :=
  [bytes32 c.cfg, bytes32 c.bufAddr, bytes32 c.stride, bytes16 c.width, bytes16 c.height, bytes32 c.paletteAddr,
   bytes32 c.fill]
def LayerConfig.bytes1 (c : LayerConfig) : List (List Byte) :=
  [bytes32 c.placeU, bytes32 c.placeV, bytes16 c.stepU, bytes16 c.stepV]

def State.valuesLow (s : State) (c : Carrier) (base : Nat) : List (List Byte) :=
  let p := s.port c
  match base with
  | 0x0100 => [vendorName, deviceName, orderingCode, [0x41], bytes64 s.cairn.serial, bytes32 s.cairn.mfgDate,
      s.cairn.mfgLot]
  | 0x0101 => [bytes32 s.clocks.gorseVersion, bytes32 s.clocks.gorseBuild, [s.clocks.gorseSlot],
      bytes32 s.clocks.romVersion]
  | 0x0102 => [leBytes 2 1, leBytes 2 objectCount]
  | 0x0110 => [bytes32 p.descSel, descBytes (fld p.descSel 8 16) (fld p.descSel 0 8)]
  | 0x1000 => [bytes16 s.net.nodeId, bytes16 s.net.nodeActive]
  | 0x1010 => [[s.net.canNomRate], [s.net.canDataRate], bytes32 s.net.canStatus, bytes32 s.net.can.rxOk,
      bytes32 s.net.can.txOk, bytes32 s.net.busOffCount]
  | 0x1020 => [flagByte s.net.plcaEnable, [s.net.plcaId], [s.net.plcaCount], bytes64 s.cairn.mac, bytes32 s.t1sStatus,
      bytes32 s.net.t1s.rxOk, bytes32 s.net.t1s.txOk, bytes32 s.net.fcsErr, bytes32 s.net.collisions]
  | 0x1030 => [bytes16 s.net.segTimeout, bytes32 s.net.can.dropped, bytes32 s.net.t1s.dropped, bytes32 s.net.svh.dropped,
      [s.net.can.eventMask], [s.net.t1s.eventMask], [s.net.svh.eventMask], bytes32 s.net.can.eventLost,
      bytes32 s.net.t1s.eventLost, [s.faults.alertClass]]
  | 0x1040 => [[s.tb.priority1], [s.tb.logSync], bytes16 s.tb.lockTol, bytes64 s.tbNow, bytes32 s.tb.offset,
      bytes64 s.tb.gmIdentity]
  | _ => []

def State.valuesLayers (s : State) (base m : Nat) : List (List Byte) :=
  let l := s.layer (fin8 m)
  let two (f : Current → U32) : List (List Byte) := [bytes32 (f (s.cur 0)), bytes32 (f (s.cur 1))]
  match base with
  | 0x2000 => [[maskOf fun n => decide (2 ≤ (s.layer n).slot)], [maskOf s.validBuf], [s.fencedMask], [s.essential]]
  | 0x2010 => [zeros 4, bytes32 s.groupStatus]
  | 0x2020 => [bytes32 s.ctabValid]
  | 0x2030 => [[s.frame.ditherMode]]
  | 0x2031 => two Current.clampCount ++ two Current.forcedZero ++ two Current.reservedFstate
  | 0x2100 => l.staging.bytes0
  | 0x2101 => l.staging.bytes1
  | 0x2102 => [zeros 4, bytes32 (s.commitStatus (fin8 m)), bytes32 l.frameOfEffect, bytes32 l.notReadyCount,
      bytes32 l.refusalCount, bytes32 l.leaseOverwriteCount]
  | 0x2103 => [bytes32 ((l.lease.map Lease.addr).getD 0), bytes32 ((l.lease.map Lease.first).getD 0), bytes32 l.releasedAddr,
      bytes16 l.releasedTag, bytes32 l.releasedLast]
  | 0x2108 => l.committed.bytes0
  | 0x2109 => l.committed.bytes1
  | _ => []

def State.valuesScene (s : State) (base m : Nat) : List (List Byte) :=
  let w := s.warp
  let b := s.bank (fin8 m)
  let warp (n : Fin 2) : List Byte :=
    bytes32 ((w.status[n] &&& 0xFFFF00FF) ||| (w.lastRefusal[n].setWidth 32 <<< 8))
  match base with
  | 0x3000 => [bytes16 w.aimAz[0], bytes16 w.aimEl[0], bytes16 w.aimAz[1], bytes16 w.aimEl[1]]
  | 0x3002 => [warp 0, warp 1]
  | 0x3003 => [bytes32 w.oocCount[0], bytes32 w.oocCount[1]]
  | 0x3004 => [bytes16 (if s.meshValid 0 then s.bandSpan 0 else 0), bytes16 (if s.meshValid 1 then s.bandSpan 1 else 0)]
  | 0x3010 => [bytes16 w.level, bytes16 w.levelApplied, bytes16 w.levelSlew, bytes16 w.levelTimeout,
      bytes16 w.levelStaleValue, bytes32 w.levelClampCount, bytes16 (s.age16 w.levelAt)]
  | 0x3020 => [bytes32 s.stamp.status, bytes16 s.stamp.lastSeq, bytes16 (s.age16 s.stamp.acceptedAt),
      bytes32 s.stamp.accepted, bytes32 s.stamp.dropped, bytes32 s.stamp.boxRejected, bytes32 s.stamp.staleCount]
  | 0x3021 => [bytes16 s.stamp.boxHold, bytes16 s.stamp.quickStale, bytes16 s.stamp.attenFloor,
      bytes16 s.stamp.extrapLimit, [s.stamp.boxFrame]]
  | 0x3800 => [zeros 4, bytes32 s.packStatus, bytes32 s.pack.activeId, bytes32 s.pack.loadedId,
      bytes16 s.pack.activeVersion, flagByte s.pack.signedOnly, bytes16 s.pack.activateTimeout]
  | 0x3810 => [zeros 4, bytes32 (s.bankStatus (fin8 m)), b.entry, bytes32 b.deferCount, bytes32 b.swapCount,
      bytes32 b.frameOfSwap]
  | 0x3820 => [bytes16 s.pack.deferLimit]
  | 0x3830 => [zeros 4, [0], bytes32 s.schedStatus, [s.sched.owned]]
  | 0x3840 => [bytes32 s.pack.tableWriteRefused]
  | _ => []

def State.valuesFrame (s : State) (base m : Nat) : List (List Byte) :=
  let f := s.frame
  let w := s.window (fin16 m)
  let l := s.link (fin2 m)
  match base with
  | 0x4000 => [[f.frameDiv], leBytes 4 ((2 * f.divUsed.toNat * 21250000 + 204) / 408), bytes32 f.number,
      bytes64 f.ticketTime, bytes64 f.firstLight]
  | 0x4001 => [[f.alignMode], bytes64 f.epoch, flagByte f.fsyncOut, bytes16 f.fsyncDelay, bytes16 f.phaseSlew,
      bytes16 f.alignTol, bytes32 f.phaseError, bytes32 s.alignStatus, bytes32 f.relockCount, bytes32 f.fsyncRejected,
      leBytes 4 (min (s.unlockedTotal / 800000) 0xFFFFFFFF)]
  | 0x4002 => [[f.underrunLimit]]
  | 0x4003 => s.layers.toList.map fun l => bytes32 l.underrunCount
  | 0x4004 => s.layers.toList.map fun l => bytes64 l.flipTime
  | 0x4800 => [bytes32 (s.svh.txPs.setWidth 32 <<< 8), bytes32 s.svhStatus, bytes32 s.svh.crcErr, bytes32 s.svh.frameErr,
      bytes32 s.svh.eventLost, bytes32 s.svh.retrainCount]
  | 0x4801 => s.svh.laneErr.toList.map bytes32
  | 0x4810 => [bytes32 w.base, bytes32 w.size, bytes32 w.status, bytes32 w.errCount, bytes32 w.eobCount]
  | 0x4840 => [bytes32 l.ctrl, bytes32 (s.sveStatus (fin2 m)), bytes16 l.lossTimeout, [l.trainAttempts], bytes32 l.retCrcErr,
      bytes32 l.retLaneErr, bytes32 l.fwdDropped, bytes32 l.retrainCount]
  | 0x4850 => [[l.kind], bytes64 l.serial, if l.descriptor = [] then zeros 32 else l.calDigest,
      if l.descriptor = [] then zeros 4096 else l.descriptor]
  | 0x4860 => [bytes32 s.safety.testCtrl, bytes32 s.safety.prbsErr, [s.safety.prbsLock]]
  | _ => []

def State.valuesDiag (s : State) (base m : Nat) : List (List Byte) :=
  let g := s.diagCfg
  let n := fin2 m
  let d := s.tileDiag n
  let c := s.cur n
  match base with
  | 0x5000 => [[g.compShare], [g.dimRetire], bytes16 g.scanPeriod, bytes16 g.agePeriod, bytes16 g.calTstep,
      [g.curFailLimit], bytes16 g.govRise, bytes16 g.tcoef, bytes16 g.ageK, bytes32 g.pmbusDefault]
  | 0x5010 => [zeros 4, bytes32 (s.fmapStatus n), bytes32 d.crc, bytes32 d.openCount, bytes32 d.shortCount,
      bytes32 d.stuckCount, bytes32 d.dimCount, bytes32 d.retiredCount, bytes32 d.diagBad, leBytes 2 d.stuck.length,
      bytes16 d.strayFenced, bytes32 (s.calStatus n), bytes16 d.calTemp]
  | 0x5020 => [bytes16 c.uaPerLsb, bytes16 c.offset, bytes16 c.tau, bytes32 c.tolAbs, bytes16 c.tolRel, bytes32 c.pred,
      bytes32 c.meas, bytes32 c.dev, bytes32 (s.curStatus n), bytes32 c.failCount, bytes32 c.hSum, bytes16 c.govScale,
      bytes32 c.budget, bytes32 c.pmbusLimit, bytes32 c.derateLimit]
  | 0x5030 => [bytes16 c.tempMax, bytes16 c.tempMean, bytes32 c.tempMissing, d.ageDvf.toList.flatMap bytes16,
      bytes16 d.ageBaseTemp]
  | _ => []

def State.valuesGuard (s : State) (base : Nat) : List (List Byte) :=
  let g := s.guard
  let t := s.stile
  match base with
  | 0x5800 => [bytes32 g.status, bytes32 g.capFail, bytes32 g.floorFail, bytes32 g.strayFail, bytes16 g.clampG[0],
      bytes16 g.clampG[1], bytes16 g.clampMargin, bytes16 g.shadowPass]
  | 0x5810 => g.zoneSum.toList.map bytes64
  | 0x5811 => g.straySum.toList.map bytes64
  | 0x5840 => [bytes32 s.stileStatus, bytes32 t.frame, bytes16 t.echoDeadline, bytes32 t.seqFaults]
  | 0x5841 => t.result.toList.map bytes32
  | 0x5842 => t.miss.toList.map bytes32
  | 0x5843 => [bytes32 t.echoMismatch[0], bytes32 t.echoMismatch[1], bytes32 t.echoLate[0], bytes32 t.echoLate[1]]
  | 0x5880 => [bytes32 s.hedgeStatus, bytes32 s.hedge.imageId, bytes64 s.hedge.crc64, bytes64 s.hedge.crc64Ref,
      bytes16 s.hedge.recheck]
  | 0x5881 => t.hMiss.toList.map bytes32
  | _ => []

def State.valuesSafety (s : State) (base : Nat) : List (List Byte) :=
  let w := s.twin
  let f := s.faults
  match base with
  | 0x6000 => [[s.safety.lamp.code], [s.safety.power.code], [0], [s.safety.demand.setWidth 8], [s.safety.testSource]]
  | 0x6010 => [[w.mode], bytes16 w.window, bytes16 w.timeout, bytes32 s.twinStatus, bytes32 w.confirmed,
      bytes32 w.unconfirmed, bytes32 w.mismatch, bytes32 w.dropped]
  | 0x6020 => [[], [0], [], bytes32 s.unlockStatus, bytes16 s.access.idle, bytes32 s.access.generation]
  | 0x6030 => [bytes32 s.access.logCount, bytes32 s.access.logIndex,
      ringEntry s.access.log s.access.logCount s.access.logIndex]
  | 0x6040 => [bytes32 s.safety.aliveMiss, bytes32 s.warp.residueErr]
  | 0x6800 => [bytes32 s.faultStatus, bytes32 f.lost, [f.sel], s.faultRecord, zeros 2, zeros 2, bytes16 f.nextSeq]
  | 0x6810 => [[f.heal], [f.returnFrames], [f.repeatLimit], [f.histClass], bytes16 f.ceLimit]
  | 0x6820 => [bytes32 f.histCount, bytes32 f.histIndex, ringEntry f.history f.histCount f.histIndex,
      bytes16 s.cairn.bootCount]
  | 0x6830 => [[f.spare[0], f.spare[1]], bytes32 f.ceCount, bytes32 f.ueCount]
  | _ => []

def State.valuesMgmt (s : State) (base m : Nat) : List (List Byte) :=
  let h := s.channel (fin8 m)
  let c := s.chk (fin8 m)
  match base with
  | 0x7000 => [bytes32 s.dmaStatus, bytes32 s.mgmt.badTotal]
  | 0x7010 => [zeros 4, bytes32 h.head, bytes32 h.status, bytes32 h.cur, bytes32 h.doneCount, bytes32 h.badCount,
      bytes32 h.chainCount]
  | 0x7400 => [bytes32 s.chkSummary]
  | 0x7410 => [zeros 4, bytes32 c.cfg, bytes32 c.addr, bytes32 c.len, [], bytes64 c.result, bytes64 c.expect,
      bytes32 (s.chkStatus (fin8 m)), bytes32 c.foldN, bytes64 c.poly, bytes64 c.init, bytes64 c.xorout, bytes16 c.param,
      bytes32 c.mismatchCount, bytes32 c.aliveErrCount]
  | _ => []

def State.valuesAnalog (s : State) (base m : Nat) : List (List Byte) :=
  let a := s.adc
  let w := a.wcmp[fin8 m]
  let t := s.tsens
  match base with
  | 0x7800 => [bytes32 s.adcStatus, bytes16 a.refCode, bytes32 a.roundCount]
  | 0x7810 => [a.regLen] :: a.regSlot.toList.map bytes16
  | 0x7820 => [bytes32 a.injCfg] ++ a.injSlot.toList.map bytes16 ++ a.injResult.toList.map bytes32
      ++ [bytes32 a.injDropped, bytes32 a.injAbort]
  | 0x7830 => a.result.toList.map bytes16
  | 0x7840 => [bytes32 w.cfg, bytes32 w.limits, bytes32 w.status, bytes32 w.alarmCount]
  | 0x7880 => [bytes32 a.dewCfg, leBytes 4 (natOfBool a.dewLast * 2 + natOfBool a.dewWoke)]
  | 0x7C00 => [bytes16 t.raw, bytes16 t.tj, bytes16 t.peak, bytes32 s.tsStatus, bytes32 t.brokenCount]
  | 0x7C10 => [bytes16 t.jdFloor, bytes32 t.jdLimit[0], bytes32 t.jdLimit[1]]
  | 0x7C20 => [[s.aon.restarts], bytes16 s.holdLeft, bytes32 t.recCount, bytes32 t.recIndex,
      ringEntry t.records t.recCount t.recIndex]
  | _ => []

def State.valuesPower (s : State) (base : Nat) : List (List Byte) :=
  let p := s.power
  let l := p.supplies.toList
  match base with
  | 0x8000 => [[0], bytes32 s.powerStatus, bytes32 p.wakeCount]
  | 0x8010 => [bytes32 s.domainStatus]
  | 0x8020 => l.map (fun x => bytes16 x.mv) ++ l.map (fun x => bytes16 x.sagMin) ++ l.map (fun x => bytes32 x.sagCount)
      ++ l.map (fun x => bytes32 x.sagLongest) ++ [bytes16 p.sagLimit, bytes32 s.supplyStatus]
  | 0x8030 => [bytes16 p.dewPeriod, [p.dewConfirm], bytes32 p.dewSamples]
  | 0x8040 => [[p.wakeEn], bytes32 p.wakeTimer, [0]]
  | 0x8050 => [bytes32 s.retStatus, bytes32 p.retFailCount]
  | 0x8060 => [[p.pmbAddr[0]], [p.pmbAddr[1]],
      bytes32 (BitVec.ofNat 32 (p.pmbStatus[0].toNat * 2 ^ 16 + p.pmbFails[0].toNat)),
      bytes32 (BitVec.ofNat 32 (p.pmbStatus[1].toNat * 2 ^ 16 + p.pmbFails[1].toNat)), bytes32 p.pmbErrCount]
  | _ => []

def State.valuesClocks (s : State) (base : Nat) : List (List Byte) :=
  let k := s.clocks
  let c := s.cairn
  match base with
  | 0x8800 => [[0], bytes32 s.nvmStatus, bytes32 c.storeCount]
  | 0x8810 => [bytes32 s.mgmt.calsetSrc, [0], bytes32 s.calsetStatus]
  | 0x8820 => [bytes32 s.clkStatus] ++ k.count.toList.map bytes32 ++ [bytes32 k.findings]
  | 0x8830 => [zeros 4, [k.lastReset]] ++ c.resetCount.toList.map bytes32 ++ [bytes16 k.wdtTimeout]
  | 0x8840 => [[k.bootStage], bytes32 k.bootHedgerow, bytes32 k.bootService, [k.bootPackSlot]]
  | 0x8850 => [bytes32 k.flashSize, bytes32 k.jedecId, bytes32 k.slotVer[0], bytes32 k.slotVer[1], bytes32 k.minVersion,
      bytes32 k.flashErr]
  | 0x8860 => [leBytes 4 (natOfBool c.writeFailed * 2 + natOfBool c.mfgLocked), bytes32 c.writeErr, c.packKey]
  | _ => []

/-- The values of the objects at an index, given by its family's base and the member, in the order of the subindices. -/
def State.objectValues (s : State) (c : Carrier) (base m : Nat) : List (List Byte) :=
  if base < 0x2000 then s.valuesLow c base
  else if base < 0x3000 then s.valuesLayers base m
  else if base < 0x4000 then s.valuesScene base m
  else if base < 0x5000 then s.valuesFrame base m
  else if base < 0x5800 then s.valuesDiag base m
  else if base < 0x6000 then s.valuesGuard base
  else if base < 0x7000 then s.valuesSafety base
  else if base < 0x7800 then s.valuesMgmt base m
  else if base < 0x8000 then s.valuesAnalog base m
  else if base < 0x8800 then s.valuesPower base
  else s.valuesClocks base

/-- The value of the object at an index and subindex as carrier `c` reads it. -/
def State.objectValue (s : State) (c : Carrier) (index sub : Nat) : List Byte :=
  match rowOf index with
  | none => []
  | some r =>
    if sub = 0 then [BitVec.ofNat 8 r.1.objs.length]
    else (s.objectValues c r.1.index r.2).getD (sub - 1) []

end Sys2Proof.Machine
end

