-- ==== Sys2Proof/Machine/Params.lean ====
section
/-!
DEFINITION. Machine/Params.lean: what a write of a parameter object does, with the range its block gives. The same function
serves a host write, the load of persisted values (R310) and the retention restore (R360). None means that the value lies
outside the object's range or codes.
-/
namespace Sys2Proof.Machine

/-- A value within its range is taken. -/
def within (lo hi v : Nat) (s : State) : Option State := if lo ≤ v ∧ v ≤ hi then some s else none
def withinInt (lo hi v : Int) (s : State) : Option State := if lo ≤ v ∧ v ≤ hi then some s else none

/-- A word's value at a width. -/
def w8 (v : Nat) : Byte := BitVec.ofNat 8 v
def w16 (v : Nat) : U16 := BitVec.ofNat 16 v
def w32 (v : Nat) : U32 := BitVec.ofNat 32 v
def w64 (v : Nat) : U64 := BitVec.ofNat 64 v

def State.modNet (s : State) (f : Net → Net) : State := { s with net := f s.net }
def State.modFrame (s : State) (f : Frame → Frame) : State := { s with frame := f s.frame }
def State.modStamp (s : State) (f : Stamp → Stamp) : State := { s with stamp := f s.stamp }
def State.modWarp (s : State) (f : Warp → Warp) : State := { s with warp := f s.warp }
def State.modPack (s : State) (f : Pack → Pack) : State := { s with pack := f s.pack }
def State.modCfg (s : State) (f : DiagCfg → DiagCfg) : State := { s with diagCfg := f s.diagCfg }
def State.modTwin (s : State) (f : Twin → Twin) : State := { s with twin := f s.twin }
def State.modFaults (s : State) (f : Faults → Faults) : State := { s with faults := f s.faults }
def State.modAdc (s : State) (f : Adc → Adc) : State := { s with adc := f s.adc }
def State.modPower (s : State) (f : Power → Power) : State := { s with power := f s.power }
def State.modClocks (s : State) (f : Clocks → Clocks) : State := { s with clocks := f s.clocks }
def State.modAccess (s : State) (f : Access → Access) : State := { s with access := f s.access }
def State.modTb (s : State) (f : TimeBase → TimeBase) : State := { s with tb := f s.tb }
def State.modCairn (s : State) (f : Cairn → Cairn) : State := { s with cairn := f s.cairn }

/-- EVENT_MASK of a network carrier and of Svarn-H (0x1030.05 to .07). -/
def maskOk (net : Bool) (v : Nat) : Bool :=
  !(v.testBit 0) && !(v.testBit 7) && !(net && (v.testBit 3 || v.testBit 5))

def paramNet (base sub v : Nat) (s : State) : Option State :=
  match base, sub with
  | 0x1000, 1 => within 1 1023 v (s.modNet fun n => { n with nodeId := w16 v })
  | 0x1010, 1 => within 0 1 v (s.modNet fun n => { n with canNomRate := w8 v })
  | 0x1010, 2 =>
    if v ≤ 3 ∨ v = 0xFF then some (s.modNet fun n => { n with canDataRate := w8 v }) else none
  | 0x1020, 1 => within 0 1 v (s.modNet fun n => { n with plcaEnable := v == 1 })
  | 0x1020, 2 => within 0 254 v (s.modNet fun n => { n with plcaId := w8 v })
  | 0x1020, 3 => within 1 255 v (s.modNet fun n => { n with plcaCount := w8 v })
  | 0x1030, 1 => within 10 1000 v (s.modNet fun n => { n with segTimeout := w16 v })
  | 0x1030, 5 => if maskOk true v then some (s.modPort .can fun p => { p with eventMask := w8 v }) else none
  | 0x1030, 6 => if maskOk true v then some (s.modPort .t1s fun p => { p with eventMask := w8 v }) else none
  | 0x1030, 7 => if maskOk false v then some (s.modPort .svh fun p => { p with eventMask := w8 v }) else none
  | 0x1030, 10 => within 1 4 v (s.modFaults fun f => { f with alertClass := w8 v })
  | 0x1040, 1 => some (setPriority1 (w8 v) s)
  | 0x1040, 2 => withinInt (-5) 0 (w8 v).toInt (s.modTb fun t => { t with logSync := w8 v })
  | 0x1040, 3 => within 50 10000 v (s.modTb fun t => { t with lockTol := w16 v })
  | _, _ => some s

/-- A staging object of a layer: a write sets EDITED (R54). Reserved bits read as 0 (R10). -/
def stage (n : Fin 8) (f : LayerConfig → LayerConfig) (s : State) : Option State :=
  some (s.modLayer n fun l => { l with staging := (f l.staging).unreserved, edited := true })

def paramLayers (base m sub v : Nat) (s : State) : Option State :=
  let n := fin8 m
  match base, sub with
  | 0x2000, 4 => some { s with essential := w8 v }
  | 0x2030, 1 => within 0 2 v (s.modFrame fun f => { f with ditherMode := w8 v })
  | 0x2100, 1 => stage n (fun c => { c with cfg := w32 v }) s
  | 0x2100, 2 => stage n (fun c => { c with bufAddr := w32 v }) s
  | 0x2100, 3 => stage n (fun c => { c with stride := w32 v }) s
  | 0x2100, 4 => stage n (fun c => { c with width := w16 v }) s
  | 0x2100, 5 => stage n (fun c => { c with height := w16 v }) s
  | 0x2100, 6 => stage n (fun c => { c with paletteAddr := w32 v }) s
  | 0x2100, 7 => stage n (fun c => { c with fill := w32 v }) s
  | 0x2101, 1 => stage n (fun c => { c with placeU := w32 v }) s
  | 0x2101, 2 => stage n (fun c => { c with placeV := w32 v }) s
  | 0x2101, 3 => stage n (fun c => { c with stepU := w16 v }) s
  | 0x2101, 4 => stage n (fun c => { c with stepV := w16 v }) s
  | _, _ => some s

def paramWarp (base sub v : Nat) (s : State) : Option State :=
  let i : Int := (w16 v).toInt
  match base, sub with
  | 0x3000, 1 => withinInt (-2048) 2048 i (s.modWarp fun w => { w with aimAz := vput w.aimAz 0 (w16 v) })
  | 0x3000, 2 => withinInt (-2048) 2048 i (s.modWarp fun w => { w with aimEl := vput w.aimEl 0 (w16 v) })
  | 0x3000, 3 => withinInt (-2048) 2048 i (s.modWarp fun w => { w with aimAz := vput w.aimAz 1 (w16 v) })
  | 0x3000, 4 => withinInt (-2048) 2048 i (s.modWarp fun w => { w with aimEl := vput w.aimEl 1 (w16 v) })
  | 0x3010, 1 => withinInt (-4096) 4096 i (setLevel (w16 v) s)
  | 0x3010, 3 => some (s.modWarp fun w => { w with levelSlew := w16 v })
  | 0x3010, 4 => some (s.modWarp fun w => { w with levelTimeout := w16 v })
  | 0x3010, 5 => withinInt (-4096) 4096 i (s.modWarp fun w => { w with levelStaleValue := w16 v })
  | 0x3021, 1 => within 20 s.stamp.quickStale.toNat v (s.modStamp fun t => { t with boxHold := w16 v })
  | 0x3021, 2 => within (max 20 s.stamp.boxHold.toNat) 100 v (s.modStamp fun t => { t with quickStale := w16 v })
  | 0x3021, 3 => within 0 6553 v (s.modStamp fun t => { t with attenFloor := w16 v })
  | 0x3021, 4 => within 0 50 v (s.modStamp fun t => { t with extrapLimit := w16 v })
  | 0x3021, 5 => within 0 1 v (s.modStamp fun t => { t with boxFrame := w8 v })
  | _, _ => some s

def paramPacks (base m sub v : Nat) (b : List Byte) (s : State) : Option State :=
  match base, sub with
  | 0x3800, 6 => within 0 1 v (s.modPack fun p => { p with signedOnly := v == 1 })
  | 0x3800, 7 => within 1 1000 v (s.modPack fun p => { p with activateTimeout := w16 v })
  | 0x3810, 3 => some (s.modBank (fin8 m) fun p => { p with entry := b })
  | 0x3820, 1 => within 1 65535 v (s.modPack fun p => { p with deferLimit := w16 v })
  | _, _ => some s

def paramFrame (base sub v : Nat) (s : State) : Option State :=
  match base, sub with
  | 0x4000, 1 => within 24 80 v (s.modFrame fun f => { f with frameDiv := w8 v, divWrites := f.divWrites ++ [w8 v] })
  | 0x4001, 1 => within 0 2 v (s.modFrame fun f => { f with alignMode := w8 v })
  | 0x4001, 2 => some (s.modFrame fun f => { f with epoch := w64 v })
  | 0x4001, 3 => within 0 1 v (s.modFrame fun f => { f with fsyncOut := v == 1 })
  | 0x4001, 4 => within 0 5000 v (s.modFrame fun f => { f with fsyncDelay := w16 v })
  | 0x4001, 5 => within 0 2000 v (s.modFrame fun f => { f with phaseSlew := w16 v })
  | 0x4001, 6 => within 10 65535 v (s.modFrame fun f => { f with alignTol := w16 v })
  | 0x4002, 1 => within 1 255 v (s.modFrame fun f => { f with underrunLimit := w8 v })
  | _, _ => some s

/-- WIN_BASE and WIN_SIZE: multiples of 32, the range within field memory (R167). -/
def windowOk (base size : Nat) : Bool := base % 32 == 0 && size % 32 == 0 && decide (base + size ≤ fmSize)

def paramLinks (base m sub v : Nat) (s : State) : Option State :=
  let w := s.window (fin16 m)
  match base, sub with
  | 0x4810, 1 =>
    if windowOk v w.size.toNat then some (s.modWindow (fin16 m) fun x => { x with base := w32 v }) else none
  | 0x4810, 2 =>
    if windowOk w.base.toNat v then some (s.modWindow (fin16 m) fun x => { x with size := w32 v }) else none
  | 0x4840, 3 => within 200 1500 v (s.modLink (fin2 m) fun l => { l with lossTimeout := w16 v })
  | 0x4840, 4 => within 1 3 v (s.modLink (fin2 m) fun l => { l with trainAttempts := w8 v })
  | _, _ => some s

/-- A write of COMP_SHARE, DIM_RETIRE, TCOEF or AGE_K fires trigger 0x6 on both tiles (R200). -/
def retrigger (s : State) : State := trigger 1 6 (trigger 0 6 s)

def paramDiag (base m sub v : Nat) (s : State) : Option State :=
  let n := fin2 m
  match base, sub with
  | 0x5000, 1 => within 0 128 v (retrigger (s.modCfg fun g => { g with compShare := w8 v }))
  | 0x5000, 2 => within 64 112 v (retrigger (s.modCfg fun g => { g with dimRetire := w8 v }))
  | 0x5000, 3 => within 100 60000 v (s.modCfg fun g => { g with scanPeriod := w16 v })
  | 0x5000, 4 => within 10 3600 v (s.modCfg fun g => { g with agePeriod := w16 v })
  | 0x5000, 5 => within 10 200 v (s.modCfg fun g => { g with calTstep := w16 v })
  | 0x5000, 6 => within 2 6 v (s.modCfg fun g => { g with curFailLimit := w8 v })
  | 0x5000, 7 => within 1 0x8000 v (s.modCfg fun g => { g with govRise := w16 v })
  | 0x5000, 8 => some (retrigger (s.modCfg fun g => { g with tcoef := w16 v }))
  | 0x5000, 9 => some (retrigger (s.modCfg fun g => { g with ageK := w16 v }))
  | 0x5000, 10 => some (s.modCfg fun g => { g with pmbusDefault := w32 v })
  | 0x5020, 1 => some (s.modCur n fun c => { c with uaPerLsb := w16 v })
  | 0x5020, 2 => some (s.modCur n fun c => { c with offset := w16 v })
  | 0x5020, 3 => within 200 1000 v (s.modCur n fun c => { c with tau := w16 v })
  | 0x5020, 4 => some (s.modCur n fun c => { c with tolAbs := w32 v })
  | 0x5020, 5 => some (s.modCur n fun c => { c with tolRel := w16 v })
  | _, _ => some s

def paramGuard (base sub v : Nat) (s : State) : Option State :=
  match base, sub with
  | 0x5800, 7 => within 0x8000 0xFFFF v { s with guard := { s.guard with clampMargin := w16 v } }
  | 0x5840, 3 => within 6 20 v { s with stile := { s.stile with echoDeadline := w16 v } }
  | 0x5880, 5 => within 100 10000 v { s with hedge := { s.hedge with recheck := w16 v } }
  | _, _ => some s

/-- An index into a ring of `size` entries of which `count` have been written (0x6030.02, 0x6820.02, 0x7C20.04). -/
def ringIndexOk (count size v : Nat) : Bool := decide (count ≤ v + size) && decide (v < count)

def paramSafety (base sub v : Nat) (s : State) : Option State :=
  match base, sub with
  | 0x6010, 1 => within 0 2 v (s.modTwin fun t => { t with mode := w8 v })
  | 0x6010, 2 => within 1000 4000 v (s.modTwin fun t => { t with window := w16 v })
  | 0x6010, 3 => within 30 200 v (s.modTwin fun t => { t with timeout := w16 v })
  | 0x6020, 5 => within 30 3600 v (s.modAccess fun a => { a with idle := w16 v })
  | 0x6030, 2 =>
    if ringIndexOk s.access.logCount.toNat 4096 v then some (s.modAccess fun a => { a with logIndex := w32 v }) else none
  | 0x6800, 3 => within 0 63 v (s.modFaults fun f => { f with sel := w8 v })
  | 0x6810, 1 => within 1 255 v (s.modFaults fun f => { f with heal := w8 v })
  | 0x6810, 2 => within 1 16 v (s.modFaults fun f => { f with returnFrames := w8 v })
  | 0x6810, 3 => within 1 15 v (s.modFaults fun f => { f with repeatLimit := w8 v })
  | 0x6810, 4 => within 1 4 v (s.modFaults fun f => { f with histClass := w8 v })
  | 0x6810, 5 => within 1 65535 v (s.modFaults fun f => { f with ceLimit := w16 v })
  | 0x6820, 2 =>
    if ringIndexOk s.faults.histCount.toNat 2048 v then some (s.modFaults fun f => { f with histIndex := w32 v }) else none
  | _, _ => some s

/-- CHK_PARAM: WIDTH from 8 to 64 (0x7410.0D). -/
def chkParamOk (v : Nat) : Bool := decide (8 ≤ v % 128) && decide (v % 128 ≤ 64)

def paramMgmt (base m sub v : Nat) (s : State) : Option State :=
  let k := fin8 m
  match base, sub with
  | 0x7010, 2 => some (s.modChannel k fun c => { c with head := w32 v })
  | 0x7410, 2 =>
    let w := w32 v &&& chkCfgMask
    if chkCfgOk k w then some (s.modChk k fun c => { c with cfg := w }) else none
  | 0x7410, 3 => some (s.modChk k fun c => { c with addr := w32 v })
  | 0x7410, 4 => some (s.modChk k fun c => { c with len := w32 v })
  | 0x7410, 7 => some (s.modChk k fun c => { c with expect := w64 v })
  | 0x7410, 10 => some (s.modChk k fun c => { c with poly := w64 v })
  | 0x7410, 11 => some (s.modChk k fun c => { c with init := w64 v })
  | 0x7410, 12 => some (s.modChk k fun c => { c with xorout := w64 v })
  | 0x7410, 13 =>
    if chkParamOk v then some (s.modChk k fun c => { c with param := w16 v &&& 0x037F }) else none
  | _, _ => some s

/-- A slot word (Table 16-2): CHANNEL 0 to 23. -/
def slotOk (v : Nat) : Bool := decide (fld (w16 v) 8 5 ≤ 23)

/-- INJ_CFG: INJ_LEN from 2 to 4 (Table 16-3); ADT_EDGE 0b00 is reserved while TRIG_ADT is 1. -/
def injCfgOk (w : U32) : Bool :=
  decide (2 ≤ fld w 0 3) && decide (fld w 0 3 ≤ 4) && !(w.getLsbD 10 && fld w 12 2 == 0)

/-- WCMP_CFG (Table 16-4). -/
def wcmpCfgOk (w : U32) : Bool := fld w 8 8 != 0 && decide (fld w 16 5 ≤ 23) && fld w 0 2 != 3

def paramAnalog (base m sub v : Nat) (s : State) : Option State :=
  let k := fin8 m
  let w := w32 v
  match base with
  | 0x7810 =>
    if sub = 1 then within 1 16 v (s.modAdc fun a => { a with regLen := w8 v })
    else if slotOk v then some (s.modAdc fun a => { a with regSlot := vput a.regSlot (fin16 (sub - 2)) (w16 v &&& 0x1F03) })
    else none
  | 0x7820 =>
    if sub = 1 then
      let c := w &&& 0x3707
      if injCfgOk c then some (s.modAdc fun a => { a with injCfg := c }) else none
    else if slotOk v then some (s.modAdc fun a => { a with injSlot := vput a.injSlot (fin4 (sub - 2)) (w16 v &&& 0x1F03) })
    else none
  | 0x7840 =>
    let clear (x : Wcmp) : Wcmp := { x with run := 0, alarm := false, alarmSeen := false }
    if sub = 1 then
      let c := w &&& 0xE31FFF03
      if wcmpCfgOk c then some (s.modAdc fun a => { a with wcmp := vmod a.wcmp k fun x => { clear x with cfg := c } })
      else none
    else
      let c := w &&& 0x0FFF0FFF
      if fld c 0 12 ≤ fld c 16 12 then
        some (s.modAdc fun a => { a with wcmp := vmod a.wcmp k fun x => { clear x with limits := c } })
      else none
  | 0x7880 =>
    let c := w &&& 0xC01F03FF
    if fld c 16 5 ≤ 19 then some (s.modAdc fun a => { a with dewCfg := c }) else none
  | 0x7C10 => within 0x0800 0x8000 v { s with tsens := { s.tsens with jdFloor := w16 v } }
  | 0x7C20 =>
    if ringIndexOk s.tsens.recCount.toNat 64 v then some { s with tsens := { s.tsens with recIndex := w } } else none
  | _ => some s

/-- A PMBus address (0x8060.01). -/
def pmbOk (v : Nat) : Bool := v == 0 || (decide (8 ≤ v) && decide (v ≤ 0x77))

def paramPower (base sub v : Nat) (s : State) : Option State :=
  match base, sub with
  | 0x8020, 17 => within 100 10000 v (s.modPower fun p => { p with sagLimit := w16 v })
  | 0x8030, 1 => within 1 10000 v (s.modPower fun p => { p with dewPeriod := w16 v })
  | 0x8030, 2 => within 1 8 v (s.modPower fun p => { p with dewConfirm := w8 v })
  | 0x8040, 1 => if v.testBit 0 then some (s.modPower fun p => { p with wakeEn := w8 v &&& 0x7F }) else none
  | 0x8040, 2 => within 0 604800 v (s.modPower fun p => { p with wakeTimer := w32 v })
  | 0x8060, 1 => if pmbOk v then some (s.modPower fun p => { p with pmbAddr := vput p.pmbAddr 0 (w8 v) }) else none
  | 0x8060, 2 => if pmbOk v then some (s.modPower fun p => { p with pmbAddr := vput p.pmbAddr 1 (w8 v) }) else none
  | 0x8810, 1 =>
    if v % 32 = 0 ∧ v < tableStart then some { s with mgmt := { s.mgmt with calsetSrc := w32 v } } else none
  | 0x8830, 11 => within 20 1000 v (s.modClocks fun k => { k with wdtTimeout := w16 v })
  | 0x8840, 4 =>
    if v = 0xFF ∨ s.slotInFlash (w8 v) then some (s.modClocks fun k => { k with bootPackSlot := w8 v }) else none
  | 0x8850, 5 =>
    within s.clocks.minVersion.toNat s.clocks.gorseVersion.toNat v (s.modClocks fun k => { k with minVersion := w32 v })
  | _, _ => some s

/-- A write of a parameter, by its family's base, member and subindex. -/
def setBase (base m sub : Nat) (b : List Byte) (s : State) : Option State :=
  let v := le b
  if base < 0x2000 then paramNet base sub v s
  else if base < 0x3000 then paramLayers base m sub v s
  else if base < 0x3800 then paramWarp base sub v s
  else if base < 0x4000 then paramPacks base m sub v b s
  else if base < 0x4800 then paramFrame base sub v s
  else if base < 0x5000 then paramLinks base m sub v s
  else if base < 0x5800 then paramDiag base m sub v s
  else if base < 0x6000 then paramGuard base sub v s
  else if base < 0x7000 then paramSafety base sub v s
  else if base < 0x7800 then paramMgmt base m sub v s
  else if base < 0x8000 then paramAnalog base m sub v s
  else paramPower base sub v s

def setParam (index sub : Nat) (b : List Byte) (s : State) : Option State :=
  match rowOf index with
  | none => none
  | some r => setBase r.1.index r.2 sub b s

/-! ### lists of parameters (R309, R310, R359, R360) -/

/-- Every object with its index and subindex. -/
def allObjects : List (Nat × Nat × Obj) :=
  dictRows.flatMap fun r => (List.range r.members).flatMap fun m =>
    r.objs.zipIdx.map fun o => (r.index + r.stride * m, o.2 + 1, o.1)

/-- The retention bank whose units the objects of an index belong to (Table 17-4). -/
def retBankOf (index : Nat) : Option (Fin 4) :=
  if 0x8000 ≤ index ∧ index < 0x8800 then some 0
  else if 0x2100 ≤ index ∧ index < 0x2200 then some 1
  else if (0x1000 ≤ index ∧ index < 0x2000) ∨ index = 0x2030 ∨ (0x3000 ≤ index ∧ index < 0x3800)
      ∨ (0x4000 ≤ index ∧ index < 0x5000) ∨ (0x7800 ≤ index ∧ index < 0x7C00) then some 2
  else if (0x5000 ≤ index ∧ index < 0x5800) ∨ index = 0x6030 ∨ (0x6800 ≤ index ∧ index < 0x7000) then some 3
  else none

/-- The parameters of a retention bank. -/
def retParams (b : Fin 4) : List (Nat × Nat × Obj) :=
  allObjects.filter fun o => retBankOf o.1 == some b && o.2.2.acc != .ro && o.2.2.acc != .wo

/-- A parameter takes a value where its range allows it. -/
def tryParam (index sub : Nat) (b : List Byte) (s : State) : State := (setParam index sub b s).getD s

/-- A list of values is taken, twice over, so that ranges that depend on another parameter do not depend on the order. -/
def takeParams (l : List (Nat × Nat × List Byte)) (s : State) : State :=
  (l ++ l).foldl (fun t p => tryParam p.1 p.2.1 p.2.2 t) s

/-- The values persisted by store and with each write. -/
def State.persistedValues (s : State) : List Stored := s.cairn.persisted ++ s.cairn.snapshot

/-- A stored value passes its CRC-32C (R310). -/
def Stored.sound (v : Stored) : Bool := v.crc == crc32cOf v.value

/-- One persisted value at a boot: taken, or skipped and reported (R310). -/
def loadStored (v : Stored) (s : State) : State :=
  match if v.sound then setParam v.index.toNat v.sub.toNat v.value s else none with
  | some t => t
  | none =>
    report1 0x21 0x1A 0xFF { s with cairn := { s.cairn with
      skipIndex := if s.cairn.skipped = 0 then v.index else s.cairn.skipIndex
      skipped := satInc8 s.cairn.skipped } }

/-- One parameter as at boot: its persisted value, otherwise its default (R310). -/
def defaultParam (o : Nat × Nat × Obj) (s : State) : State :=
  let held := s.persistedValues.find? fun v => v.index == w16 o.1 && v.sub == w8 o.2.1 && v.sound
  match held.bind fun v => setParam o.1 o.2.1 v.value s with
  | some t => t
  | none => tryParam o.1 o.2.1 (leBytes o.2.2.ty.size o.2.2.dflt) s

/-- The parameters of a retention bank as at boot: persisted values, otherwise defaults (R360). -/
def defaultParams (b : Fin 4) (s : State) : State :=
  (retParams b ++ retParams b).foldl (fun t o => defaultParam o t) s

/-- The values that a STORE persists (R309). -/
def State.storeValues (s : State) : List Stored :=
  (allObjects.filter fun o => o.2.2.stored).map fun o =>
    let v := s.objectValue .svh o.1 o.2.1
    ⟨w16 o.1, w8 o.2.1, v, crc32cOf v⟩

end Sys2Proof.Machine
end

