-- ==== Sys2Proof/Machine/Power.lean ====
section
/-!
DEFINITION. Machine/Power.lean: power-state entry with its handshake, roll-back and retention save, the power-down of the
domains, and the wakes from IDLE and SLEEP (chapter 17).
-/
namespace Sys2Proof.Machine

/-! ### the handshake (R354, Table 17-2) -/

/-- The last handshake step that a target asks. -/
def lastStep : PowerState → Nat
  | .run => 0
  | .idle => 7
  | .sleep => 8
  | .deep | .dew | .off => 9

/-- Targets whose entry saves the retention store. -/
def PowerState.saves : PowerState → Bool
  | .sleep | .deep | .dew => true
  | _ => false

/-- An accepted POWER_CMD of a state below RUN (R353, R354, R5). -/
def enterPower (t : PowerState) (s : State) : Except Abort State :=
  if s.safety.power ≠ .run || s.safety.lamp ≠ .parked || s.power.target.isSome then .error .stateConflict
  else .ok (s.modPower fun p => { p with target := some t, step := 1, stopped := [] })

/-- A trained tile that is not in PARK. -/
def State.tileAwake (s : State) (n : Fin 2) : Bool := (s.link n).isUp && (s.link n).tileState != 1

/-- A long operation runs on some port. -/
def State.longRuns (s : State) : Bool :=
  [Carrier.can, .t1s, .svh].any fun c => match (s.port c).service with
    | some v => match v.awaits with
      | .long _ => true
      | _ => false
    | none => false

/-- Step 5: what keeps Gorse busy. -/
def State.gorseBusy (s : State) : Bool :=
  !(s.pack.state == .idle || s.pack.state == .failed)
  || ((List.finRange 8).any fun p => (s.bank p).pending || (s.bank p).bank0 == .verifying || (s.bank p).bank1 == .verifying)
  || ((List.finRange 2).any fun n => let d := s.tileDiag n; d.building.isSome || d.queued || d.copying)
  || (s.sched.running && s.sched.started) || s.longRuns

/-- A write that step 8 of Table 17-2 names was started less than 10 ms ago, the longest that R281 and R350 give one. -/
def State.cairnRecent (s : State) : Bool := s.cairn.wroteAt.any fun e => decide (s.clock < e + cyclesMs 10)

/-- The code and the domain with which the block of a step refuses; none when it acknowledges. `writing` says that Cairn has
not finished its last write. -/
def State.stepRefusal (s : State) (writing : Bool) (step : Nat) : Option (Byte × BitVec 4) :=
  let window := s.svh.windows.toList.any Window.opened
  match step with
  | 2 => if s.tileAwake 0 then some (1, 9) else if s.tileAwake 1 then some (1, 10) else none
  | 3 => if (List.finRange 8).any fun k => (s.channel k).run then some (2, 2) else none
  | 4 => if (List.finRange 8).any fun k => s.chkBusy k then some (3, 2) else none
  | 5 => if s.gorseBusy then some (4, 2) else none
  | 6 => if s.faults.copying[0] then some (5, 7) else if s.faults.copying[1] then some (5, 6) else none
  | 7 => if window || !s.svh.events.isEmpty then some (6, 8) else none
  | 8 => if writing && s.cairnRecent then some (7, 3) else none
  | 9 =>
    if !s.net.can.events.isEmpty || !s.net.t1s.events.isEmpty || s.net.can.transfer.isSome || s.net.t1s.transfer.isSome then
      some (8, 4) else none
  | _ => none

/-- The domain of the block that a step asks, for a refusal by TIMEOUT (the first where a step has two). -/
def stepDomain : Nat → BitVec 4
  | 1 => 5 | 2 => 9 | 3 => 2 | 4 => 2 | 5 => 2 | 6 => 6 | 7 => 8 | 8 => 3 | _ => 4

/-- The block of a step acknowledges: the forward lanes of step 2 and the transmit lanes of step 7 go to L1. -/
def acknowledge (step : Nat) (s : State) : State :=
  let s1 := match step with
    | 2 => forAll (fun (n : Fin 2) t => t.modLink n fun l =>
        if l.fwdPs = 0 then { l with fwdPs := 1 } else l) s
    | 7 =>
      if s.svh.txPs = 0 then { s with svh := { s.svh with txPs := 1 }, power := { s.power with idledTx := true } } else s
    | _ => s
  s1.modPower fun p => { p with step := step + 1, stopped := p.stopped ++ [step] }

/-- IDLE holds the other lanes in L1 too, those of a link that trains included (R183). The forward lanes idle already, so no
CMD RET_POWER goes with it (log entry 118). -/
def idleLanes (s : State) : State :=
  let s1 := forAll (fun (n : Fin 2) t => t.modLink n fun l => if l.retPs = 0 then { l with retPs := 1 } else l) s
  if s1.svh.rxPs = 0 then
    { s1 with svh := { s1.svh with rxPs := 1, lanesLocked := 0 }, power := { s1.power with idledRx := true } }
  else s1

/-- The lanes of a link that L1 has held return: to what SVE_CTRL asks for (R182), or to L0 where the link trains or has
failed. -/
def Link.relight (l : Link) : Link :=
  match l.state with
  | .up | .down => { l with fwdPs := l.wantFwd, retPs := l.wantRet }
  | _ => { l with fwdPs := if l.fwdPs = 1 then 0 else l.fwdPs, retPs := if l.retPs = 1 then 0 else l.retPs }

/-- The lanes that the handshake or IDLE put into L1 return to where they were (R183, R356). -/
def relightLanes (s : State) : State :=
  let s1 := if s.blockStopped 2 then forAll (fun (n : Fin 2) t => t.modLink n Link.relight) s else s
  let rx := s.power.idledRx && s.svh.rxPs == 1
  { s1 with
    svh := { s1.svh with
      txPs := if s.power.idledTx && s.svh.txPs == 1 then 0 else s.svh.txPs
      rxPs := if rx then 0 else s.svh.rxPs
      lanesLocked := if rx && s.svh.linkUp then 0xF else s.svh.lanesLocked }
    power := { s1.power with idledTx := false, idledRx := false } }

/-- A refusal and its roll-back (R356). The write's answer is the port's (ABORTED, STATE_CONFLICT). -/
def refuseEntry (code : Byte) (domain : BitVec 4) (s : State) : State :=
  let s1 := relightLanes s
  report1 0x70 0x22 (domain.setWidth 8) { s1 with
    frame := { s1.frame with rendering := true }
    power := { s1.power with
      target := none, step := 0, stopped := [], rollingBack := false, lastRefusal := code, refusingDomain := domain } }

/-! ### retention store (R359, Table 17-4) -/

/-- The RW and RWL values of a bank's units. -/
def State.retValues (s : State) (b : Fin 4) : List (U16 × Byte × List Byte) :=
  ((retParams b).filter fun o => o.2.2.acc == .rw || o.2.2.acc == .rwl).map fun o =>
    (w16 o.1, w8 o.2.1, s.objectValue .svh o.1 o.2.1)

/-- What bank 1 holds of a layer: staging and committed configuration, the commit slot, lease and flip time (R355). -/
def Layer.retained (l : Layer) : Layer :=
  { staging := l.staging, committed := l.committed, hasBuffer := l.hasBuffer, pending := l.pending, ready := l.ready
    check := l.check, edited := l.edited, lease := l.lease, flipTime := l.flipTime }

def State.alignState (s : State) : AlignState :=
  { phaseError := s.frame.phaseError, aligned := s.frame.aligned, relockCount := s.frame.relockCount
    fsyncRejected := s.frame.fsyncRejected, unlockedCycles := s.frame.unlockedCycles }

/-- The sag record of a supply: what bank 0 keeps of it. -/
def Supply.record (x : Supply) : Supply :=
  { sagMin := x.sagMin, sagCount := x.sagCount, sagLongest := x.sagLongest, seen := x.seen }

/-- A layer configuration as bank 1 holds it, in the order of its objects. -/
def LayerConfig.bytes (c : LayerConfig) : List Byte :=
  bytes32 c.cfg ++ bytes32 c.bufAddr ++ bytes32 c.stride ++ bytes16 c.width ++ bytes16 c.height ++ bytes32 c.paletteAddr
  ++ bytes32 c.fill ++ bytes32 c.placeU ++ bytes32 c.placeV ++ bytes16 c.stepU ++ bytes16 c.stepV

/-- A lease as bank 1 holds it: all zero for none. -/
def leaseBytes : Option Lease → List Byte
  | none => List.replicate 18 0
  | some x => bytes32 x.addr ++ leBytes 4 x.length ++ bytes32 (x.palette.getD 0xFFFFFFFF) ++ bytes16 x.tag ++ bytes32 x.first

def Layer.retBytes (l : Layer) : List Byte := l.staging.bytes ++ l.committed.bytes ++ leaseBytes l.lease ++ bytes64 l.flipTime

def Pos.word (p : Pos) : U32 := BitVec.ofNat 32 (p.x.toNat * 2 ^ 21 + p.y.toNat * 2 ^ 12 + p.e.toNat * 2 ^ 10)

/-- What a bank holds beyond objects (Table 17-4). -/
def State.retExtra (s : State) (b : Fin 4) : List Byte :=
  match b.val with
  | 0 => s.power.supplies.toList.flatMap fun x =>
      bytes16 x.sagMin ++ bytes32 x.sagCount ++ bytes32 x.sagLongest ++ [byteOfBool x.seen]
  | 1 => s.layers.toList.flatMap Layer.retBytes
  | 2 => bytes16 s.warp.levelApplied ++ bytes32 s.frame.number ++ bytes32 s.frame.phaseError ++ [byteOfBool s.frame.aligned]
      ++ bytes32 s.frame.relockCount ++ bytes32 s.frame.fsyncRejected
  | _ => bytes16 s.faults.nextSeq ++ bytes32 s.faults.lost ++ s.faults.queue.flatMap (recordBytes s)
      ++ ((s.tileDiag 0).stuck ++ (s.tileDiag 1).stuck).flatMap (fun p => bytes32 p.word)
      ++ bytes16 (s.cur 0).govScale ++ bytes16 (s.cur 1).govScale

/-- The 4092 data bytes of a bank: its objects in the dictionary's order, what it holds beyond them, and zeros (R359; the
order is the model's, log entry 119). -/
def State.retData (s : State) (b : Fin 4) : List Byte :=
  let held := (s.retValues b).flatMap (fun v => v.2.2) ++ s.retExtra b
  (held ++ List.replicate (4092 - held.length) 0).take 4092

/-- The save of one bank. -/
def State.saveBank (s : State) (b : Fin 4) : RetBank :=
  { saved := true, values := s.retValues b, data := s.retData b, crc := crc32cOf (s.retData b) }

/-- The save at an entry to SLEEP, DEEP or DEW. -/
def saveRetention (s : State) : State :=
  s.modPower fun p => { p with
    retSaved := true, ret := Vector.ofFn s.saveBank
    retStuck0 := (s.tileDiag 0).stuck, retStuck1 := (s.tileDiag 1).stuck, retFaults := s.faults
    retStray := vall s.diag Diag.strayFenced, retReplayed := vall s.links Link.replayed, retSupplies := p.supplies
    retGov := Vector.ofFn fun n => (s.cur n).govScale, retLayers := vall s.layers Layer.retained
    retFrame := s.frame.number, retLevel := s.warp.levelApplied, retAlign := s.alignState }

/-- The bytes of a bank at a wake: those of `decay` have changed in retention, the CRC at offset 4092. -/
def RetBank.decayed (x : RetBank) (decay : List (Nat × Byte)) : List Byte :=
  decay.foldl (fun l d => l.set d.1 d.2) (x.data ++ bytes32 x.crc)

/-- The check of a bank at a wake (R360). -/
def RetBank.passes (x : RetBank) (decay : List (Nat × Byte)) : Bool :=
  let l := x.decayed decay
  u32At l x.data.length == crc32cOf (l.take x.data.length)

/-- The banks that pass their CRC-32C, bit per bank. -/
def State.banksPass (s : State) (decay : List (Fin 4 × Nat × Byte)) : BitVec 4 :=
  BitVec.ofNat 4 (bitsOf ((List.finRange 4).map fun b =>
    (s.power.ret[b]).passes ((decay.filter fun d => d.1 == b).map Prod.snd)))

/-! ### power-down (Table 17-1) -/

/-- What the power controller and the retention store hold in PD_AON apart from their objects (Table 17-1). -/
def Power.aonPart (p : Power) : Power :=
  { lastRefusal := p.lastRefusal, refusingDomain := p.refusingDomain, lastWake := p.lastWake, wakeCount := p.wakeCount
    enteredAt := p.enteredAt, retFail := p.retFail, retPass := p.retPass, retSaved := p.retSaved
    retFailCount := p.retFailCount, ret := p.ret, retStuck0 := p.retStuck0, retStuck1 := p.retStuck1
    retFaults := p.retFaults, retGov := p.retGov, retLayers := p.retLayers, retFrame := p.retFrame, retLevel := p.retLevel
    retStray := p.retStray, retAlign := p.retAlign, retSupplies := p.retSupplies, retReplayed := p.retReplayed, dewSamples := p.dewSamples }

/-- What every reset keeps: PD_AON and PD_WK, Cairn with its rings, flash, and the time that has passed. -/
def coldState (s : State) : State :=
  { pending := s.pending, clock := s.clock, freeCount := s.freeCount
    mem := { flash := s.mem.flash }
    aon := s.aon
    power := s.power.aonPart
    access := { generation := s.access.generation, salt := s.access.salt, hash := s.access.hash, fails := s.access.failsStored
                failsStored := s.access.failsStored, lockoutStored := s.access.lockoutStored
                lockoutFrom := if s.access.lockoutStored then some s.clock else none, logCount := s.access.logCount, log := s.access.log }
    faults := { histCount := s.faults.histCount, history := s.faults.history }
    tsens := { recCount := s.tsens.recCount, records := s.tsens.records }
    clocks := { minVersion := s.clocks.minVersion, romVersion := s.clocks.romVersion }
    cairn := { s.cairn with
      writeFailed := false, writeErr := 0, failing := false, storeFailed := false, writing := none, skipIndex := 0
      skipped := 0, wroteAt := none } }

/-- A queued reply leaves before the power-down (R357). -/
def flushReply (s : State) : State :=
  match s.svh.replies.getLast? with
  | none => s
  | some r => { s with svh := { s.svh with replies := [], sent := some (.reply r) } }

/-- A link whose domain is off: lanes in L2, what the management plane knows of the tile kept. -/
def Link.sleeping (l : Link) : Link :=
  { ctrl := l.ctrl, descriptor := l.descriptor, everUp := l.everUp, denied := l.denied, retrainCount := l.retrainCount
    replayed := l.replayed, lossTimeout := l.lossTimeout, trainAttempts := l.trainAttempts }

/-- The encoder's sums and counts and the band currents end with PD_SWD (R351). -/
def Current.unclocked (c : Current) : Current :=
  { c with
    filter := none, bandNow := .replicate 32 0, bandNext := none, sumH := 0, quiNow := 0, markF := 0, markSkip := true
    frameSum := 0, frameQui := 0, frameG := none, clampCount := 0, clampRun := 0 }

/-- SLEEP: PD_SWD, PD_FMB, PD_HLK, PD_E0 and PD_E1 lose their contents, and the ADC does. That the missing stamp table has been
reported since reset stays known (R103). -/
def sleepDomains (s : State) : State :=
  let s0 := flushReply s
  let fmb : Nat := 0x1800000
  { s0 with
    layers := .replicate 8 {}
    stamp := { noTableReported := s.stamp.noTableReported }
    warp := { levelAt := s.warp.levelAt, levelEpisode := s.warp.levelEpisode }
    frame := {}
    svh := { sent := s0.svh.sent, txPs := 2, rxPs := 2 }
    links := vall s.links Link.sleeping
    current := vall s.current Current.unclocked
    mem := { s.mem with
      fm := s.mem.fm.filter (fun c => decide (fmb ≤ c.1)), bad := s.mem.bad.filter fun w => decide (fmb ≤ w * 32) }
    adc := { dewCfg := s.adc.dewCfg, dewLast := s.adc.dewLast, dewWoke := s.adc.dewWoke }
    clocks := { s.clocks with pllLocked := false } }

/-- The power state changes, and the entry ends. -/
def setPower (t : PowerState) (s : State) : State :=
  { s with
    safety := { s.safety with power := t }
    power := { s.power with
      target := none, step := 0, stopped := if t = .idle then s.power.stopped else [], enteredAt := s.clock
      alertHeld := s.alertLow } }

/-- The reply that a network carrier sent last, which leaves before PD_NET powers down (R357). -/
def lastReplies (s : State) : Net :=
  { can := { last := s.net.can.last, wire := s.net.can.wire }, t1s := { last := s.net.t1s.last, wire := s.net.t1s.wire } }

/-- DEEP, DEW and power OFF: only PD_WK and, except in OFF, PD_AON are left, with the wake configuration and the DEW settings.
-/
def deepDomains (t : PowerState) (s : State) : State :=
  let s0 := flushReply s
  let c := coldState s0
  let kept : State := { c with
    net := lastReplies s
    svh := { sent := s0.svh.sent, txPs := 2, rxPs := 2 }
    power := { c.power with
      dewSamples := if t = .dew then 0 else c.power.dewSamples, dewPeriod := s.power.dewPeriod, dewConfirm := s.power.dewConfirm, wakeEn := s.power.wakeEn
      wakeTimer := s.power.wakeTimer }
    adc := { dewCfg := s.adc.dewCfg, dewWoke := s.adc.dewWoke } }
  if t = .off then
    { kept with power := {}, adc := {}, aon := { held := false, porst := false, source := s.aon.source } }
  else kept

/-- The power-down phase (R354). -/
def powerDown (t : PowerState) (s : State) : State :=
  let s1 := settleUnlocked s
  let level := s.alertLow
  match t with
  | .run => s
  | .idle => eventState (setPower .idle (idleLanes { s1 with frame := { s1.frame with running := false } }))
  | .sleep => setPower .sleep (sleepDomains s1)
  | t => (setPower t (deepDomains t s1)).modPower fun p => { p with alertHeld := level && t != .off }

/-! ### wakes from IDLE and SLEEP (R360 to R363) -/

/-- ALERT_N is driven low (R299, R358): not while PORST_N is asserted; in any other hold in reset by the fell latch alone. -/
def State.alertPin (s : State) : Bool :=
  if s.aon.porst then false
  else if s.aon.held then s.aon.fell
  else match s.safety.power with
    | .run | .idle => s.alertLow
    | .sleep | .deep | .dew => s.power.alertHeld
    | .off => false

/-- The wake is recorded, and the blocks run again; WOKE is of the last wake alone (R343). -/
def noteWake (source : BitVec 4) (s : State) : State :=
  { s with
    safety := { s.safety with power := .run }
    adc := { s.adc with dewWoke := source == 3 }
    power := { s.power with
      lastWake := source, wakeCount := satInc s.power.wakeCount, target := none, step := 0, stopped := [] } }

/-- The grid starts: ALIGN_MODE and the divider as they stand, and a ticket close still to come (R153). -/
def startGrid (s : State) : State :=
  { s with frame := { s.frame with
      running := true, fresh := true, rendering := true, divUsed := s.frame.frameDiv, divSeen := s.frame.frameDiv
      divWrites := [], closesTaken := 0, gate := none
      alignUsed := s.frame.alignMode, epochUsed := s.frame.epoch, unlockedAt := s.clock } }

/-- The converter is calibrated and its regular sequence runs (R335, R337). -/
def startAdc (s : State) : State :=
  { s with adc := { s.adc with
      ready := true, regRun := true, roundLen := s.adc.regLen, roundSlot := s.adc.regSlot, position := 0 } }

/-- Wake from IDLE: lanes back in L0 and the CORE clock running. -/
def wakeIdle (source : BitVec 4) (s : State) : State :=
  let s1 := noteWake source (relightLanes s)
  eventState { s1 with frame := { s1.frame with
    running := true, fresh := true, rendering := true, unlockedAt := s1.clock, closesTaken := 0, gate := none } }

/-- The values of a bank that passed. -/
def takeBank (b : Fin 4) (s : State) : State :=
  takeParams ((s.power.ret[b]).values.map fun v => (v.1.toNat, v.2.1.toNat, v.2.2)) s

/-- Bank 2: LEVEL_APPLIED, the frame number and the alignment state. -/
def restoreLevel (s : State) : State :=
  let a := s.power.retAlign
  { s with
    warp := { s.warp with levelApplied := s.power.retLevel }
    frame := { s.frame with
      number := s.power.retFrame, closed := true, phaseError := a.phaseError, aligned := a.aligned
      relockCount := a.relockCount, fsyncRejected := a.fsyncRejected, unlockedCycles := a.unlockedCycles } }

/-- Bank 1 on a wake from SLEEP. -/
def restoreLayers (s : State) : State := { s with layers := s.power.retLayers }

/-- Bit 0 of FALLBACK_DEMAND stands for a class 3 record in force (R242). -/
def settleQueue (s : State) : State :=
  if s.class3InForce then { s with safety := { s.safety with demand := s.safety.demand ||| 1 } } else clearDemand 0 s

/-- Bank 3: fault queue and reactions with the fences of R204, stuck-on lists, governor scales. The spares and the counts of field memory stay as they
stand (R274). -/
def restoreDiag (s : State) : State :=
  let stuck (n : Fin 2) : List Pos := if n = 0 then s.power.retStuck0 else s.power.retStuck1
  let f := s.faults
  let s1 : State := { s with faults := { s.power.retFaults with
    histCount := f.histCount, history := f.history, spare := f.spare, copying := f.copying, copied := f.copied
    ceCount := f.ceCount, ueCount := f.ueCount } }
  let s2 := forAll (fun (n : Fin 2) t =>
    ((t.modDiag n fun d => { d with stuck := stuck n, strayFenced := t.power.retStray[n] }).modCur n fun c => { c with govScale := t.power.retGov[n] }).modLink n
      fun l => { l with replayed := t.power.retReplayed[n] }) s1
  settleQueue s2

/-- Bank 3 that failed: the queue and what goes with it start afresh, and the stuck-on lists await a replay. -/
def loseDiag (s : State) : State :=
  let s1 : State := { s with faults := { s.faults with
    queue := [], pending := [], nextSeq := 0, lost := 0, sel := 0, first := none, fbLatched := false, lostLogged := 0 } }
  settleQueue (forAll (fun (n : Fin 2) t =>
    ((t.modDiag n fun d => { d with stuck := [], stuckListFull := false, strayFenced := 0 }).modCur n
      fun c => { c with govScale := 0x8000, govNext := 0x8000 }).modLink n fun l => { l with replayed := false }) s1)

/-- Bank 0: the sag records and counts. In SLEEP the monitor has gone on with them (R351, R365), so that a save is taken only
where they were lost. -/
def restoreSupplies (s : State) : State :=
  if s.safety.power = .sleep then s else s.modPower fun p => { p with supplies := vall p.retSupplies Supply.record }

/-- The contents of one bank after its check, apart from the parameters. -/
def restoreBank (b : Fin 4) (ok : Bool) (s : State) : State :=
  match b.val, ok with
  | 0, false => s.modPower fun p => { p with supplies := .replicate 4 {} }
  | 0, true => restoreSupplies s
  | 1, true => restoreLayers s
  | 2, true => restoreLevel s
  | 3, true => restoreDiag s
  | 3, false => loseDiag s
  | _, _ => s

/-- RET_PASS, RET_FAIL and RET_FAIL_COUNT of a wake check. -/
def noteBanks (ok : BitVec 4) (s : State) : State :=
  s.modPower fun p => { p with
    retPass := ok, retFail := ~~~ok, retSaved := false
    retFailCount := satAdd p.retFailCount ((List.range 4).filter fun b => !ok.getLsbD b).length }

/-- The reports of the banks that failed. -/
def reportBanks (ok : BitVec 4) (s : State) : State :=
  (List.range 4).foldl (fun t b => if ok.getLsbD b then t else report 0x22 0x21 (w8 b) 2 {} t) s

/-- Every bank is restored or set as at boot, with the age of the leveling target as it was. -/
def restoreBanks (ok : BitVec 4) (s : State) : State :=
  let s1 := forAll (fun (b : Fin 4) t =>
    let good := ok.getLsbD b.val
    let t1 := restoreBank b good t
    let t2 := defaultParams b t1
    if good then takeBank b t2 else t2) s
  let s2 := if ok.getLsbD 1 then restoreLayers s1 else { s1 with layers := .replicate 8 {} }
  { s2 with warp := { s2.warp with levelAt := s.warp.levelAt, levelEpisode := s.warp.levelEpisode } }

/-- Wake from SLEEP. `ok` says which banks pass their CRC-32C. The held reports wait for the number of the first ticket. -/
def wakeSleep (source : BitVec 4) (ok : BitVec 4) (s : State) : State :=
  let s1 := noteWake source (noteBanks ok (restoreBanks ok s))
  let s2 : State := { s1 with
    aon := { s1.aon with wakeOut := true }, clocks := { s1.clocks with pllLocked := true }
    svh := { s1.svh with txPs := 0, rxPs := 0 } }
  let s3 := forAll startTraining (startGrid (startAdc s2))
  let s4 := reportBanks ok s3
  let s5 := eventState { s4 with power := { s4.power with thermalWake := false } }
  if s.power.thermalWake then thermalShutdown s.power.thermalTrip s.power.thermalBroken s5 else s5

end Sys2Proof.Machine
end

