-- ==== Sys2Proof/Machine/Boot.lean ====
section
/-!
DEFINITION. Machine/Boot.lean: reset and the boot sequence (R375 to R384, R363), as one step from release to the start of
the frame grid.
-/
namespace Sys2Proof.Machine

/-! ### Gorse slots (R380, Table 18-4) -/

/-- The header of a Gorse slot. -/
def State.gorseHeader (s : State) (slot : Fin 2) : List Byte := s.flashRead (0x400000 * slot.val) 256

def gorseVersionOf (h : List Byte) : U32 := u32At h 8
def gorseLength (h : List Byte) : Nat := le (slice h 0x10 4)

/-- The slot is a candidate. -/
def State.candidate (s : State) (slot : Fin 2) : Bool :=
  let h := s.gorseHeader slot
  h.take 4 == [0x47, 0x4F, 0x52, 0x53] && u16At h 4 == 1 && u16At h 6 == 0 && allZero (slice h 0x14 12)
  && allZero (slice h 0xC0 64) && decide (4 ≤ gorseLength h) && decide (gorseLength h ≤ 2096896)
  && gorseLength h % 4 == 0 && sha256 (slice h 0x20 64) == s.cairn.bootKeyHash
  && decide (s.clocks.minVersion ≤ gorseVersionOf h)

/-- The digest and the signature of a candidate verify. -/
def State.imageOk (s : State) (slot : Fin 2) : Bool :=
  let h := s.gorseHeader slot
  let body := s.flashRead (0x400000 * slot.val + 256) (gorseLength h)
  let digest := sha256 (h.take 0x60 ++ body)
  digest == slice h 0x60 32 && ecdsaOk (slice h 0x20 64) digest (slice h 0x80 64)

/-- Candidates in the order in which they are tried: descending VERSION, slot 0 first between equals. -/
def State.bootOrder (s : State) : List (Fin 2) :=
  let v (n : Fin 2) : U32 := gorseVersionOf (s.gorseHeader n)
  (if v 0 < v 1 then [1, 0] else [0, 1]).filter s.candidate

/-- The candidates that fail before one runs, and the one that runs. -/
def tryImages (s : State) (read : FlashRead) : List (Fin 2) → Nat × Option (Fin 2)
  | [] => (0, none)
  | n :: t =>
    if read = .ok && s.imageOk n then (0, some n)
    else
      let r := tryImages s read t
      (r.1 + 1, r.2)

/-- The image that runs, with its identity; without one the boot ROM runs (R384). -/
def bootImage (env : BootEnv) (s : State) : State × Nat :=
  let r := tryImages s env.gorseRead s.bootOrder
  let ver (n : Fin 2) : U32 := if s.candidate n then gorseVersionOf (s.gorseHeader n) else 0
  let s1 : State := { s with clocks := { s.clocks with
    flashSize := env.flashSizeKiB, jedecId := env.jedecId, eraseMs := env.eraseMs, programUs := env.programUs
    slotVer := Vector.ofFn ver
    flashErr := if env.gorseRead = .error then satInc s.clocks.flashErr else s.clocks.flashErr } }
  (match r.2 with
    | some n =>
      let h := s.gorseHeader n
      { s1 with clocks := { s1.clocks with
          gorseVersion := gorseVersionOf h, gorseBuild := u32At h 0xC, gorseSlot := BitVec.ofNat 8 n.val } }
    | none => { s1 with net := { s1.net with romOnly := true } }, r.1)

/-! ### Cairn at a boot (R310, R376) -/

/-- BOOT_COUNT, the count of the reset's code, and GORSE_MIN_VERSION among the counters of Cairn. -/
def bootCounters (code : Byte) (s : State) : State :=
  if s.cairn.failing then cairnFailure s
  else
    let k : Fin 8 := fin8 (code.toNat - 1)
    s.modCairn fun c => { c with
      bootCount := satInc16 c.bootCount, resetCount := vmod c.resetCount k satInc }

/-- A value persisted as a parameter of this load: GORSE_MIN_VERSION has its own place in Cairn (Table 18-6). -/
def Stored.isParam (v : Stored) : Bool := !(v.index == 0x8850 && v.sub == 5)

/-- Every persisted value is loaded, and NODE_ID takes effect (R310, R283). A first pass takes each value that its object's
range allows, so that a range that depends on another persisted value is judged with that value in place. -/
def loadPersisted (s : State) : State :=
  let l := s.persistedValues.filter Stored.isParam
  let s0 := (l.filter Stored.sound).foldl (fun t v => tryParam v.index.toNat v.sub.toNat v.value t) s
  let s1 := l.foldl (fun t v => loadStored v t) s0
  s1.modNet fun n => { n with nodeActive := n.nodeId }

/-- A lockout that a reset cut short starts over (R257). -/
def bootLockout (s : State) : State :=
  s.modAccess fun a => { a with lockoutFrom := a.lockoutFrom.map fun _ => s.clock }

/-! ### links and store -/

/-- The attempts of one link at the boot, as far as the environment gives them (R178). -/
def trainAttempts (n : Fin 2) : List TrainObs → State → State
  | [], s => s
  | o :: t, s =>
    if (s.link n).state = .training then
      trainAttempts n t (attempt n o (s.modLink n fun l => { l with waiting := false }))
    else s

def trainLinks (env : BootEnv) (s : State) : State :=
  trainAttempts 1 env.train1 (trainAttempts 0 env.train0 (startTraining 1 (startTraining 0 s)))

/-- First byte of the Hedgerow image in flash. -/
def hedgeFlash : Nat := 0x800000

/-- The bytes of the store that the checks read: all of it behind a header that passes, else the header alone, at which
the checks stop (R233). -/
def hedgeCopy (s : State) : List Byte :=
  let h := s.flashRead hedgeFlash 64
  if h.take 4 == [0x48, 0x44, 0x47, 0x52] && hedgeHeaderOk h then s.flashRead hedgeFlash (hedgeSize h) else h

/-- The Hedgerow image is copied, locked and checked (R233), a parity error of a store word last. No CRC is computed where the checks stop before it. -/
def loadHedge (read : FlashRead) (parity : Bool) (s : State) : State :=
  let t := hedgeCopy s
  let q := hedgeCheck t (read == .error) s.cairn.hedgeRef (s.link 0).kind (s.link 1).kind (s.link 0).serial (s.link 1).serial
  let r : Byte := if q = 0 && parity then 0x0A else q
  let early := r == 1 || r == 2 || r == 3
  let crc := if early then 0 else crcOf crc64 (t.take (hedgeSize t - 8))
  let s1 := if early then s else hedgeJob t parity crc s
  { s1 with
    hedge := { s.hedge with
      image := t, locked := true, verified := r == 0, lastFail := r, checkOk := !early && crc == s.cairn.hedgeRef
      bound := u64At t 0x10 != 0 || u64At t 0x18 != 0, rects := byteAt t 0xE, imageId := u32At t 0x28
      crc64 := crc, crc64Ref := s.cairn.hedgeRef }
    clocks := { s.clocks with flashErr := if read = .error then satInc s.clocks.flashErr else s.clocks.flashErr } }

/-- CALSET_STATUS after the calibration-set read (R387). -/
def readCalset (s : State) : State :=
  let ok := calsetHeaderOk s.calsetHeader
  { s with mgmt := { s.mgmt with
      calsetValid := ok, calsetDigestOk := ok && (List.finRange 2).all fun n => s.calsetOk n } }

/-! ### the lamp at the end of a boot -/

/-- LIMP while the fell latch is set (R381), RECOVERY without Gorse (R384) or with a store that failed a check (R233), PARKED
after DEEP or DEW (R363), START otherwise, under a thermal hold too (R4, log entries 35 and 36). -/
def State.bootLamp (s : State) (parked : Bool) : LampState :=
  if s.aon.fell then .limp
  else if s.net.romOnly || !s.hedge.verified then .recovery
  else if parked then .parked
  else .start

/-- The boot pack (R383): LOAD_FLASH, or the report of a slot that gives none. -/
def bootPack (s : State) : State :=
  if s.net.romOnly then s
  else if !s.slotInFlash s.clocks.bootPackSlot then report1 0x01 0x1A 0xFF s
  else
    let r := packOpen (some s.clocks.bootPackSlot) s
    if r.1 then { r.2 with pack := { r.2.pack with boot := true } } else report1 0x01 0x1A 0xFF r.2

/-- Reports of the start: failed candidates, a single-carrier TWIN_MODE (R12, R250), and a lock loss without a record
(R373). -/
def bootReports (failed : Nat) (s : State) : State :=
  let s1 := if failed = 0 || s.net.romOnly then s
    else (List.range failed).foldl (fun t _ => report1 0x01 0x1A 0xFF t) s
  let s2 : State := if s.twin.mode = 0 then s1
    else report1 0x48 0x16 0xFF { s1 with twin := { s1.twin with startReported := true } }
  if s.aon.fell && s.aon.lockLossDue then
    report 0x69 0x1D 9 4 {} { s2 with aon := { s2.aon with lockLossDue := false } }
  else s2

/-! ### the boot (Table 18-5) -/

/-- The clocks run: the time base counts from 0 at the reset (R300), the PLL is locked, and the clock stands at the start of
the grid. -/
def startClocks (code : Byte) (env : BootEnv) (s : State) : State :=
  let now := s.clock + env.cycles
  { s with
    clock := now
    aon := { s.aon with held := false, porst := false, source := code, pllResets := if code = 6 then s.aon.pllResets else 0 }
    tb := { s.tb with origin := -((s.clock * 5 / 4 : Nat) : Int) }
    cairn := { s.cairn with failing := !env.cairnOk }
    clocks := { s.clocks with pllLocked := true, releasedAt := s.clock, lastReset := code, bootStage := 1 } }

/-- Object access and the packets start (R382); TSENS stays stopped under a thermal hold (R347). -/
def startServices (s : State) : State :=
  { s with
    net := { s.net with served := true }
    tsens := { s.tsens with stopped := s.aon.thermalHold } }

/-- The stage that the boot has reached: the grid, or RECOVERY. -/
def bootGridStage (s : State) : State :=
  s.modClocks fun k => { k with bootStage := if s.net.romOnly then 0x0F else 6 }

/-- A boot from a cold state, up to the start of the grid. -/
def bootFrom (code : Byte) (parked : Bool) (env : BootEnv) (cold : State) : State :=
  let s1 := bootImage env (startClocks code env cold)
  let s2 := startServices (bootLockout (loadPersisted (bootCounters code s1.1)))
  let s3 := loadHedge env.hedgeRead env.hedgeParity (trainLinks env s2)
  let s4 := setLamp (s3.bootLamp parked) s3
  let s5 := bootReports s1.2 (readCalset (startAdc (startGrid s4)))
  bootPack (bootGridStage s5)

/-- PD_AON as PORST_N, a supply reset and the wake from power OFF leave it: the state that R375 names, and with it the power
controller and the retention store, whose counts run since PORST_N (log entry 119). -/
def clearAon (s : State) : State :=
  { s with aon := { held := s.aon.held, porst := s.aon.porst, pllResets := 0 }, power := {} }

/-- A reset by a source of Table 18-2 that keeps PD_AON, and its boot. -/
def resetKeep (code : Byte) (env : BootEnv) (s : State) : State := bootFrom code false env (coldState s)

/-- A reset by a source that clears PD_AON, and its boot. -/
def resetClear (code : Byte) (env : BootEnv) (s : State) : State :=
  bootFrom code false env (clearAon (coldState s))

/-! ### reset commands -/

/-- PORST_N_ASSERT: every domain but PD_WK is reset and PD_AON is cleared (R375). -/
def assertPorst (s : State) : State :=
  let c := clearAon (coldState s)
  { c with aon := { c.aon with held := true, porst := true, source := 1 } }

/-- PORST_N_ASSERT with the time that the pin stays low: a pulse shorter than 1 µs is ignored (R395). -/
def execPorstNAssert (s : State) (lowNs : Nat := 1000) : Host.Outcome State Fault Refusal :=
  .next (if lowNs < 1000 then s else assertPorst s)

/-- PORST_N_RELEASE: the block leaves the reset that PORST_N holds and boots with source 0x01. The rising edge of a pulse that
the pin ignores, low or high for less than 1 µs, is ignored (R395). -/
def execPorstNRelease (env : BootEnv) (s : State) : Host.Outcome State Fault Refusal :=
  .next (if !s.aon.porst || decide (env.highNs < 1000) then s else resetClear 1 env s)

/-- A supply reset while the block is held in reset, by PORST_N or by R373: PD_AON is cleared, and the block stays held
until PORST_N releases it. -/
def supplyResetHeld (s : State) : State :=
  let c := clearAon (coldState s)
  { c with aon := { c.aon with source := 2 } }

/-- The comparators of the reset thresholds are on: in RUN, IDLE and SLEEP, and while the block is held (R365). -/
def State.comparatorsRun (s : State) : Bool :=
  s.aon.held || s.safety.power == .run || s.safety.power == .idle || s.safety.power == .sleep

/-- SUPPLY_RESET: a supply falls below its reset threshold; the boot starts 1 ms after every supply has recovered (R368).
In DEEP, DEW and power OFF only the board's supervisor protects (R365). -/
def execSupplyReset (env : BootEnv) (s : State) : Host.Outcome State Fault Refusal :=
  .next (if !s.comparatorsRun then s else if s.aon.held then supplyResetHeld s else resetClear 2 env s)

/-- Gorse's watchdog runs: out of reset with Gorse running (R377). -/
def execManagementWatchdogExpiry (env : BootEnv) (s : State) : Host.Outcome State Fault Refusal :=
  .next (if s.aon.held || !s.gorse then s else resetKeep 4 env s)

/-- PLL_NOT_LOCKED_RESET: a second one in a row holds the block in reset until PORST_N (Table 18-2). -/
def execPllNotLockedReset (env : BootEnv) (s : State) : Host.Outcome State Fault Refusal :=
  .next (if s.aon.held then s
    else if s.aon.pllResets = 0 then
      resetKeep 6 env { s with aon := { s.aon with pllResets := 1 } }
    else
      let c := coldState s
      { c with aon := { c.aon with held := true, source := 6, pllResets := 2 } })

/-- TEST_RESET: through the test pins, only while TEST_EN is high. -/
def execTestReset (testEn : Bool) (env : BootEnv) (s : State) : Host.Outcome State Fault Refusal :=
  .next (if !testEn || s.aon.held then s else resetKeep 8 env s)

/-! ### wakes that boot (R360, R363) -/

/-- Bank 1 after DEEP or DEW: staging configurations only. -/
def stagingOnly (s : State) : State :=
  { s with layers := vall s.power.retLayers fun l => { staging := l.staging, edited := l.edited } }

/-- The banks of a wake from DEEP or DEW, after the persisted values: each bank's units as at boot, then the values of the banks
that pass. -/
def restoreDeep (ok : BitVec 4) (s : State) : State :=
  let s1 := forAll (fun (b : Fin 4) t =>
    let good := ok.getLsbD b.val
    let t1 := if b.val = 1 then t else defaultParams b (restoreBank b good t)
    if good then takeBank b t1 else t1) s
  let s2 := if ok.getLsbD 1 then stagingOnly s1 else s1
  { s2 with warp := { s2.warp with levelAt := s.warp.levelAt, levelEpisode := s.warp.levelEpisode } }

/-- What a wake from DEEP or DEW finds: PD_AON with the power controller, and the comparator's last sample. -/
def wakeCold (s : State) : State :=
  { coldState s with adc := { dewLast := s.adc.dewLast } }

/-- The boot of a wake from DEEP or DEW: the banks come back before the services start. -/
def wakeDeep (source : BitVec 4) (ok : BitVec 4) (env : BootEnv) (s : State) : State :=
  let s1 := bootImage env (startClocks 7 env (wakeCold s))
  let s2 := loadPersisted (bootCounters 7 s1.1)
  let s3 := noteWake source (noteBanks ok (restoreDeep ok s2))
  let s4 := startServices (bootLockout s3)
  let s5 := loadHedge env.hedgeRead env.hedgeParity (trainLinks env { s4 with aon := { s4.aon with wakeOut := true } })
  let s6 := setLamp (s5.bootLamp true) s5
  let s7 := reportBanks ok (bootReports s1.2 (readCalset (startAdc (startGrid s6))))
  bootPack (bootGridStage s7)

/-- A power state in which a source of Table 17-5 acts. -/
def wakeActs (source : Fin 7) (p : PowerState) : Bool :=
  match source.val, p with
  | 0, .run => false
  | 0, _ => true
  | 1, .sleep | 2, .sleep => true
  | 3, .dew => true
  | 4, .sleep | 4, .deep | 4, .dew => true
  | 6, .idle | 6, .sleep => true
  | _, _ => false

/-- What the block itself knows of a source's condition: a queued request, confirmed samples, the timer, a fault. -/
def State.wakeHolds (s : State) (source : Fin 7) : Bool :=
  match source.val with
  | 1 => !s.net.can.queue.isEmpty
  | 2 => !s.net.t1s.queue.isEmpty
  | 3 => decide (s.power.dewConfirm.toNat ≤ s.power.dewRun)
  | 4 => s.power.wakeTimer != 0
  | 6 => s.power.thermalWake || (s.power.heldReports.any fun r => decide (2 ≤ r.cls))
      || (s.safety.power == .idle && (s.aon.thermalHold || s.faults.queue.any fun r => r.inForce && decide (2 ≤ r.cls)))
  | _ => true

end Sys2Proof.Machine
end

