-- ==== Sys2Proof/Machine/ObjAccess.lean ====
section
/-!
DEFINITION. Machine/ObjAccess.lean: the execution of a write in the order of Table 13-6: the access codes (R9, R255, R291),
and the effect of every object whose write is an action; and of a read (R288).
-/
namespace Sys2Proof.Machine

/-- How the execution of a write ends: answered, refused, answered later, answered with the failure of a long operation that it
started and that has ended at once, or followed by a reset. -/
inductive Effect where
  | done (s : State)
  | refused (a : Abort) (s : State)
  | awaits (w : Awaits) (boundMs : Nat) (s : State)
  | ended (op : LongOp) (boundMs : Nat) (a : Abort) (s : State)
  | reset (env : BootEnv) (s : State)
  deriving DecidableEq, Repr

/-- The state an effect leaves, before any reset that follows it. -/
def Effect.state : Effect → State
  | .done s | .refused _ s | .awaits _ _ s | .ended _ _ _ s | .reset _ s => s

def effectOf (s : State) : Except Abort State → Effect
  | .ok t => .done t
  | .error a => .refused a s

/-- An action that leaves RESULT behind when it is refused (R130, R136, R138). -/
def effectOfBool (r : Bool × State) : Effect := if r.1 then .done r.2 else .refused .stateConflict r.2

/-- A BOOL whose 1 acts and whose 0 does nothing (R303). -/
def boolEffect (b : List Byte) (s : State) (act : Effect) : Effect :=
  if 1 < le b then .refused .valueRange s else if le b = 1 then act else .done s

/-! ### password (R255 to R258) -/

/-- The requester holds the unlock. -/
def State.holds (s : State) (r : Requester) : Bool := s.access.holder == some (r.carrier, r.src)

/-- Salt of a generation (R256). -/
def State.saltOf (s : State) (generation : U32) : List Byte := bytes64 s.cairn.serial ++ bytes32 generation ++ zeros 4

/-- The next generation's salt and hash are stored (R256). -/
def setPassword (pw : List Byte) (s : State) : State :=
  let g := s.access.generation + 1
  let salt := s.saltOf g
  s.modAccess fun a => { a with generation := g, salt := salt, hash := sha256 (salt ++ pw) }

/-- An entry about no object, or about the password. -/
def logAccess (kind : Byte) (index : U16) (sub : Byte) (r : Requester) (s : State) : State × Bool :=
  logChange kind index sub r.carrier r.src 0 0 s

/-- FAILS and a running lockout are written to Cairn (R257); a write that fails is reported (R385). -/
def storeFails (s : State) : State :=
  if s.cairn.failing then cairnFailure s
  else s.modAccess fun a => { a with failsStored := a.fails, lockoutStored := a.lockoutFrom.isSome }

/-- The unlock is granted once its entry is stored. -/
def grantUnlock (r : Requester) (s : State) : Effect :=
  match logAccess 2 0 0 r s with
  | (s1, false) => .refused .accessDenied s1
  | (s1, true) =>
    .done (storeFails (s1.modAccess fun a =>
      { a with holder := some (r.carrier, r.src), fails := 0, lastEffective := s1.clock }))

/-- A failing UNLOCK; the fifth one starts the lockout (R257). -/
def failUnlock (r : Requester) (s : State) : Effect :=
  let s1 := (logAccess 3 0 0 r s).1
  let n := s.access.fails + 1
  let s2 := s1.modAccess fun a => { a with fails := n }
  if n.toNat < 5 then .refused .accessDenied (storeFails s2)
  else .refused .accessDenied
    (storeFails (((logAccess 4 0 0 r s2).1).modAccess fun a => { a with lockoutFrom := some s2.clock }))

/-- A new password, with its entry first (R256, R258). -/
def changePassword (r : Requester) (pw : List Byte) (s : State) : State × Bool :=
  match logAccess 7 0x6020 3 r s with
  | (s1, false) => (s1, false)
  | (s1, true) => (setPassword pw s1, true)

/-- The password is of a valid length, one is stored, and the hashes differ: a failure (R257). -/
def State.wrongPassword (s : State) (pw : List Byte) : Bool :=
  decide (8 ≤ pw.length) && s.access.hash != [] && sha256 (s.access.salt ++ pw) != s.access.hash

/-- A write of UNLOCK, of at most 32 bytes, in the order of Table 13-6: a failure is ACCESS_DENIED before the lamp state is
judged. A second requester is refused whatever it writes and does not count (R255). -/
def unlockWrite (r : Requester) (pw : List Byte) (s : State) : Effect :=
  if s.access.lockoutFrom.isSome then .refused .accessDenied (logAccess 5 0 0 r s).1
  else if s.access.holder.any fun h => h != (r.carrier, r.src) then .refused .stateConflict s
  else if s.wrongPassword pw then failUnlock r s
  else if s.safety.lamp ≠ .parked then .refused .stateConflict s
  else if pw.length < 8 then .refused .valueRange s
  else if s.access.hash = [] then
    match changePassword r pw s with
    | (s1, false) => .refused .accessDenied s1
    | (s1, true) => grantUnlock r s1
  else grantUnlock r s

/-- A write of LOCK. -/
def lockWrite (r : Requester) (b : List Byte) (s : State) : Effect :=
  if !s.holds r then .refused .accessDenied s
  else boolEffect b s (.done ((logAccess 6 0 0 r s).1.modAccess fun a => { a with holder := none }))

/-- The conditions of R255 on a write of an RWP object. -/
def State.rwpAllowed (s : State) (r : Requester) : Bool := s.safety.lamp == .parked && s.holds r

/-- A write of PW_NEW. -/
def pwNewWrite (r : Requester) (pw : List Byte) (s : State) : Effect :=
  if !s.rwpAllowed r then .refused .accessDenied s
  else if pw.length < 8 then .refused .valueRange s
  else
    match changePassword r pw s with
    | (s1, false) => .refused .accessDenied s1
    | (s1, true) => .done (s1.modAccess fun a => { a with lastEffective := s1.clock })

/-! ### parameters -/

/-- A value in a change-log entry (Table 11-10). -/
def logValue (b : List Byte) (isDomain : Bool) : U32 :=
  if isDomain || 4 < b.length then crc32cOf b else w32 (le b)

/-- A value persisted with its write (R308). GORSE_MIN_VERSION has a home of its own (Table 18-6). -/
def persist (index sub : Nat) (b : List Byte) (s : State) : State :=
  if index = 0x8850 then s
  else { s with cairn := { s.cairn with persisted :=
    (s.cairn.persisted.filter fun v => !(v.index == w16 index && v.sub == w8 sub))
      ++ [⟨w16 index, w8 sub, b, crc32cOf b⟩] } }

/-- A write of a parameter that takes any holder. -/
def plainWrite (index sub : Nat) (b : List Byte) (s : State) : Effect :=
  match setParam index sub b s with
  | some t => .done t
  | none => .refused .valueRange s

/-- A write of an RWP parameter: the entry, the stored value, then the effect (R258, R308). -/
def rwpWrite (r : Requester) (index sub : Nat) (isDomain : Bool) (b : List Byte) (s : State) : Effect :=
  if !s.rwpAllowed r then .refused .accessDenied s
  else
    match setParam index sub b s with
    | none => .refused .valueRange s
    | some t =>
      let old := logValue (s.objectValue r.carrier index sub) isDomain
      let new := logValue (t.objectValue r.carrier index sub) isDomain
      match logChange 1 (w16 index) (w8 sub) r.carrier r.src old new s with
      | (s1, false) => .refused .accessDenied s1
      | (s1, true) =>
        match setParam index sub b s1 with
        | none => .refused .valueRange s1
        | some u => .done ((persist index sub b u).modAccess fun a => { a with lastEffective := u.clock })

/-! ### layers (R53 to R57, R139) -/

/-- A staging write: the layer is neither CHECKING nor owned by the schedule. -/
def stageWrite (n : Fin 8) (index sub : Nat) (b : List Byte) (s : State) : Effect :=
  if (s.layer n).check.isSome || inMask s.sched.owned n then .refused .stateConflict s
  else plainWrite index sub b s

/-- A commit is answered when its check has ended (R289). -/
def commitEffect (w : Awaits) (s : State) : Except Abort State → Effect
  | .ok t => .awaits w 0 t
  | .error a => .refused a s

/-- Ln_COMMIT (Table 3-7). -/
def commitWrite (n : Fin 8) (w : U32) (s : State) : Effect :=
  let kind := BitVec.ofNat 4 (fld w 12 4)
  let num := BitVec.ofNat 4 (fld w 8 4)
  match fld w 0 2 with
  | 0 => .done s
  | k =>
    if inMask s.sched.owned n then .refused .stateConflict s
    else match k with
      | 1 => commitEffect (.commit n) s (commitLayer n (BitVec.ofNat 16 (fld w 16 16)) kind num s)
      | 2 => effectOf s (cancelLayer n s)
      | _ => effectOf s (discardLayer n s)

/-- GROUP_COMMIT (Table 3-9). -/
def groupWrite (w : U32) (s : State) : Effect :=
  let mask := BitVec.ofNat 8 (fld w 24 8)
  if mask &&& s.sched.owned ≠ 0 then .refused .stateConflict s
  else
    let r := commitGroup mask (BitVec.ofNat 16 (fld w 0 16)) (BitVec.ofNat 4 (fld w 20 4)) (BitVec.ofNat 4 (fld w 16 4)) s
    if mask = 0 then effectOf s r else commitEffect (.group mask) s r

/-! ### packs and banks (chapter 6) -/

/-- Whole ms, rounded up, of MGMT cycles and one frame period. -/
def boundOf (mgmtCycles : Nat) (div : Byte) : Nat :=
  let tu := 510 * mgmtCycles + (periodTu div).toNat
  (tu + 203999999) / 204000000

/-- Bound of an activation (R135). -/
def State.activateBound (s : State) : Nat :=
  boundOf ((s.pack.directory.map fun e => (e.length.toNat + 7) / 8 + 20000).sum) s.frame.divUsed

/-- The start of an activation: a long operation, which a failing CONTENT entry or a bank that takes no request ends within the
write (R134, R135, R294). -/
def activateEffect (r : Bool × State) : Effect :=
  if !r.1 then .refused .stateConflict r.2
  else if r.2.pack.state ≠ .activating then .ended .activate r.2.activateBound .stateConflict r.2
  else .awaits (.long .activate) r.2.activateBound r.2

/-- LOAD_FLASH names a slot within the flash (R379). -/
def loadFlashEffect (slot : Byte) (s : State) : Effect :=
  let r := packOpen (some slot) s
  if !r.1 then .refused .stateConflict r.2
  else if !s.slotInFlash slot then .refused .valueRange s
  else .done r.2

/-- PACK_CTRL (Table 6-14). A stopped Gorse refuses its actions (R355). -/
def packWrite (w : U32) (s : State) : Effect :=
  match fld w 0 4 with
  | 0 => .done s
  | k =>
    if s.blockStopped 5 then .refused .stateConflict s
    else match k with
      | 1 => loadFlashEffect (BitVec.ofNat 8 (fld w 8 8)) s
      | 2 => effectOfBool (packOpen none s)
      | 3 => effectOfBool (packClose s)
      | 4 => activateEffect (packActivate s)
      | 5 => effectOfBool (packCancel s)
      | _ => .refused .valueRange s

/-- BANK_CTRL of pair `p`. -/
def bankWrite (p : Fin 8) (w : U32) (s : State) : Effect :=
  let k := fld w 0 4
  if p.val < 2 ∨ s.blockStopped 5 ∨ (p = 7 ∧ (k = 1 ∨ k = 2)) then .refused .stateConflict s
  else match k with
    | 1 => effectOf s (bankOpen p s)
    | 2 => effectOf s (bankSwap p s)
    | 3 => .done (bankCancel p s)
    | _ => .refused .valueRange s

/-! ### links and test sessions -/

/-- SVH_CTRL (Table 8-16a). A link stopped for a power-state entry is neither lit nor trained (R355). -/
def svhWrite (w : U32) (s : State) : Effect :=
  let ps := BitVec.ofNat 2 (fld w 8 2)
  if s.blockStopped 7 && (ps == 0 || w.getLsbD 0) then .refused .stateConflict s
  else if ps = 3 then .refused .valueRange s
  else
    let s1 : State := { s with
      svh := { s.svh with txPs := ps, linkUp := s.svh.linkUp && !(s.svh.txPs == 2 && ps != 2) }
      power := { s.power with idledTx := false } }
    .done (if w.getLsbD 0 then svhDown s1 else s1)

/-- SVE_CTRL of link `n`. -/
def sveWrite (n : Fin 2) (w : U32) (s : State) : Effect :=
  if s.blockStopped 2 then .refused .stateConflict s
  else
    match setSveCtrl n (BitVec.ofNat 2 (fld w 8 2)) (BitVec.ofNat 2 (fld w 4 2)) (w.getLsbD 0) s with
    | .error a => .refused a s
    | .ok t => .done t

/-- SCHED_START: a stopped Gorse starts no schedule (R355). -/
def schedStartWrite (w : U32) (s : State) : Effect :=
  if s.blockStopped 5 then .refused .stateConflict s else effectOfBool (schedStart w s)

/-- FMAP_CTRL: a stopped Gorse copies no map and builds no bank (R355). -/
def fmapWrite (n : Fin 2) (w : U32) (s : State) : Effect :=
  if s.blockStopped 5 && (fld w 0 4 == 1 || fld w 0 4 == 4) then .refused .stateConflict s else effectOf s (fmapCtrl n w s)

def testCtrlWrite (w : U32) (s : State) : Effect :=
  if s.blockStopped 2 || s.blockStopped 7 then .refused .stateConflict s else effectOf s (setTestCtrl w s)

/-! ### lamp and power commands -/

/-- A POWER_CMD 0x00 or a LAMP_CMD in IDLE wakes where WAKE_EN enables source 5 (Table 17-5). -/
def commandWake (s : State) : State :=
  if s.safety.power == .idle && s.power.wakeEn.getLsbD 5 then wakeIdle 5 s else s

/-- LAMP_CMD. -/
def lampWrite (r : Requester) (v : Byte) (s : State) : Effect :=
  match lampCmd v (s.holds r) s with
  | .error a => .refused a s
  | .ok t => if s.safety.power = .run then .done t else effectOf s (lampCmd v (s.holds r) (commandWake s))

/-- The power state of a POWER_CMD code (Table 11-2). -/
def powerOf : Nat → Option PowerState
  | 0 => some .run | 1 => some .idle | 2 => some .sleep | 3 => some .deep | 4 => some .dew | 5 => some .off
  | _ => none

/-- POWER_CMD (R353). -/
def powerWrite (v : Nat) (s : State) : Effect :=
  match powerOf v with
  | none => .refused .valueRange s
  | some .run => .done (commandWake s)
  | some t =>
    match enterPower t s with
    | .ok u => .awaits .power 0 u
    | .error a => .refused a s

/-! ### faults, DMA, check units -/

def clearWrite (q : U16) (s : State) : Effect :=
  match faultClear q s with
  | (.done, t) => .done t
  | (.noRecord, _) => .refused .valueRange s
  | (.conflict, _) => .refused .stateConflict s

/-- CH_CTRL; a STOP that the sender gives no count takes a free one (log entry 25). -/
def chWrite (k : Fin 8) (w : U32) (moved : Option Nat) (s : State) : Effect :=
  match fld w 0 4 with
  | 0 => .done s
  | 1 => effectOf s (goChannel k s)
  | 2 =>
    match moved with
    | some n => .done (stopChannel k n s)
    | none => .done (stopChannel k (Config.movedBytes s.freeCount) (drawn s))
  | _ => .refused .valueRange s

/-- CHK_CFG (R325, R329, R333). -/
def chkCfgWrite (k : Fin 8) (index : Nat) (b : List Byte) (s : State) : Effect :=
  if k.val < 3 ∨ (s.chk k).busy ∨ (le b % 16 = 15 ∧ !s.customAllowed) then .refused .stateConflict s
  else plainWrite index 2 b s

/-- The objects of a check-unit channel. -/
def chkWrite (k : Fin 8) (index sub : Nat) (b : List Byte) (s : State) : Effect :=
  match sub with
  | 1 => effectOf s (chkCtrl k (w32 (le b)) s)
  | 2 => chkCfgWrite k index b s
  | 3 | 4 => if k.val < 3 ∨ (s.chk k).busy then .refused .stateConflict s else plainWrite index sub b s
  | 5 => effectOf s (chkFeed k b s)
  | 7 => if k.val < 3 then .refused .stateConflict s else plainWrite index sub b s
  | _ => if !s.customAllowed then .refused .stateConflict s else plainWrite index sub b s

/-! ### persistence and the calibration set (R309, R311, R386 to R388) -/

/-- NVM_CMD in PARKED. -/
def nvmWrite (v : Nat) (s : State) : Effect :=
  match v with
  | 1 =>
    if s.cairn.writing.isSome || s.blockStopped 5 then .refused .stateConflict s
    else .awaits (.long .store) 5 { s with cairn := { s.cairn with writing := some s.storeValues } }
  | 2 =>
    if s.cairn.failing then .refused .accessDenied (cairnFailure s)
    else .done { s with cairn := { s.cairn with snapshot := [], writeFailed := false } }
  | _ => .refused .valueRange s

/-- Words that the header of a set gives a tile. -/
def setWords (h : List Byte) (n : Fin 2) : Nat := le (slice h (0x18 + 4 * n.val) 4)

/-- Bytes of a set's words in field memory. -/
def State.setBytes (s : State) (src : Nat) (h : List Byte) (n : Fin 2) : List Byte :=
  s.fmRead (src + 0x1000 + 0x200000 * n.val) (2 * setWords h n)

/-- WORDSn agrees with TILE_KINDn (Table 18-7). -/
def setKindOk (h : List Byte) (n : Fin 2) : Bool :=
  match (byteAt h (6 + n.val)).toNat with
  | 0 => setWords h n == 0x100000
  | 1 => setWords h n == 0xC0000
  | 0xFF => setWords h n == 0
  | _ => false

/-- DIGEST_n against the words and against the trained tile; a side without a tile has words and digest of none. -/
def State.setDigestOk (s : State) (src : Nat) (h : List Byte) (n : Fin 2) : Bool :=
  let words := s.setBytes src h n
  slice h (0x20 + 0x20 * n.val) 32 == sha256 words
  && ((byteAt h (6 + n.val) == 0xFF && (s.link n).descriptor == []) || digestOk h words n (s.link n).calDigest)

/-- Bytes from the start of the region to the end of the set. -/
def setLength (h : List Byte) : Nat := 0x201000 + 2 * setWords h 1

/-- Stage 1 of R388. -/
def State.setOk (s : State) (src : Nat) : Bool :=
  let h := s.fmRead src 0x1000
  calsetHeaderOk h && setKindOk h 0 && setKindOk h 1 && decide (src + setLength h ≤ tableStart)
  && !s.badIn src (setLength h) && s.setDigestOk src h 0 && s.setDigestOk src h 1

/-- The uncorrectable words that the read of a set meets (R272). -/
def State.setBad (s : State) (src : Nat) : List Nat :=
  let h := s.fmRead src 0x1000
  s.badWords src (if calsetHeaderOk h then setLength h else 0x1000)

/-- The sectors of a set while they are erased and programmed: every byte open. -/
def openCalset (len : Nat) (s : State) : State :=
  let open_ := (List.range len).map fun i => Config.flashNoise (s.freeCount + i)
  { s with freeCount := s.freeCount + len, mem := { s.mem with flash := cellWrite flashReset s.mem.flash calsetBase open_ } }

/-- The 64 KiB sectors that a set of `len` bytes occupies, in bytes. -/
def sectorSpan (len : Nat) : Nat := (len + 0xFFFF) / 0x10000 * 0x10000

/-- Stage 2: VALID is unwritten until the end (R388). -/
def programCalset (h : List Byte) (s : State) : State :=
  let s1 := openCalset (sectorSpan (setLength h)) s
  { s1 with mem := { s1.mem with flash := cellClear s1.mem.flash (calsetBase + 0xFFC) 4 } }

/-- The bound in ms (R388). -/
def State.calsetBound (s : State) : Nat :=
  65 * s.clocks.eraseMs + (16400 * s.clocks.programUs + 999) / 1000 + 100

/-- CALSET_WRITE: a long operation from the state test on. Stage 1 looks at the set as it stands here; where it fails the flash
stays untouched, and the operation ends with CALSET_WRITE_END (R388, R294). -/
def calsetWrite (s : State) : Effect :=
  let src := s.mgmt.calsetSrc
  if s.safety.lamp ≠ .parked ∨ s.mgmt.calsetWriting ∨ s.blockStopped 5 then .refused .stateConflict s
  else
    let ok := s.setOk src.toNat
    let t := if ok then programCalset (s.fmRead src.toNat 0x1000) s else reportBad (s.setBad src.toNat) s
    .awaits (.long .calset) s.calsetBound { t with mgmt := { t.mgmt with
      calsetFailed := false, calsetDigestOk := ok, calsetChecked := ok, calsetWriting := true, calsetFrom := src
      calsetValid := t.mgmt.calsetValid && !ok } }

/-! ### RESET_CMD (R378) -/

/-- A lamp state in which the device takes RESET_CMD (R378). -/
def State.resetAllowed (s : State) : Bool :=
  match s.safety.lamp with
  | .parked | .test | .recovery | .limp => true
  | _ => false

def resetWrite (v : U32) (env : Option BootEnv) (s : State) : Effect :=
  if !s.resetAllowed then .refused .stateConflict s
  else if v ≠ 0x5AA5C33C then .refused .valueRange s
  else match env with
    | some e => .reset e s
    | none => .reset (Config.bootEnv s.freeCount) (drawn s)

/-- DESC_SEL of the port (R307). -/
def descSelWrite (c : Carrier) (w : U32) (s : State) : Effect :=
  let x := w &&& 0x00FFFFFF
  let index := fld x 8 16
  if s.indexServed index && (objOf index (fld x 0 8)).isSome then .done (s.modPort c fun p => { p with descSel := x })
  else .refused .valueRange s

/-- WIN_BASE and WIN_SIZE: an error of the buffer that the window has open (R166). -/
def windowWrite (w : Fin 16) (index sub : Nat) (b : List Byte) (s : State) : Effect :=
  match setParam index sub b s with
  | none => .refused .valueRange s
  | some t => .done (if (t.window w).opened then windowError w t else t)

/-! ### the write of an object -/

/-- Objects of chapters 3 to 10 whose write is an action, or has a state of its own to respect. -/
def writeScene (index base m sub : Nat) (b : List Byte) (s : State) : Option Effect :=
  let w := w32 (le b)
  match base, sub with
  | 0x2010, 1 => some (groupWrite w s)
  | 0x2100, _ | 0x2101, _ => some (stageWrite (fin8 m) index sub b s)
  | 0x2102, 1 => some (commitWrite (fin8 m) w s)
  | 0x3800, 1 => some (packWrite w s)
  | 0x3810, 1 => some (bankWrite (fin8 m) w s)
  | 0x3830, 1 => some (schedStartWrite w s)
  | 0x3830, 2 => some (boolEffect b s (.done (stopSchedule 0 s)))
  | 0x4800, 1 => some (svhWrite w s)
  | 0x4810, 1 | 0x4810, 2 => some (windowWrite (fin16 m) index sub b s)
  | 0x4840, 1 => some (sveWrite (fin2 m) w s)
  | 0x4860, 1 => some (testCtrlWrite w s)
  | 0x5010, 1 => some (fmapWrite (fin2 m) w s)
  | _, _ => none

/-- The same for chapters 11 to 18. -/
def writeControl (q : Request) (index base m sub : Nat) (b : List Byte) (s : State) : Option Effect :=
  let w := w32 (le b)
  match base, sub with
  | 0x0110, 1 => some (descSelWrite q.r.carrier w s)
  | 0x6000, 3 => some (lampWrite q.r (w8 (le b)) s)
  | 0x6000, 5 => some (effectOf s (setTestSource (w8 (le b)) s))
  | 0x6020, 1 => some (unlockWrite q.r b s)
  | 0x6020, 2 => some (lockWrite q.r b s)
  | 0x6020, 3 => some (pwNewWrite q.r b s)
  | 0x6800, 5 => some (.done (faultAck (w16 (le b)) s))
  | 0x6800, 6 => some (clearWrite (w16 (le b)) s)
  | 0x7010, 1 => some (chWrite (fin8 m) w q.moved s)
  | 0x7410, _ => some (chkWrite (fin8 m) index sub b s)
  | 0x8000, 1 => some (powerWrite (le b) s)
  | 0x8040, 3 => some (boolEffect b s (.done { s with aon := { s.aon with wakeOut := false } }))
  | 0x8800, 1 => some (nvmWrite (le b) s)
  | 0x8810, 2 => some (boolEffect b s (calsetWrite s))
  | 0x8830, 1 => some (resetWrite w q.env s)
  | _, _ => none

/-- The effect of a write that passed the checks of index, access code and length. -/
def writeEffect (q : Request) (o : Obj) (index base m sub : Nat) (b : List Byte) (s : State) : Effect :=
  if o.acc = .rwl && s.safety.lamp ≠ .parked then .refused .stateConflict s
  else
    match (writeScene index base m sub b s).orElse fun _ => writeControl q index base m sub b s with
    | some e => e
    | none => if o.acc = .rwp then rwpWrite q.r index sub o.ty.isDomain b s else plainWrite index sub b s

/-- Checks of a write of `len` bytes that look at the object alone, in the order of Table 13-6. -/
def State.writeCheck (s : State) (index sub len : Nat) : Option Abort :=
  if !s.indexServed index then some .noObject
  else
    match objOf index sub with
    | none => some .noSubindex
    | some o =>
      if o.acc = .ro then some .readOnly
      else if (if o.ty.isDomain then o.ty.size < len else len ≠ o.ty.size) then some (.length o.ty.size)
      else none

/-- A write executed (R291). -/
def executeWrite (q : Request) (s : State) : Effect :=
  let index := q.d.index.toNat
  let sub := q.d.sub.toNat
  match s.writeCheck index sub q.d.data.length with
  | some a => .refused a s
  | none =>
    match rowOf index, objOf index sub with
    | some r, some o => writeEffect q o index r.1.index r.2 sub q.d.data s
    | _, _ => .refused .noObject s

/-- A write whose effect is a long operation (R284, Table 13-7). -/
def isLongWrite (d : Pdu) : Bool :=
  (d.index == 0x3800 && d.sub == 1 && le d.data % 16 == 4)
  || (d.index == 0x8800 && d.sub == 1 && le d.data == 1)
  || (d.index == 0x8810 && d.sub == 2 && le d.data == 1)

/-- The object is RWP. -/
def isRwp (d : Pdu) : Bool := (objOf d.index.toNat d.sub.toNat).any fun o => o.acc == .rwp

/-! ### reads -/

/-- An entry of a ring disagrees with the CRC-32C stored at its end; an empty one holds none. -/
def entryDamaged (e : List Byte) : Bool := decide (4 ≤ e.length) && u32At e (e.length - 4) != crc32cOf (e.take (e.length - 4))

/-- A record's 16 bytes disagree with their CRC-16; FAULT_SEL beyond the queue shows none. -/
def recordDamaged (b : List Byte) : Bool := b != zeros 16 && u16At b 14 != crc16Of (b.take 14)

/-- What the device finds in the bytes that a read returns: a LOG_ENTRY (R259), HIST_ENTRY (R281) or TS_REC_ENTRY (R350) whose
stored CRC fails is class 1, unit 0x21; a FAULT_RECORD (R269), class 1, unit 0x02. The bytes are returned as stored. -/
def noteRead (index sub : Nat) (b : List Byte) (s : State) : State :=
  match index, sub with
  | 0x6030, 3 | 0x6820, 3 | 0x7C20, 5 => if entryDamaged b then report1 0x21 0x1A 0xFF s else s
  | 0x6800, 4 => if recordDamaged b then report1 0x02 0x23 0xFF s else s
  | _, _ => s

/-- The value of a read, or the refusal of index and subindex. -/
def readValue (c : Carrier) (index sub : Nat) (s : State) : Except Abort (List Byte) :=
  if !s.indexServed index then .error .noObject
  else if (objOf index sub).isNone then .error .noSubindex
  else .ok (s.objectValue c index sub)

end Sys2Proof.Machine
end

