-- ==== Sys2Proof/Machine/Ports.lean ====
section
/-!
DEFINITION. Machine/Ports.lean: the object-access ports (R283 to R296): reception, the queue, repeats, segmented transfers,
long operations and BUSY, responses and event telegrams.
-/
namespace Sys2Proof.Machine

/-- Largest data field of a carrier (R287). -/
def maxData : Carrier → Nat
  | .can => 56
  | _ => 1008

/-! ### frames (R285, R286, R298) -/

/-- The next length that CAN FD allows for a data field. -/
def canLength (n : Nat) : Nat := ([8, 12, 16, 20, 24, 32, 48].find? fun k => decide (n ≤ k)).getD 64

/-- The 29-bit identifier (Table 13-2). -/
def canId (func : Byte) (dest src : BitVec 10) : BitVec 29 :=
  BitVec.ofNat 29 (func.toNat * 2 ^ 25 + dest.toNat * 2 ^ 10 + src.toNat)

/-- The 8-byte carrier header of T1S and Svarn-H (R286). -/
def carrierHeader (func : Byte) (dest src : BitVec 10) (len : Nat) : List Byte :=
  [1, func] ++ leBytes 2 dest.toNat ++ leBytes 2 src.toNat ++ leBytes 2 len

/-- A frame of the device on a carrier: padded with zero bytes to a length of CAN FD, to 46 bytes on T1S, to a multiple of 4 in
an OBJ packet (R169). -/
def frameOn (c : Carrier) (func : Byte) (dest src : BitVec 10) (e : Envelope) (payload : List Byte) : Wire :=
  let framed := carrierHeader func dest src payload.length ++ payload
  match c with
  | .can => .can (canId func dest src) (padTo (canLength payload.length) payload)
  | .t1s => .t1s e.mac e.tag (padTo (max 46 framed.length) framed)
  | .svh => .obj (padTo ((framed.length + 3) / 4 * 4) framed)

/-- The node ID in force, as an address. -/
def State.node (s : State) : BitVec 10 := s.net.nodeActive.setWidth 10

/-- The PDU of a response (Table 13-4). -/
def Response.pdu (x : Response) : List Byte :=
  [x.cmd, x.tid] ++ bytes16 x.index ++ [x.sub, x.seg] ++ leBytes 2 x.data.length ++ x.data

/-- The frame of a response: FUNC RESPONSE to the requester's node and MAC address. -/
def State.responseFrame (s : State) (c : Carrier) (x : Response) : Wire := frameOn c 2 x.dest s.node x.envelope x.pdu

/-- The frame of an event telegram: FUNC EVENT to DEST 0, on T1S to the broadcast address, with the head of Table 8-6. -/
def State.eventFrame (s : State) (c : Carrier) (e : Event) : Wire :=
  frameOn c 4 0 s.node ⟨broadcastMac, none⟩ ([e.code, 0] ++ bytes16 e.seq ++ e.body)

/-- OBJ reply: the frame of a response, in a packet of Svarn-H (R162, R169). -/
def State.replyPacket (s : State) (x : Response) : Packet :=
  sentPacket 0x81 (match s.responseFrame .svh x with
    | .obj b => b
    | _ => [])

/-- The packet that the Svarn-H transmitter sends (R170). -/
def State.outboundPacket (s : State) : Outbound → Packet
  | .reply x => s.replyPacket x
  | .event e => e.packet
  | .readback b => b.packet

/-! ### responses -/

/-- A response to a request, whose header it echoes. -/
def responseTo (q : Request) (cmd : Byte) (data : List Byte) : Response :=
  { cmd := cmd, tid := q.r.tid, index := q.d.index, sub := q.d.sub, seg := q.d.seg, data := data, dest := q.r.src
    envelope := q.r.envelope }

def abortData (a : Abort) : List Byte := bytes16 a.code ++ bytes16 a.detail

/-- A broadcast gets no response (R284). -/
def Request.silent (q : Request) : Bool := q.r.dest == 0

/-- A response is queued: on Svarn-H behind the transmitter, on a network carrier it is sent. -/
def sendResponse (c : Carrier) (x : Response) (s : State) : State :=
  let s1 := s.modPort c fun p => { p with last := some x, wire := some (s.responseFrame c x), txOk := if c = .svh then p.txOk else satInc p.txOk }
  if c = .svh then { s1 with svh := { s1.svh with replies := s1.svh.replies ++ [x] } } else s1

/-- The entry of R290 is that of the request. -/
def Answered.isOf (a : Answered) (q : Request) : Bool :=
  a.src == q.r.src && a.cmd == q.cmd && a.tid == q.r.tid && a.index == q.d.index && a.sub == q.d.sub && a.seg == q.d.seg

/-- The final answer to a request: sent, and kept for a repeat (R290). -/
def answer (q : Request) (cmd : Byte) (data : List Byte) (s : State) : State :=
  if q.silent then s
  else
    let x := responseTo q cmd data
    let keep (a : Answered) : Answered := if a.isOf q then { a with response := some x } else a
    sendResponse q.r.carrier x (s.modPort q.r.carrier fun p => { p with answered := p.answered.map keep })

def answerAbort (q : Request) (a : Abort) (s : State) : State := answer q 0xFF (abortData a) s

/-- WRITE done, or SEGMENT_LAST done. -/
def answerDone (q : Request) (s : State) : State := answer q (if q.cmd = 6 then 0x86 else 0x82) [] s

/-- The last request of a node is noted; the port remembers 8 nodes (R290). -/
def noteRequest (q : Request) (s : State) : State :=
  s.modPort q.r.carrier fun p => { p with
    answered := (⟨q.r.src, q.cmd, q.r.tid, q.d.index, q.d.sub, q.d.seg, s.clock, none⟩
      :: p.answered.filter fun a => a.src != q.r.src).take 8 }

/-! ### BUSY (R294) -/

/-- A port runs a long operation. -/
def Port.longService (p : Port) : Option (Service × LongOp) :=
  match p.service with
  | some v => match v.awaits with
    | .long op => some (v, op)
    | _ => none
  | none => none

/-- Remaining ms, a bound rounded up. An activation that outlives the bound of R135 is bounded by ACTIVATE_TIMEOUT. -/
def State.estimate (s : State) (v : Service) (op : LongOp) : Nat :=
  let left := v.boundMs - s.msSince v.startedAt
  if left = 0 ∧ op = .activate then
    boundOf 0 s.frame.divUsed * (s.pack.activateTimeout.toNat - s.pack.activateCloses)
  else left

/-- The object whose write starts a long operation (Table 13-7). -/
def LongOp.object : LongOp → U16 × Byte
  | .activate => (0x3800, 1)
  | .store => (0x8800, 1)
  | .calset => (0x8810, 2)

/-- The data of a BUSY response about the operation in service. -/
def State.busyData (s : State) (v : Service) (op : LongOp) : List Byte :=
  bytes32 (w32 (s.estimate v op)) ++ bytes16 op.object.1 ++ [op.object.2, 0]

/-- BUSY to a requester; it is not the answer that R290 keeps, except for the operation's own request. -/
def sendBusy (q : Request) (v : Service) (op : LongOp) (s : State) : State :=
  if q.silent then dropFrame q.r.carrier s
  else sendResponse q.r.carrier (responseTo q 0xFE (s.busyData v op)) s

/-! ### segmented transfers (R292, R293) -/

def endTransfer (c : Carrier) (s : State) : State := s.modPort c fun p => { p with transfer := none }

/-- A transfer that another node has open. -/
def Port.foreignTransfer (p : Port) (src : BitVec 10) : Bool := p.transfer.any fun t => t.owner != src

/-- ACCESS_DENIED to a write of an object whatever its value: the conditions of R255, UNLOCK in lockout, LOCK of another. -/
def State.deniesWrite (s : State) (q : Request) : Bool :=
  match q.d.index.toNat, q.d.sub.toNat with
  | 0x6020, 1 => s.access.lockoutFrom.isSome
  | 0x6020, 2 => !s.holds q.r
  | i, j => (objOf i j).any fun o => o.acc == .rwp && !s.rwpAllowed q.r

/-- STATE_CONFLICT to a write of an object whatever its value: the lamp state, a block stopped for a power-state entry or the
object's own state forbids it. -/
def State.conflictsWrite (s : State) (q : Request) : Bool :=
  let sub := q.d.sub.toNat
  ((objOf q.d.index.toNat sub).any fun o => o.acc == .rwl && s.safety.lamp != .parked)
  || match rowOf q.d.index.toNat with
    | none => false
    | some r =>
      let k := fin8 r.2
      match r.1.index, sub with
      | 0x2100, _ | 0x2101, _ => (s.layer k).check.isSome || inMask s.sched.owned k
      | 0x3810, 1 => decide (k.val < 2) || s.blockStopped 5
      | 0x3830, 1 => s.blockStopped 5
      | 0x4840, 1 => s.blockStopped 2
      | 0x4860, 1 => s.safety.lamp != .test || s.safety.testSource != 0 || s.blockStopped 2 || s.blockStopped 7
      | 0x6000, 3 => s.safety.lamp == .start || s.safety.lamp == .limp
      | 0x6000, 5 => s.safety.lamp != .test
      | 0x6020, 1 => (s.access.holder.any fun h => h != (q.r.carrier, q.r.src)) || s.safety.lamp != .parked
      | 0x7410, 1 => decide (k.val < 3)
      | 0x7410, 2 | 0x7410, 3 | 0x7410, 4 => decide (k.val < 3) || (s.chk k).busy
      | 0x7410, 5 => decide (k.val < 3) || !(s.chk k).feedOpen
      | 0x7410, 7 => decide (k.val < 3)
      | 0x7410, _ => !s.customAllowed
      | 0x8830, 1 => !s.resetAllowed
      | _, _ => false

/-- VALUE_RANGE to a value of this size: a password under 8 bytes (R256), a feed of none. -/
def badSize (q : Request) (total : Nat) : Bool :=
  match q.d.index.toNat, q.d.sub.toNat with
  | 0x6020, 1 | 0x6020, 3 => decide (total < 8)
  | i, 5 => decide (0x7410 ≤ i) && decide (i < 0x7418) && total == 0
  | _, _ => false

/-- The checks of a WRITE_INIT beyond those of the object alone, as of a write of that size (R292), and the port. -/
def State.initAccess (s : State) (q : Request) (total : Nat) : Option Abort :=
  if s.deniesWrite q then some .accessDenied
  else if s.conflictsWrite q || (s.port q.r.carrier).foreignTransfer q.r.src then some .stateConflict
  else if badSize q total then some .valueRange
  else none

/-- An UNLOCK refused in lockout is logged, at its announcement too (R257). -/
def noteLockout (q : Request) (s : State) : State :=
  if q.d.index = 0x6020 ∧ q.d.sub = 1 ∧ s.access.lockoutFrom.isSome then (logAccess 5 0 0 q.r s).1 else s

/-- A transfer opens. -/
def openTransfer (q : Request) (isWrite : Bool) (total : Nat) (bytes : List Byte) (s : State) : State :=
  let t : Transfer :=
    { owner := q.r.src, tid := q.r.tid, isWrite := isWrite, index := q.d.index, sub := q.d.sub, total := total
      bytes := bytes, nextSeg := 1, lastAt := s.clock, envelope := q.r.envelope }
  s.modPort q.r.carrier fun p => { p with transfer := some t }

/-- READ_INIT. -/
def runReadInit (q : Request) (s : State) : State :=
  match readValue q.r.carrier q.d.index.toNat q.d.sub.toNat s with
  | .error a => answerAbort q a s
  | .ok b =>
    if (s.port q.r.carrier).foreignTransfer q.r.src then answerAbort q .stateConflict s
    else answer q 0x83 (leBytes 4 b.length) (openTransfer q false b.length b
      (noteRead q.d.index.toNat q.d.sub.toNat b s))

/-- WRITE_INIT. -/
def runWriteInit (q : Request) (s : State) : State :=
  let total := le q.d.data
  match s.writeCheck q.d.index.toNat q.d.sub.toNat total, s.initAccess q total with
  | some a, _ => answerAbort q a s
  | none, some a => answerAbort q a (noteLockout q s)
  | none, none => answer q 0x84 [] (openTransfer q true total [] s)

/-! ### execution -/

/-- The end of a write's execution, at the port of its request. -/
def finishWrite (q : Request) : Effect → State
  | .done s => answerDone q s
  | .refused a s => answerAbort q a s
  | .reset env s => resetKeep 5 env (answerDone q s)
  | .ended op bound a s =>
    answerAbort q a (if q.silent then s
      else sendBusy q { q := q, awaits := .long op, startedAt := s.clock, boundMs := bound } op s)
  | .awaits w bound s =>
    let v : Service := { q := q, awaits := w, startedAt := s.clock, boundMs := bound }
    let s1 := s.modPort q.r.carrier fun p => { p with service := some v }
    match w with
    | .long op => if q.silent then s1 else sendBusy q v op s1
    | _ => s1

def runWrite (q : Request) (s : State) : State := finishWrite q (executeWrite q s)

/-- READ. -/
def runRead (q : Request) (s : State) : State :=
  match readValue q.r.carrier q.d.index.toNat q.d.sub.toNat s with
  | .error a => answerAbort q a s
  | .ok b =>
    let limit := maxData q.r.carrier
    if limit < b.length then answerAbort q (.length limit) s
    else answer q 0x81 b (noteRead q.d.index.toNat q.d.sub.toNat b s)

/-- A segment of a read transfer: the next bytes of the snapshot. -/
def readSegment (q : Request) (t : Transfer) (s : State) : State :=
  let k := maxData q.r.carrier
  let rest := t.bytes.drop k
  let t1 : Transfer := { t with bytes := rest, nextSeg := t.nextSeg + 1, lastAt := s.clock, tid := q.r.tid }
  let s1 := if rest = [] then endTransfer q.r.carrier s
    else s.modPort q.r.carrier fun p => { p with transfer := some t1 }
  answer q (if rest = [] then 0x86 else 0x85) (t.bytes.take k) s1

/-- A segment of a write transfer: bytes staged, and the object written at the last one. -/
def writeSegment (q : Request) (t : Transfer) (s : State) : State :=
  let bytes := t.bytes ++ q.d.data
  let t1 : Transfer := { t with bytes := bytes, nextSeg := t.nextSeg + 1, lastAt := s.clock, tid := q.r.tid }
  if q.cmd = 5 then answer q 0x85 [] (s.modPort q.r.carrier fun p => { p with transfer := some t1 })
  else if bytes.length ≠ t.total then answerAbort q (.segSize bytes.length) (endTransfer q.r.carrier s)
  else
    let w : Request := { q with d := { q.d with index := t.index, sub := t.sub, data := bytes } }
    finishWrite q (executeWrite w (endTransfer q.r.carrier s))

/-- A segment of the owner's read transfer that carries data, or is a SEGMENT_LAST (Table 13-5). -/
def Transfer.protocolBad (t : Transfer) (q : Request) : Bool :=
  t.owner == q.r.src && !t.isWrite && (q.cmd == 6 || q.d.data != [])

/-- The checks of a segment up to those of its transfer, in the order of Table 13-6: PROTOCOL, NO_OBJECT, NO_SUBINDEX. -/
def State.segmentCheck (s : State) (q : Request) : Option Abort :=
  if (s.port q.r.carrier).transfer.any fun t => t.protocolBad q then some .protocol
  else if !s.indexServed q.d.index.toNat then some .noObject
  else if (objOf q.d.index.toNat q.d.sub.toNat).isNone then some .noSubindex
  else none

/-- SEGMENT and SEGMENT_LAST. -/
def runSegment (q : Request) (s : State) : State :=
  match s.segmentCheck q, (s.port q.r.carrier).transfer with
  | some a, _ => answerAbort q a s
  | none, none => answerAbort q .stateConflict s
  | none, some t =>
    if t.owner ≠ q.r.src then answerAbort q .stateConflict s
    else if q.d.seg ≠ t.nextSeg then answerAbort q (.segSequence t.nextSeg) (endTransfer q.r.carrier s)
    else if t.isWrite then writeSegment q t s
    else readSegment q t s

/-- ABORT of the owner ends the transfer silently. -/
def runAbort (q : Request) (s : State) : State :=
  if (s.port q.r.carrier).transfer.any fun t => t.owner == q.r.src then endTransfer q.r.carrier s else s

/-- PROTOCOL (Table 13-6); CMD 0 and those above 7 are reserved or responses. -/
def Request.protocolBad (q : Request) : Bool :=
  q.cmd == 0 || decide (7 < q.cmd.toNat) || q.d.reservedSet || decide (q.d.length.toNat ≠ q.d.data.length)
  || ((q.cmd == 1 || q.cmd == 3) && q.d.data != []) || ((q.cmd == 4 || q.cmd == 7) && decide (q.d.data.length ≠ 4))

/-- A request executed; an ABORT gets no response, one that breaks the protocol neither (Table 13-5). -/
def runRequest (q : Request) (s : State) : State :=
  if q.protocolBad then (if q.cmd = 7 then s else answerAbort q .protocol s)
  else
    match q.cmd.toNat with
    | 7 => runAbort q s
    | 1 => runRead q s
    | 2 => runWrite q s
    | 3 => runReadInit q s
    | 4 => runWriteInit q s
    | _ => runSegment q s

/-- The request that a port would execute next; none while one is in service. -/
def Port.next (p : Port) : Option Request := if p.service.isSome then none else p.queue.head?

/-- The port whose waiting request arrived first; of two on one cycle CAN FD goes before T1S, and T1S before Svarn-H (R296). -/
def State.nextPort (s : State) : Option (Carrier × Request) :=
  [Carrier.can, .t1s, .svh].foldl (fun acc c =>
    match (s.port c).next, acc with
    | none, _ => acc
    | some q, none => some (c, q)
    | some q, some a => if q.arrived < a.2.arrived then some (c, q) else acc) none

/-- Up to `fuel` waiting requests are executed, each port until one has to wait. -/
def drain : Nat → State → State
  | 0, s => s
  | k + 1, s =>
    match s.nextPort with
    | none => s
    | some (c, q) => drain k (runRequest q (s.modPort c fun p => { p with queue := p.queue.tail }))

/-- The requests waiting at the ports, 8 at most at each (R289). -/
def drainAll (s : State) : State := drain 24 s

/-- The answer to a request in service, the port's queue left as it is. -/
def answerService (c : Carrier) (refusal : Option Abort) (s : State) : State :=
  match (s.port c).service with
  | none => s
  | some v =>
    let s1 := s.modPort c fun p => { p with service := none }
    match refusal with
    | none => answerDone v.q s1
    | some a => answerAbort v.q a s1

/-- The end of what a request in service awaited: its answer, and the port goes on. While a port is BUSY the timeout of its
transfer does not run (R293). -/
def completeService (c : Carrier) (refusal : Option Abort) (s : State) : State :=
  match (s.port c).service with
  | none => s
  | some v =>
    let busyFor := if (s.port c).longService.isSome then s.clock - v.startedAt else 0
    let s1 := s.modPort c fun p => { p with
      transfer := p.transfer.map fun t => { t with lastAt := t.lastAt + busyFor } }
    drainAll (answerService c refusal s1)

/-- Every port whose request awaits a thing gets its end. -/
def completeAll (w : Awaits) (refusal : Option Abort) (s : State) : State :=
  [Carrier.can, .t1s, .svh].foldl (fun t c =>
    if (t.port c).service.any fun v => v.awaits == w then completeService c refusal t else t) s

/-! ### reception (R283 to R290) -/

/-- A request that repeats the previous one of its node within 100 ms, or the segment last accepted. -/
def State.repeats (s : State) (q : Request) : Bool :=
  let p := s.port q.r.carrier
  (p.answered.any fun a => a.isOf q && decide (s.clock ≤ a.arrived + cyclesMs 100))
  || ((q.cmd == 5 || q.cmd == 6) && p.transfer.any fun t =>
        t.owner == q.r.src && q.d.seg == t.nextSeg - 1 && (t.bytes != [] || t.nextSeg != 1)
        && (t.isWrite || decide (t.bytes.length < t.total)))

/-- A segment that repeats the one last accepted is one that its transfer sees: SEG_TIMEOUT runs from it (R293). -/
def touchTransfer (q : Request) (s : State) : State :=
  if q.cmd = 5 ∨ q.cmd = 6 then
    s.modPort q.r.carrier fun p => { p with
      transfer := p.transfer.map fun t => if t.owner = q.r.src then { t with lastAt := s.clock } else t }
  else s

/-- The stored response is sent in place of a second execution; in SLEEP nothing is sent. -/
def resend (q : Request) (s : State) : State :=
  let s1 := touchTransfer q s
  if s.safety.power = .sleep then s1
  else match (s.port q.r.carrier).answered.find? fun a => a.src == q.r.src with
  | some a => match a.response with
    | some x => sendResponse q.r.carrier x s1
    | none => s1
  | none => s1

/-- A broadcast that is executed: a WRITE that is neither to an RWP object nor a long operation (R284). -/
def Request.broadcastRuns (q : Request) : Bool := q.cmd == 2 && !isRwp q.d && !isLongWrite q.d

/-- A request at a port that is not BUSY. A broadcast counts as its node's previous request too, and a repeated one is not
executed (R284, R290). -/
def acceptRequest (q : Request) (s : State) : State :=
  let c := q.r.carrier
  if q.silent && !q.broadcastRuns then dropFrame c (noteRequest q s)
  else if s.repeats q then (if q.silent then dropFrame c s else resend q s)
  else
    let s1 := noteRequest q s
    if (s.port c).service.isNone && s.safety.power ≠ .sleep then runRequest q s1
    else if (s.port c).queue.length < 8 then s1.modPort c fun p => { p with queue := p.queue ++ [{ q with arrived := s.clock }] }
    else dropFrame c s

/-- The carrier delivers frames: the ports are served (R382), the network domain runs or, for a request to the node itself
whose wake source is enabled, filters in SLEEP; and the boot ROM serves the two networks only (R384). -/
def State.delivers (s : State) (q : Request) : Bool :=
  !s.aon.held && s.net.served && match q.r.carrier, s.safety.power with
    | .svh, .run | .svh, .idle => s.svhReceives && !s.net.romOnly
    | .svh, _ => false
    | _, .run | _, .idle => true
    | .can, .sleep => s.power.wakeEn.getLsbD 1 && q.r.dest != 0
    | .t1s, .sleep => s.power.wakeEn.getLsbD 2 && q.r.dest != 0
    | _, _ => false

/-- What a port does with a frame (Table 13-3, R285, R286): it holds a request, it is none of the device's business, or it is
dropped and counted. -/
inductive FrameUse where
  | request | ignored | counted
  deriving DecidableEq, Repr

/-- A request fits the carrier's data field; a larger one has a LENGTH that its frame cannot hold. -/
def Request.use (q : Request) : FrameUse :=
  let h := q.d.head
  let bad := q.r.carrier != .can && (h.version != 1 || q.d.reservedSet || h.overlong)
  let other := h.func == 2 || (q.r.carrier != .svh && (h.func == 1 || h.func == 4))
  if bad then .counted
  else if h.func = 3 then (if maxData q.r.carrier < q.d.data.length then .counted else .request)
  else if other then .ignored
  else .counted

/-- A T1S frame is accepted by its destination: the device's own MAC address or the broadcast address (R286). -/
def State.macAccepts (s : State) (q : Request) : Bool :=
  q.r.carrier != .t1s || s.ownMac q.d.head.toMac

/-- The TID of the owner's last request goes with its transfer (R293). -/
def noteTid (q : Request) (s : State) : State :=
  if q.silent then s
  else s.modPort q.r.carrier fun p => { p with
    transfer := p.transfer.map fun t => if t.owner = q.r.src then { t with tid := q.r.tid } else t }

/-- A request at its port. On a BUSY port an ABORT gets no response, and a broadcast counts as not executed (R284, R294). -/
def takeFrame (q : Request) (s : State) : State :=
  match (s.port q.r.carrier).longService with
  | some (v, op) =>
    if q.silent then dropFrame q.r.carrier s
    else if q.cmd = 7 then noteTid q s
    else sendBusy q v op (noteTid q s)
  | none => acceptRequest q (noteTid q s)

/-- A frame as its last byte arrives; one for another node is ignored (R283). -/
def receive (q : Request) (s : State) : State :=
  if !s.delivers q || !s.macAccepts q then s
  else
    let s1 := countRx q.r.carrier s
    if !s.addressed q.r.dest then s1
    else match q.use with
      | .ignored => s1
      | .counted => dropFrame q.r.carrier s1
      | .request => takeFrame q s1

/-! ### the end of an activation (R134, R135, R294) -/

/-- What a command leaves of the boot pack (R383): a load or activation that fails is reported, and the mark is dropped when
the pack is at rest. -/
def settleBoot (before after : State) : State :=
  let moved := after.pack.boot && before.pack.state != after.pack.state
  let s1 : State := { after with pack := { after.pack with boot := false } }
  if moved && after.pack.state == .failed then report1 0x01 0x1A 0xFF s1
  else if moved && after.pack.state == .idle then s1
  else after

/-- The ACTIVATE that was in service is answered when the activation has ended: WRITE done where the group took effect,
STATE_CONFLICT otherwise (log entry 41). -/
def settle (before after : State) : State :=
  let s1 := settleBoot before after
  if before.pack.state = .activating ∧ after.pack.state ≠ .activating then
    completeAll (.long .activate) (if after.pack.state = .idle ∧ after.pack.result = 0 then none else some .stateConflict) s1
  else s1

/-- A request that arrives, and the end of an activation that it brings about. -/
def takeRequest (q : Request) (s : State) : State := settle s (receive q s)

/-- A request of a command code. -/
def receiveCmd (cmd : Byte) (r : Requester) (d : Pdu) (s : State) : State := takeRequest { r := r, cmd := cmd, d := d } s

def execRead (r : Requester) (d : Pdu) (s : State) : Host.Outcome State Fault Refusal := .next (receiveCmd 1 r d s)
def execWrite (r : Requester) (d : Pdu) (s : State) : Host.Outcome State Fault Refusal := .next (receiveCmd 2 r d s)
def execReadInit (r : Requester) (d : Pdu) (s : State) : Host.Outcome State Fault Refusal := .next (receiveCmd 3 r d s)
def execWriteInit (r : Requester) (d : Pdu) (s : State) : Host.Outcome State Fault Refusal := .next (receiveCmd 4 r d s)
def execSegment (r : Requester) (d : Pdu) (s : State) : Host.Outcome State Fault Refusal := .next (receiveCmd 5 r d s)
def execSegmentLast (r : Requester) (d : Pdu) (s : State) : Host.Outcome State Fault Refusal := .next (receiveCmd 6 r d s)
def execAbort (r : Requester) (d : Pdu) (s : State) : Host.Outcome State Fault Refusal := .next (receiveCmd 7 r d s)
/-- REGISTER_WRITE: a write to an object without a row of its own (R305). -/
def execRegisterWrite (r : Requester) (d : Pdu) (s : State) : Host.Outcome State Fault Refusal := .next (receiveCmd 2 r d s)

/-! ### the Svarn-H tunnel (R169, R286) -/

/-- A frame in an OBJ packet. One that does not hold its LENGTH, or whose payload is shorter than a PDU header, is overlong. -/
def requestOf (b : List Byte) : Request :=
  let len := (u16At b 6).toNat
  let dest := u16At b 2
  let src := u16At b 4
  let pdu := slice b 8 len
  { r := { carrier := .svh, src := src.setWidth 10, dest := dest.setWidth 10, tid := byteAt pdu 1
           envelope := { mac := 0, tag := none } }
    cmd := byteAt pdu 0
    d := { index := u16At pdu 2, sub := byteAt pdu 4, seg := byteAt pdu 5, length := u16At pdu 6, data := pdu.drop 8
           reservedSet := fld dest 10 6 != 0 || fld src 10 6 != 0
           head := { func := byteAt b 1, version := byteAt b 0
                     overlong := decide (b.length < 8 + len) || decide (len < 8) } } }

/-- The frame is a twin copy for this node: FUNC TWIN in a head that holds R286 (R248, R283). -/
def State.tunnelTwin (s : State) (q : Request) : Bool :=
  s.delivers q && s.addressed q.r.dest && q.d.head.func == 1 && q.d.head.version == 1 && !q.d.reservedSet && !q.d.head.overlong

/-- The payload of an OBJ packet: its frame goes to the port, which drops and counts a FUNC other than REQUEST and RESPONSE
(R286); a twin copy counts in TWIN_DROPPED too (R248). -/
def objPayload (b : List Byte) (s : State) : State :=
  let q := requestOf b
  receive q (if s.tunnelTwin q then dropTwin s else s)

def execObjPacket (p : Packet) (s : State) : Host.Outcome State Fault Refusal :=
  .next (settle s (svhReceive 4 1024 p (headerReserved p) (objPayload p.payload) s))

/-! ### what a port does by itself -/

/-- SEG_TIMEOUT falls due: the transfer has seen no segment for that long (R293). -/
def State.segDue (s : State) (c : Carrier) : Option Nat :=
  if !s.netRuns || (s.port c).longService.isSome then none
  else (s.port c).transfer.map fun t => t.lastAt + cyclesMs s.net.segTimeout.toNat

/-- A transfer lapses, and its owner is told under the TID of its last request (R293). -/
def segTimeout (c : Carrier) (s : State) : State :=
  match (s.port c).transfer with
  | none => s
  | some t =>
    sendResponse c
      { cmd := 0xFF, tid := t.tid, index := t.index, sub := t.sub, seg := t.nextSeg - 1, data := abortData .segTimeout
        dest := t.owner, envelope := t.envelope } (endTransfer c s)

/-- BUSY_RESPONSE falls due: every 100 ms of a long operation (R294). -/
def State.busyDue (s : State) (c : Carrier) : Option Nat :=
  (s.port c).longService.map fun v => v.1.startedAt + cyclesMs 100 * ((s.clock - v.1.startedAt) / cyclesMs 100 + 1)

def busyTick (c : Carrier) (s : State) : State :=
  match (s.port c).longService with
  | none => s
  | some (v, op) => if v.q.silent then s else sendBusy v.q v op s

/-- EVENT_TELEGRAM: the next queued telegram of a network carrier is sent (R298). -/
def sendTelegram (c : Carrier) (s : State) : State :=
  if !s.netRuns || !s.net.served then s
  else
    match (s.port c).events with
    | [] => s
    | e :: t => s.modPort c fun p => { p with
        events := t, sentEvent := some e, wire := some (s.eventFrame c e), txOk := satInc p.txOk }

def execEventTelegram (c : Carrier) (s : State) : Host.Outcome State Fault Refusal :=
  .next (if c = .svh then s else sendTelegram c s)

/-- CAN_BUS_OFF (0x1010.03, 0x1010.06). -/
def execCanBusOff (s : State) : Host.Outcome State Fault Refusal :=
  .next (if s.netRuns && s.net.served then
      report1 0x50 0x20 0xFF { s with net := { s.net with
        busOffCount := satInc s.net.busOffCount, canStatus := (s.net.canStatus &&& 0xFFFFFFFC) ||| 2 } }
    else s)

/-- PLCA_ACTIVE_LOSS: one episode (Table 14-4). -/
def execPlcaActiveLoss (s : State) : Host.Outcome State Fault Refusal :=
  .next (if s.netRuns && s.net.served && s.net.plcaEnable then
      report1 0x51 0x20 0xFF { s with net := { s.net with t1sStatus := s.net.t1sStatus &&& 0xFFFFFFFE } }
    else s)

end Sys2Proof.Machine
end

