-- ==== Sys2Proof/Machine/HostCommands.lean ====
section
/-!
DEFINITION. Machine/HostCommands.lean: the rows of the table that are one write of one object: each is the WRITE request with
that object and value (R288), received by its port.
-/
namespace Sys2Proof.Machine

/-- The WRITE request of a value of `size` bytes. -/
def writeOf (r : Requester) (index sub size value : Nat) : Request :=
  { r := r, cmd := 2
    d := { index := w16 index, sub := w8 sub, seg := 0, length := w16 size, data := leBytes size value
           reservedSet := false } }

/-- The WRITE request of a byte string. -/
def writeBytes (r : Requester) (index sub : Nat) (b : List Byte) : Request :=
  { r := r, cmd := 2
    d := { index := w16 index, sub := w8 sub, seg := 0, length := w16 b.length, data := b, reservedSet := false } }

/-- A host write as a command. -/
def hostWrite (r : Requester) (index sub size value : Nat) (s : State) : Host.Outcome State Fault Refusal :=
  .next (takeRequest (writeOf r index sub size value) s)

/-! ### reset, layers, links -/

def execResetCmd (r : Requester) (value : U32) (env : BootEnv) (s : State) : Host.Outcome State Fault Refusal :=
  .next (takeRequest { writeOf r 0x8830 1 4 value.toNat with env := some env } s)

/-- Ln_COMMIT (Table 3-7). -/
def commitWord (tag kind num action : Nat) : Nat := tag * 2 ^ 16 + kind * 2 ^ 12 + num * 2 ^ 8 + action

def execCommit (r : Requester) (layer : Fin 8) (tag : U16) (gateKind gateNum : BitVec 4) (s : State) :
    Host.Outcome State Fault Refusal :=
  hostWrite r (0x2102 + 16 * layer.val) 1 4 (commitWord tag.toNat gateKind.toNat gateNum.toNat 1) s

def execCommitCancel (r : Requester) (layer : Fin 8) (s : State) : Host.Outcome State Fault Refusal :=
  hostWrite r (0x2102 + 16 * layer.val) 1 4 (commitWord 0 0 0 2) s

def execCommitDiscard (r : Requester) (layer : Fin 8) (s : State) : Host.Outcome State Fault Refusal :=
  hostWrite r (0x2102 + 16 * layer.val) 1 4 (commitWord 0 0 0 3) s

/-- GROUP_COMMIT (Table 3-9). -/
def execGroupCommit (r : Requester) (mask : Byte) (gateKind gateNum : BitVec 4) (tag : U16) (s : State) :
    Host.Outcome State Fault Refusal :=
  hostWrite r 0x2010 1 4 (mask.toNat * 2 ^ 24 + gateKind.toNat * 2 ^ 20 + gateNum.toNat * 2 ^ 16 + tag.toNat) s

def execSveRetrain (r : Requester) (n : Fin 2) (fwdPs retPs : BitVec 2) (s : State) : Host.Outcome State Fault Refusal :=
  hostWrite r (0x4840 + 8 * n.val) 1 4 (fwdPs.toNat * 2 ^ 8 + retPs.toNat * 2 ^ 4 + 1) s

def execSvhRetrain (r : Requester) (txPs : BitVec 2) (s : State) : Host.Outcome State Fault Refusal :=
  hostWrite r 0x4800 1 4 (txPs.toNat * 2 ^ 8 + 1) s

/-! ### password, lamp, faults -/

def execUnlock (r : Requester) (password : List Byte) (s : State) : Host.Outcome State Fault Refusal :=
  .next (takeRequest (writeBytes r 0x6020 1 password) s)

def execLock (r : Requester) (s : State) : Host.Outcome State Fault Refusal := hostWrite r 0x6020 2 1 1 s

def execPwNew (r : Requester) (password : List Byte) (s : State) : Host.Outcome State Fault Refusal :=
  .next (takeRequest (writeBytes r 0x6020 3 password) s)

def execLampCmdOff (r : Requester) (s : State) : Host.Outcome State Fault Refusal := hostWrite r 0x6000 3 1 0 s
def execLampCmdService (r : Requester) (s : State) : Host.Outcome State Fault Refusal := hostWrite r 0x6000 3 1 2 s
def execLampCmdFallback (r : Requester) (s : State) : Host.Outcome State Fault Refusal := hostWrite r 0x6000 3 1 3 s
def execLampCmdParked (r : Requester) (s : State) : Host.Outcome State Fault Refusal := hostWrite r 0x6000 3 1 5 s
def execLampCmdTest (r : Requester) (s : State) : Host.Outcome State Fault Refusal := hostWrite r 0x6000 3 1 6 s
def execLampCmdRecovery (r : Requester) (s : State) : Host.Outcome State Fault Refusal := hostWrite r 0x6000 3 1 7 s

def execTestSource (r : Requester) (value : Byte) (s : State) : Host.Outcome State Fault Refusal :=
  hostWrite r 0x6000 5 1 value.toNat s

def execTestCtrl (r : Requester) (value : U32) (s : State) : Host.Outcome State Fault Refusal :=
  hostWrite r 0x4860 1 4 value.toNat s

def execFaultAck (r : Requester) (seq : U16) (s : State) : Host.Outcome State Fault Refusal :=
  hostWrite r 0x6800 5 2 seq.toNat s

def execFaultClear (r : Requester) (seq : U16) (s : State) : Host.Outcome State Fault Refusal :=
  hostWrite r 0x6800 6 2 seq.toNat s

/-! ### banks, packs, schedules -/

def execBankOpen (r : Requester) (pair : Fin 8) (s : State) : Host.Outcome State Fault Refusal :=
  hostWrite r (0x3810 + pair.val) 1 4 1 s

def execSwapRequest (r : Requester) (pair : Fin 8) (s : State) : Host.Outcome State Fault Refusal :=
  hostWrite r (0x3810 + pair.val) 1 4 2 s

def execBankCancel (r : Requester) (pair : Fin 8) (s : State) : Host.Outcome State Fault Refusal :=
  hostWrite r (0x3810 + pair.val) 1 4 3 s

def execLoadFlash (r : Requester) (slot : Byte) (s : State) : Host.Outcome State Fault Refusal :=
  hostWrite r 0x3800 1 4 (slot.toNat * 2 ^ 8 + 1) s

def execOpenHost (r : Requester) (s : State) : Host.Outcome State Fault Refusal := hostWrite r 0x3800 1 4 2 s
def execCloseHost (r : Requester) (s : State) : Host.Outcome State Fault Refusal := hostWrite r 0x3800 1 4 3 s
def execActivate (r : Requester) (s : State) : Host.Outcome State Fault Refusal := hostWrite r 0x3800 1 4 4 s
def execPackCancel (r : Requester) (s : State) : Host.Outcome State Fault Refusal := hostWrite r 0x3800 1 4 5 s

def execSchedStart (r : Requester) (frame : U32) (s : State) : Host.Outcome State Fault Refusal :=
  hostWrite r 0x3830 1 4 frame.toNat s

def execSchedStop (r : Requester) (s : State) : Host.Outcome State Fault Refusal := hostWrite r 0x3830 2 1 1 s

/-! ### fault maps (Table 8-10 with ACTION) -/

def execFmapCommit (r : Requester) (n : Fin 2) (s : State) : Host.Outcome State Fault Refusal :=
  hostWrite r (0x5010 + n.val) 1 4 1 s

def execFmapRetire (r : Requester) (n : Fin 2) (x : BitVec 11) (y : BitVec 9) (emitter : BitVec 2) (s : State) :
    Host.Outcome State Fault Refusal :=
  hostWrite r (0x5010 + n.val) 1 4 (x.toNat * 2 ^ 21 + y.toNat * 2 ^ 12 + emitter.toNat * 2 ^ 10 + 2) s

def execFmapClear (r : Requester) (n : Fin 2) (s : State) : Host.Outcome State Fault Refusal :=
  hostWrite r (0x5010 + n.val) 1 4 3 s

def execFmapRebuild (r : Requester) (n : Fin 2) (s : State) : Host.Outcome State Fault Refusal :=
  hostWrite r (0x5010 + n.val) 1 4 4 s

/-! ### DMA and check units -/

def execGo (r : Requester) (channel : Fin 8) (s : State) : Host.Outcome State Fault Refusal :=
  hostWrite r (0x7010 + channel.val) 1 4 1 s

/-- STOP, which finds `movedBytes` of the current descriptor written. -/
def execStop (r : Requester) (channel : Fin 8) (movedBytes : Nat) (s : State) : Host.Outcome State Fault Refusal :=
  .next (takeRequest { writeOf r (0x7010 + channel.val) 1 4 2 with moved := some movedBytes } s)

/-- A CHK_CTRL word. -/
def chkWord (alive : Byte) (action : Nat) : Nat := alive.toNat * 2 ^ 8 + action

def execStartMem (r : Requester) (channel : Fin 8) (alive : Byte) (s : State) : Host.Outcome State Fault Refusal :=
  hostWrite r (0x7410 + channel.val) 1 4 (chkWord alive 1) s

def execFeedOpen (r : Requester) (channel : Fin 8) (alive : Byte) (s : State) : Host.Outcome State Fault Refusal :=
  hostWrite r (0x7410 + channel.val) 1 4 (chkWord alive 2) s

/-- CHK_FEED as one expedited write; longer values come by a segmented transfer (R292, R328). -/
def execChkFeed (r : Requester) (channel : Fin 8) (bytes : List Byte) (s : State) : Host.Outcome State Fault Refusal :=
  .next (takeRequest (writeBytes r (0x7410 + channel.val) 5 bytes) s)

def execFeedClose (r : Requester) (channel : Fin 8) (alive : Byte) (s : State) : Host.Outcome State Fault Refusal :=
  hostWrite r (0x7410 + channel.val) 1 4 (chkWord alive 3) s

def execCheckAbort (r : Requester) (channel : Fin 8) (alive : Byte) (s : State) : Host.Outcome State Fault Refusal :=
  hostWrite r (0x7410 + channel.val) 1 4 (chkWord alive 4) s

/-- CHECK_ALIVE: a host's CHK_CTRL write without an action, or Gorse's own write of channel 2 (R246, R331). -/
def execCheckAlive (r : Option Requester) (channel : Fin 8) (alive : Byte) (s : State) : Host.Outcome State Fault Refusal :=
  match r with
  | some q => hostWrite q (0x7410 + channel.val) 1 4 (chkWord alive 0) s
  | none => .next (if channel = 2 ∧ s.gorse then gorseAlive alive s else s)

/-! ### power and persistence -/

def execPowerCmdRun (r : Requester) (s : State) : Host.Outcome State Fault Refusal := hostWrite r 0x8000 1 1 0 s
def execPowerCmdIdle (r : Requester) (s : State) : Host.Outcome State Fault Refusal := hostWrite r 0x8000 1 1 1 s
def execPowerCmdSleep (r : Requester) (s : State) : Host.Outcome State Fault Refusal := hostWrite r 0x8000 1 1 2 s
def execPowerCmdDeep (r : Requester) (s : State) : Host.Outcome State Fault Refusal := hostWrite r 0x8000 1 1 3 s
def execPowerCmdDew (r : Requester) (s : State) : Host.Outcome State Fault Refusal := hostWrite r 0x8000 1 1 4 s
def execPowerCmdOff (r : Requester) (s : State) : Host.Outcome State Fault Refusal := hostWrite r 0x8000 1 1 5 s
def execWakeAck (r : Requester) (s : State) : Host.Outcome State Fault Refusal := hostWrite r 0x8040 3 1 1 s
def execStore (r : Requester) (s : State) : Host.Outcome State Fault Refusal := hostWrite r 0x8800 1 1 1 s
def execRestoreDefaults (r : Requester) (s : State) : Host.Outcome State Fault Refusal := hostWrite r 0x8800 1 1 2 s
def execCalsetWrite (r : Requester) (s : State) : Host.Outcome State Fault Refusal := hostWrite r 0x8810 2 1 1 s

end Sys2Proof.Machine
end

