-- ==== Sys2Proof/Machine/Timed.lean ====
section
/-!
DEFINITION. Machine/Timed.lean: the commands that the spec dates, and the ticket close that comes before one of them (R11).
-/
namespace Sys2Proof.Machine

/-- A ticket close (R146), and the answer to an ACTIVATE whose group took effect in it (R135). -/
def closeTicket (s : State) : State := settle s (ticketClose s)

/-- TICKET_CLOSE. DESIGN CHOICE (log entry 6): one that the clock has carried out already is only ticked off. -/
def execTicketClose (s : State) : Host.Outcome State Fault Refusal :=
  .next (if s.frame.closesTaken = 0 then closeTicket s
    else { s with frame := { s.frame with closesTaken := s.frame.closesTaken - 1 } })

/-- Before the clock passes to `due`, the ticket whose closing edge lies by then closes, so that nothing on its edge or
later counts for it (R11). DESIGN CHOICE (log entry 6): one ticket close for one command. -/
def closeBefore (due : Nat) (s : State) : State :=
  if s.reachesClose due then
    let t := closeTicket s
    { t with frame := { t.frame with closesTaken := t.frame.closesTaken + 1 } }
  else s

/-- A command of the spec's date, none where its condition does not hold: the ticket closes up to the date, the clock moves
there, and it acts. -/
def timed (due : State → Option Nat) (act : State → State) (s : State) : State :=
  match due s with
  | none => s
  | some d =>
    let t := closeBefore d s
    match due t with
    | none => t
    | some e => act (t.at_ e)

/-- A tick of the clock. -/
def tick (s : State) : State :=
  let t := closeBefore (s.clock + 1) s
  t.at_ (s.clock + 1)

def execBoxExpiry (id : Fin 64) (s : State) : Host.Outcome State Fault Refusal :=
  .next (timed (State.boxDue id) (removeLive id) s)

def execQuickChannelStale (s : State) : Host.Outcome State Fault Refusal := .next (timed State.quickStaleDue quickStale s)

def execTwinWindowExpiry (s : State) : Host.Outcome State Fault Refusal := .next (timed State.windowDue windowExpiry s)

def execTwinTimeout (s : State) : Host.Outcome State Fault Refusal := .next (timed State.twinTimeoutDue twinTimeout s)

def execTimeBaseUnlockTimeout (s : State) : Host.Outcome State Fault Refusal :=
  .next (timed State.unlockTimeoutDue unlockTimeout s)

def execGrandmasterSyncSend (s : State) : Host.Outcome State Fault Refusal := .next (timed State.syncDue grandmasterSync s)

def execFsyncLoss (s : State) : Host.Outcome State Fault Refusal := .next (timed State.fsyncLossDue fsyncLoss s)

def execTsensNoConversion (s : State) : Host.Outcome State Fault Refusal := .next (timed State.noConversionDue noConversion s)

def execThermalRestart (s : State) : Host.Outcome State Fault Refusal := .next (timed State.restartDue thermalRestart s)

def execEchoDeadline (n : Fin 2) (s : State) : Host.Outcome State Fault Refusal :=
  .next (timed (fun t => t.echoDue n) (echoCompare n) s)

def execTrainingRetry (n : Fin 2) (s : State) : Host.Outcome State Fault Refusal :=
  .next (timed (fun t => t.retryDue n) (trainingRetry n) s)

def execSvarnELinkLoss (n : Fin 2) (lockLost : Bool) (s : State) : Host.Outcome State Fault Refusal :=
  .next (timed (fun t => t.lossDue n lockLost) (loseLink n) s)

def execSegTimeout (c : Carrier) (s : State) : Host.Outcome State Fault Refusal :=
  .next (timed (fun t => t.segDue c) (segTimeout c) s)

def execBusyResponse (c : Carrier) (s : State) : Host.Outcome State Fault Refusal :=
  .next (timed (fun t => t.busyDue c) (busyTick c) s)

end Sys2Proof.Machine
end

