-- ==== Sys2Proof/Machine/Completions.lean ====
section
/-!
DEFINITION. Machine/Completions.lean: the ends of what a request waits for: commit checks, activations, stores, the calibration
set, the power-state handshake; the ends of the unlock and of the lockout; and the wakes.
-/
namespace Sys2Proof.Machine

/-! ### commit checks and ticket closes -/

/-- The check of a layer, or of its group, ends and is answered (R53, R57, R139). -/
def commitCheckEnd (n : Fin 8) (s : State) : State :=
  match (s.layer n).check, endCheck n s with
  | some c, some (result, t) =>
    let w : Awaits := if c.snap.group = 0 then .commit n else .group c.snap.group
    completeAll w (if result = 0 then none else some (.commitRefused result)) (schedCheckEnd n result t)
  | _, _ => s

/-- COMMIT_CHECK_END falls due, 384 CORE cycles after the landing edge (R53). -/
def State.checkDue (s : State) (n : Fin 8) : Option Nat := if s.netRuns then (s.layer n).check.map Check.due else none

def execCommitCheckEnd (layer : Fin 8) (s : State) : Host.Outcome State Fault Refusal :=
  .next (timed (fun t => t.checkDue layer) (commitCheckEnd layer) s)

def execVerificationEnd (pair : Fin 8) (s : State) : Host.Outcome State Fault Refusal :=
  .next (settle s (verificationEnd pair s))

def execActivateTimeout (s : State) : Host.Outcome State Fault Refusal := .next (settle s (activateTimeout s))

/-- PACK_LOAD_END; the boot pack is activated once it is LOADED (R383). -/
def packLoadEnd (flash : FlashRead) (s : State) : State :=
  if s.pack.state ≠ .loading || !s.gorse then s
  else
    let t := loadPack flash s
    if t.pack.boot && t.pack.state == .loaded then (packActivate t).2 else t

def execPackLoadEnd (flash : FlashRead) (s : State) : Host.Outcome State Fault Refusal :=
  .next (settle s (packLoadEnd flash s))

/-! ### long operations on Cairn and flash (R295, R311, R386, R388) -/

/-- The end of a STORE: the snapshot is made current, or the previous one stays. -/
def storeEnd (writeOk : Bool) (s : State) : State :=
  match s.cairn.writing with
  | none => s
  | some v =>
    if writeOk && !s.cairn.failing then
      completeAll (.long .store) none { s with cairn := { s.cairn with
        writing := none, snapshot := v, storeCount := satInc s.cairn.storeCount, storeFailed := false
        writeFailed := false } }
    else
      completeAll (.long .store) (some .accessDenied)
        (cairnFailure { s with cairn := { s.cairn with writing := none, storeFailed := true } })

def execStoreEnd (writeOk : Bool) (s : State) : Host.Outcome State Fault Refusal := .next (storeEnd writeOk s)

/-- The set as programmed: sectors erased, header and words written. -/
def writeCalset (src : Nat) (h : List Byte) (s : State) : State :=
  let at_ (n : Fin 2) : Nat := calsetBase + 0x1000 + 0x200000 * n.val
  let f0 := cellClear s.mem.flash calsetBase (sectorSpan (setLength h))
  let f1 := cellWrite flashReset (cellWrite flashReset f0 calsetBase h) (at_ 0) (s.setBytes src h 0)
  { s with mem := { s.mem with flash := cellWrite flashReset f1 (at_ 1) (s.setBytes src h 1) } }

/-- The operation ends: with the set in flash and trigger 0x4; with a refusal by stage 1, which leaves the flash untouched; or
with ABORTED and what the flash then holds open (R388). -/
def calsetWriteEnd (programmed : Bool) (s : State) : State :=
  if !s.mgmt.calsetWriting then s
  else if !s.mgmt.calsetChecked then
    completeAll (.long .calset) (some .valueRange) { s with mgmt := { s.mgmt with
      calsetWriting := false, calsetFailed := true, calsetDigestOk := false } }
  else
    let src := s.mgmt.calsetFrom.toNat
    let h := s.fmRead src 0x1000
    let good := programmed && s.setOk src
    let s1 := reportBad (s.setBad src) s
    let t := if good then writeCalset src h s1 else openCalset (sectorSpan (setLength h)) s1
    let u : State := { t with mgmt := { t.mgmt with
      calsetWriting := false, calsetFailed := !good, calsetDigestOk := good
      calsetValid := calsetHeaderOk t.calsetHeader } }
    if good then completeAll (.long .calset) none (trigger 1 4 (trigger 0 4 u))
    else completeAll (.long .calset) (some .accessDenied) (report1 0x01 0x1A 0xFF u)

def execCalsetWriteEnd (programmed : Bool) (s : State) : Host.Outcome State Fault Refusal :=
  .next (calsetWriteEnd programmed s)

/-! ### the ends of the unlock and of the lockout (R255, R257) -/

/-- UNLOCK_IDLE seconds without an effective RWP write. -/
def State.idleDue (s : State) : Option Nat :=
  if s.access.holder.isSome && s.netRuns then some (s.access.lastEffective + cyclesS s.access.idle.toNat) else none

def execUnlockIdleExpiry (s : State) : Host.Outcome State Fault Refusal :=
  .next (timed State.idleDue (fun t => { t with access := { t.access with holder := none } }) s)

/-- 60 s of lockout end. -/
def State.lockoutDue (s : State) : Option Nat :=
  if s.netRuns then s.access.lockoutFrom.map fun e => e + cyclesS 60 else none

def execLockoutEnd (s : State) : Host.Outcome State Fault Refusal :=
  .next (timed State.lockoutDue
    (fun t => storeFails { t with access := { t.access with lockoutFrom := none, fails := 0 } }) s)

/-! ### power-state entry (R354 to R357) -/

/-- A refusal: roll-back, and ABORTED to the write (R356). -/
def refusePower (code : Byte) (domain : BitVec 4) (s : State) : State :=
  completeAll .power (some .stateConflict) (refuseEntry code domain s)

/-- WRITE done to the POWER_CMD, before the power-down (R357). The ports' queues wait. -/
def answerPower (s : State) : State :=
  [Carrier.can, .t1s, .svh].foldl (fun t c =>
    if (t.port c).service.any fun v => v.awaits == .power then answerService c none t else t) s

/-- The handshake is complete: the save for the states that have one, the reply, the power-down. -/
def completeEntry (saveOk : Bool) (t : PowerState) (s : State) : State :=
  if t.saves && !saveOk then refusePower 0x0B 1 s
  else
    let s1 := if t.saves then saveRetention s else s
    let s2 := powerDown t (answerPower s1)
    if t = .idle then drainAll s2 else s2

/-- HANDSHAKE_ANSWER: the block of the present step answers. Step 1 answers at the ticket close. A lamp that has left PARKED
since the command ends the entry, as R5 enters no state below RUN from there: by a refusal that Table 17-2 does not give, with
the code and the domain of a tile that is not parked (DESIGN CHOICE, log entry 105). -/
def handshakeAnswer (saveOk writing : Bool) (s : State) : State :=
  match s.power.target with
  | none => s
  | some t =>
    let step := s.power.step
    if step < 2 then s
    else if s.safety.lamp ≠ .parked then refusePower 1 9 s
    else
      match s.stepRefusal writing step with
      | some r => refusePower r.1 r.2 s
      | none =>
        let s1 := acknowledge step s
        if lastStep t ≤ step then completeEntry saveOk t s1 else s1

def execHandshakeAnswer (found : StepFindings) (s : State) : Host.Outcome State Fault Refusal :=
  .next (handshakeAnswer found.saveOk found.writing s)

/-- HANDSHAKE_TIMEOUT: refusal 0x09. -/
def execHandshakeTimeout (s : State) : Host.Outcome State Fault Refusal :=
  .next (if s.power.target.isSome then refusePower 9 (stepDomain s.power.step) s else s)

/-! ### wakes (R361) -/

/-- The source is enabled: bit 0 always. -/
def State.wakeEnabled (s : State) (source : Fin 7) : Bool := source == 0 || s.power.wakeEn.getLsbD source.val

/-- The AON timer has run out: the clock stands at its end. -/
def timerWake (source : Fin 7) (s : State) : State :=
  if source = 4 then s.at_ (s.power.enteredAt + cyclesS s.power.wakeTimer.toNat) else s

/-- WAKE_EVENT: the first enabled source that acts in the power state. `decay` are the bytes of the retention banks that have
changed, which their CRC-32C shows (R360). -/
def wakeEvent (source : Fin 7) (decay : List (Fin 4 × Nat × Byte)) (env : BootEnv) (s : State) : State :=
  if s.aon.held || !wakeActs source s.safety.power || !s.wakeEnabled source || !s.wakeHolds source then s
  else
    let t := timerWake source s
    let b : BitVec 4 := BitVec.ofNat 4 source.val
    match s.safety.power with
    | .run => s
    | .idle => wakeIdle b t
    | .sleep => drainAll (wakeSleep b (s.banksPass decay) t)
    | .deep | .dew => wakeDeep b (s.banksPass decay) env t
    | .off => resetClear 3 env t

def execWakeEvent (source : Fin 7) (decay : List (Fin 4 × Nat × Byte)) (env : BootEnv) (s : State) :
    Host.Outcome State Fault Refusal := .next (wakeEvent source decay env s)

/-- The wake condition of DEW_CMP_CFG on the AIN voltages in µV (R343): the input CHANNEL against THRESHOLD × 1.500 V / 1024,
from above with POLARITY 0, from below with POLARITY 1. -/
def dewCondition (cfg : U32) (ain : List Nat) : Bool :=
  let v := ain.getD (fld cfg 16 5) 0 * 1024
  let level := fld cfg 0 10 * 1500000
  if cfg.getLsbD 30 then decide (v < level) else decide (level < v)

/-- DEW_SAMPLE: the comparator is sampled, and LAST latches whether a wake condition holds, which sets WOKE (R343, R364). -/
def dewSample (ain : List Nat) (s : State) : State :=
  if s.aon.held || s.safety.power != .dew || !s.adc.dewCfg.getLsbD 31 then s
  else
    let wake := dewCondition s.adc.dewCfg ain
    { s with
      adc := { s.adc with dewLast := wake, dewWoke := s.adc.dewWoke || wake }
      power := { s.power with
        dewSamples := satInc s.power.dewSamples, dewRun := if wake then s.power.dewRun + 1 else 0 } }

def execDewSample (ain : List Nat) (s : State) : Host.Outcome State Fault Refusal := .next (dewSample ain s)

end Sys2Proof.Machine
end

