-- ==== Sys2Proof/Machine/Supplies.lean ====
section
/-!
DEFINITION. Machine/Supplies.lean: the supply monitor (R365 to R369), the clock monitor and the PLL (R372 to R374), and the
field-memory scrubber with its spares (R273, R274).
-/
namespace Sys2Proof.Machine

/-! ### supplies (Table 17-7) -/

def warnMv (i : Fin 4) : Nat := #v[745, 745, 1710, 3100][i]
def recoverMv (i : Fin 4) : Nat := #v[755, 755, 1720, 3110][i]

def State.modSupply (s : State) (i : Fin 4) (f : Supply → Supply) : State :=
  s.modPower fun p => { p with supplies := vmod p.supplies i f }

/-- The monitor runs (R365). -/
def State.suppliesRun (s : State) : Bool :=
  !s.aon.held && (s.safety.power == .run || s.safety.power == .idle || s.safety.power == .sleep)

/-- One sample into a supply's registers. -/
def Supply.take (x : Supply) (i : Fin 4) (mv : U16) : Supply :=
  { x with
    mv := mv, sagMin := if mv.toNat < x.sagMin.toNat then mv else x.sagMin
    lowRun := if mv.toNat < warnMv i then x.lowRun + 1 else 0
    highRun := if recoverMv i ≤ mv.toNat then x.highRun + 1 else 0 }

/-- A warning event: report, and swaps frozen; an entry in progress is refused (R366, R369). -/
def warningEvent (i : Fin 4) (s : State) : State :=
  let s1 := s.modSupply i fun x => { x with
    warn := true, seen := true, sagCount := satInc x.sagCount, dipFrom := s.clock, highRun := 0 }
  let s2 := report1 0x68 0x1C (w8 i.val) (s1.modPower fun p => { p with frozen := true })
  if s2.power.target.isSome then refusePower 0x0A 11 s2 else s2

/-- Verifications that ended during the dip run again (R366). -/
def reverifyBanks (s : State) : State :=
  forAll (fun (p : Fin 8) t =>
    if (t.bank p).reverify then
      queueJob (.bank p) (t.modBank p fun b => { b.setState b.inactive .verifying with reverify := false })
    else t) s

/-- A dip ends; with the last of overlapping dips, two frozen ticket closes are left. -/
def recovery (i : Fin 4) (s : State) : State :=
  let us : U32 := w32 (min ((s.clock - (s.power.supplies[i]).dipFrom) / 800) 0xFFFFFFFF)
  let s1 := s.modSupply i fun x => { x with
    warn := false, long := false, lowRun := 0, sagLongest := if x.sagLongest.toNat < us.toNat then us else x.sagLongest }
  if s1.power.supplies.toList.any Supply.warn then s1
  else reverifyBanks (s1.modPower fun p => { p with freezeLeft := 2 })

/-- SUPPLY_SAMPLE: one sample of one supply. -/
def supplySample (i : Fin 4) (mv : U16) (s : State) : State :=
  if !s.suppliesRun then s
  else
    let s1 := s.modSupply i fun x => x.take i mv
    let x := s1.power.supplies[i]
    if !x.warn && decide (2 ≤ x.lowRun) then warningEvent i s1
    else if x.warn && decide (2 ≤ x.highRun) then recovery i s1
    else s1

def execSupplySample (supply : Fin 4) (mv : U16) (s : State) : Host.Outcome State Fault Refusal :=
  .next (supplySample supply mv s)

/-- LONG_DIP falls due: SAG_LIMIT µs without recovery (R367). -/
def State.longDipDue (s : State) (i : Fin 4) : Option Nat :=
  let x := s.power.supplies[i]
  if !s.suppliesRun || !x.warn || x.long then none else some (x.dipFrom + cyclesUs s.power.sagLimit.toNat)

def longDip (i : Fin 4) (s : State) : State :=
  report 0x68 0x1C (w8 i.val) 3 {} (s.modSupply i fun x => { x with long := true })

def execLongDip (supply : Fin 4) (s : State) : Host.Outcome State Fault Refusal :=
  .next (timed (fun t => t.longDipDue supply) (longDip supply) s)

/-! ### clock monitor (R372, R374, Table 18-1) -/

/-- Nominal count of a domain per window; 0 for those that are not counted. -/
def nominalCount (i : Fin 11) : Nat :=
  #v[781250, 390625, 195313, 610352, 610352, 78125, 39063, 195313, 0, 0, 24414][i]

/-- Finding class of a domain. -/
def findingClass (i : Fin 11) : Nat := #v[4, 3, 4, 1, 4, 3, 1, 3, 1, 4, 4][i]

/-- The monitor counts the domain: CORE stands in IDLE. -/
def State.counted (s : State) (i : Fin 11) : Bool :=
  nominalCount i != 0 && !(i == 0 && s.safety.power == .idle)

/-- The window of a domain fails: outside 5 % of nominal, or of the crystal's measure once the LPRC is suspect. -/
def windowFails (suspect : Bool) (count : Fin 11 → Nat) (i : Fin 11) : Bool :=
  let c := count i * 100
  if suspect then
    let r := nominalCount i * count 10
    i != 10 && (decide (c * 24414 < 95 * r) || decide (105 * r < c * 24414))
  else decide (c < 95 * nominalCount i) || decide (105 * nominalCount i < c)

/-- Every counted domain fails by the ratio of the crystal within 1 %, while the PLL reports lock (R374). -/
def State.commonMode (s : State) (count : Fin 11 → Nat) : Bool :=
  s.clocks.pllLocked && !s.clocks.lprcSuspect && (List.finRange 11).all fun i =>
    !s.counted i || (windowFails false count i
      && decide (100 * (count i * 24414) ≤ 101 * (count 10 * nominalCount i))
      && decide (99 * (count 10 * nominalCount i) ≤ 100 * (count i * 24414)))

/-- A finding (R372). -/
def finding (i : Fin 11) (cls : Nat) (s : State) : State :=
  report 0x69 0x1D (w8 i.val) cls {} (s.modClocks fun k => { k with findings := satInc k.findings })

/-- The findings of the domains whose last two windows failed. -/
def raiseFindings (s : State) : State :=
  forAll (fun (i : Fin 11) t => if 2 ≤ t.clocks.failRun[i] then finding i (findingClass i) t else t) s

/-- CLOCK_MONITOR_WINDOW: the counts of one window, domain 0 first. -/
def clockWindow (counts : List U32) (s : State) : State :=
  if s.aon.held || !s.net.served || !(s.safety.power == .run || s.safety.power == .idle) then s
  else
    let count (i : Fin 11) : Nat := (counts.getD i.val 0).toNat
    let common := s.commonMode count
    let fails (i : Fin 11) : Bool := s.counted i && windowFails s.clocks.lprcSuspect count i
    let s1 := s.modClocks fun k => { k with
      count := Vector.ofFn fun i => if s.counted i then counts.getD i.val 0 else k.count[i]
      fail := BitVec.ofNat 11 (bitsOf ((List.finRange 11).map fails))
      failRun := Vector.ofFn fun i => if fails i && !common then k.failRun[i] + 1 else 0
      lprcSuspect := k.lprcSuspect || common }
    if common then finding 8 1 s1 else raiseFindings s1

def execClockMonitorWindow (counts : List U32) (s : State) : Host.Outcome State Fault Refusal :=
  .next (clockWindow counts s)

/-! ### the PLL (R373) -/

/-- PLL_LOCK_LOSS: the fell latch, and LIMP. -/
def pllLockLoss (s : State) : State :=
  if s.aon.held || !s.clocks.pllLocked then s
  else
    setLamp .limp { s with
      aon := { s.aon with fell := true, lockLossDue := true }
      clocks := { s.clocks with pllLocked := false } }

def execPllLockLoss (s : State) : Host.Outcome State Fault Refusal := .next (pllLockLoss s)

/-- SAFE_CLOCK_RETURN: SAFE runs again, and the collector writes the record. -/
def safeClockReturn (s : State) : State :=
  if s.aon.held || !s.aon.lockLossDue || s.clocks.pllLocked then s
  else
    report 0x69 0x1D 9 4 {} { s with
      aon := { s.aon with lockLossDue := false }
      clocks := { s.clocks with pllLocked := true } }

def execSafeClockReturn (s : State) : Host.Outcome State Fault Refusal := .next (safeClockReturn s)

/-! ### scrubber and spares (R273, R274) -/

/-- The spare of a bank's half of field memory. -/
def spareOf (bank : Fin 48) : Fin 2 := if bank.val < 24 then 0 else 1

/-- A bank with FM_CE_LIMIT corrections in one pass: it is spared where its half's spare is free. -/
def spareBank (bank : Fin 48) (s : State) : State :=
  let k := spareOf bank
  if s.faults.spare[k] = 0xFF then
    report 0x20 0x17 (w8 bank.val) 2 {} (s.modFaults fun f => { f with
      spare := vput f.spare k (w8 bank.val), copying := vput f.copying k true })
  else report1 0x20 0x17 (w8 bank.val) s

/-- The collector has accepted what field memory reported before, where the scrubber, 2 s over a pass, comes to another
cause or bank, and with it what comes before that in its order (R264, R273). The 64 bounds the registers that can be pending. -/
def acceptBefore (cause index : Byte) (s : State) : State :=
  if s.collects && s.faults.pending.any fun r => r.unit == 0x20 && (r.cause != cause || r.index != index) then
    acceptUpTo 0x20 64 s
  else s

/-- The scrubber's report of an uncorrectable word. -/
def scrubWord (s : State) (w : Nat) : State :=
  report1 0x20 0x18 (w8 (w / 32768)) (acceptBefore 0x18 (w8 (w / 32768)) s)

/-- One bank of a pass: its uncorrectable words in address order, then its limit of corrections. -/
def scrubBank (corrected : List (Fin 48 × Nat)) (words : List Nat) (b : Fin 48) (s : State) : State :=
  let s1 := (words.filter fun w => w / 32768 == b.val).foldl scrubWord s
  corrected.foldl (fun t c =>
    if c.1 = b ∧ t.faults.ceLimit.toNat ≤ c.2 then spareBank b (acceptBefore 0x17 (w8 b.val) t) else t) s1

/-- SCRUB_PASS: words corrected in each bank, and words found uncorrectable beside those already marked; the banks in ascending
address order. -/
def scrubPass (corrected : List (Fin 48 × Nat)) (uncorrectable : List Nat) (s : State) : State :=
  if s.aon.held || s.safety.power != .run then s
  else
    let new := (uncorrectable.filter fun w => decide (w < fmSize / 32) && !s.mem.bad.contains w).dedup
    let found := (s.mem.bad ++ new).insertionSort (· ≤ ·)
    let s1 : State := { s with mem := { s.mem with bad := s.mem.bad ++ new } }
    let s2 := s1.modFaults fun f => { f with
      ceCount := satAdd f.ceCount (corrected.map Prod.snd).sum, ueCount := satAdd f.ueCount found.length }
    forAll (scrubBank corrected found) s2

def execScrubPass (corrected : List (Fin 48 × Nat)) (uncorrectable : List Nat) (s : State) :
    Host.Outcome State Fault Refusal := .next (scrubPass corrected uncorrectable s)

/-- SPARE_COPY_END: the copy into a spare is complete; reads move at the next ticket close. -/
def execSpareCopyEnd (spare : Fin 2) (s : State) : Host.Outcome State Fault Refusal :=
  .next (if s.faults.copying[spare] then
      s.modFaults fun f => { f with copying := vput f.copying spare false, copied := vput f.copied spare true }
    else s)

end Sys2Proof.Machine
end

