-- ==== Sys2Proof/Machine/Dispatch.lean ====
section
/-!
DEFINITION. Machine/Dispatch.lean: one arm per command, each one call of its meaning.
-/
namespace Sys2Proof.Machine

/-- The effect of a command on everything but the queue. -/
def exec (i : Instr) (s : State) : Host.Outcome State Fault Refusal :=
  match i with
  | .porstNRelease env => Sys2Proof.Machine.execPorstNRelease env s
  | .supplyReset env => Sys2Proof.Machine.execSupplyReset env s
  | .managementWatchdogExpiry env => Sys2Proof.Machine.execManagementWatchdogExpiry env s
  | .resetCmd r value env => Sys2Proof.Machine.execResetCmd r value env s
  | .pllNotLockedReset env => Sys2Proof.Machine.execPllNotLockedReset env s
  | .testReset testEn env => Sys2Proof.Machine.execTestReset testEn env s
  | .pllLockLoss => Sys2Proof.Machine.execPllLockLoss s
  | .frameSlotStart slot obs => Sys2Proof.Machine.execFrameSlotStart slot obs s
  | .ticketClose => Sys2Proof.Machine.execTicketClose s
  | .commit r layer tag gateKind gateNum => Sys2Proof.Machine.execCommit r layer tag gateKind gateNum s
  | .commitCancel r layer => Sys2Proof.Machine.execCommitCancel r layer s
  | .commitDiscard r layer => Sys2Proof.Machine.execCommitDiscard r layer s
  | .groupCommit r mask gateKind gateNum tag => Sys2Proof.Machine.execGroupCommit r mask gateKind gateNum tag s
  | .commitCheckEnd layer => Sys2Proof.Machine.execCommitCheckEnd layer s
  | .streamPacket p => Sys2Proof.Machine.execStreamPacket p s
  | .bulkWrite p => Sys2Proof.Machine.execBulkWrite p s
  | .bulkRead p => Sys2Proof.Machine.execBulkRead p s
  | .quickPacket p => Sys2Proof.Machine.execQuickPacket p s
  | .boxExpiry id => Sys2Proof.Machine.execBoxExpiry id s
  | .quickChannelStale => Sys2Proof.Machine.execQuickChannelStale s
  | .objPacket p => Sys2Proof.Machine.execObjPacket p s
  | .eventTransmit => Sys2Proof.Machine.execEventTransmit s
  | .svarnHLinkLoss => Sys2Proof.Machine.execSvarnHLinkLoss s
  | .trainingAttempt n obs => Sys2Proof.Machine.execTrainingAttempt n obs s
  | .trainingRetry n => Sys2Proof.Machine.execTrainingRetry n s
  | .sveRetrain r n fwdPs retPs => Sys2Proof.Machine.execSveRetrain r n fwdPs retPs s
  | .svhRetrain r txPs => Sys2Proof.Machine.execSvhRetrain r txPs s
  | .svarnELinkLoss n lockLost => Sys2Proof.Machine.execSvarnELinkLoss n lockLost s
  | .tileAutoRun n => Sys2Proof.Machine.execTileAutoRun n s
  | .echoReceive n p => Sys2Proof.Machine.execEchoReceive n p s
  | .echoDeadline n => Sys2Proof.Machine.execEchoDeadline n s
  | .statusReceive n p => Sys2Proof.Machine.execStatusReceive n p s
  | .tempReceive n p => Sys2Proof.Machine.execTempReceive n p s
  | .tempMissing n => Sys2Proof.Machine.execTempMissing n s
  | .diagReceive n p => Sys2Proof.Machine.execDiagReceive n p s
  | .vfReceive n p => Sys2Proof.Machine.execVfReceive n p s
  | .fsyncEdge highNs => Sys2Proof.Machine.execFsyncEdge highNs s
  | .fsyncLoss => Sys2Proof.Machine.execFsyncLoss s
  | .timeBaseSync grandmaster intervalLog2 offsetNs => Sys2Proof.Machine.execTimeBaseSync grandmaster intervalLog2 offsetNs s
  | .timeBaseUnlockTimeout => Sys2Proof.Machine.execTimeBaseUnlockTimeout s
  | .read r d => Sys2Proof.Machine.execRead r d s
  | .write r d => Sys2Proof.Machine.execWrite r d s
  | .readInit r d => Sys2Proof.Machine.execReadInit r d s
  | .writeInit r d => Sys2Proof.Machine.execWriteInit r d s
  | .segment r d => Sys2Proof.Machine.execSegment r d s
  | .segmentLast r d => Sys2Proof.Machine.execSegmentLast r d s
  | .abort r d => Sys2Proof.Machine.execAbort r d s
  | .segTimeout c => Sys2Proof.Machine.execSegTimeout c s
  | .busyResponse c => Sys2Proof.Machine.execBusyResponse c s
  | .twinTelegram c copy => Sys2Proof.Machine.execTwinTelegram c copy s
  | .twinWindowExpiry => Sys2Proof.Machine.execTwinWindowExpiry s
  | .twinTimeout => Sys2Proof.Machine.execTwinTimeout s
  | .eventTelegram c => Sys2Proof.Machine.execEventTelegram c s
  | .unlock r password => Sys2Proof.Machine.execUnlock r password s
  | .lock r => Sys2Proof.Machine.execLock r s
  | .pwNew r password => Sys2Proof.Machine.execPwNew r password s
  | .unlockIdleExpiry => Sys2Proof.Machine.execUnlockIdleExpiry s
  | .lockoutEnd => Sys2Proof.Machine.execLockoutEnd s
  | .lampCmdOff r => Sys2Proof.Machine.execLampCmdOff r s
  | .lampCmdService r => Sys2Proof.Machine.execLampCmdService r s
  | .lampCmdFallback r => Sys2Proof.Machine.execLampCmdFallback r s
  | .lampCmdParked r => Sys2Proof.Machine.execLampCmdParked r s
  | .lampCmdTest r => Sys2Proof.Machine.execLampCmdTest r s
  | .lampCmdRecovery r => Sys2Proof.Machine.execLampCmdRecovery r s
  | .testSource r value => Sys2Proof.Machine.execTestSource r value s
  | .testCtrl r value => Sys2Proof.Machine.execTestCtrl r value s
  | .faultReportAccept parityError => Sys2Proof.Machine.execFaultReportAccept parityError s
  | .faultAck r seq => Sys2Proof.Machine.execFaultAck r seq s
  | .faultClear r seq => Sys2Proof.Machine.execFaultClear r seq s
  | .bankOpen r pair => Sys2Proof.Machine.execBankOpen r pair s
  | .swapRequest r pair => Sys2Proof.Machine.execSwapRequest r pair s
  | .bankCancel r pair => Sys2Proof.Machine.execBankCancel r pair s
  | .verificationEnd pair => Sys2Proof.Machine.execVerificationEnd pair s
  | .deferLimitReached pair => Sys2Proof.Machine.execDeferLimitReached pair s
  | .loadFlash r slot => Sys2Proof.Machine.execLoadFlash r slot s
  | .openHost r => Sys2Proof.Machine.execOpenHost r s
  | .closeHost r => Sys2Proof.Machine.execCloseHost r s
  | .packLoadEnd flash => Sys2Proof.Machine.execPackLoadEnd flash s
  | .activate r => Sys2Proof.Machine.execActivate r s
  | .activateTimeout => Sys2Proof.Machine.execActivateTimeout s
  | .packCancel r => Sys2Proof.Machine.execPackCancel r s
  | .schedStart r frame => Sys2Proof.Machine.execSchedStart r frame s
  | .schedStop r => Sys2Proof.Machine.execSchedStop r s
  | .scheduledCommit => Sys2Proof.Machine.execScheduledCommit s
  | .calBuildStart n trigger => Sys2Proof.Machine.execCalBuildStart n trigger s
  | .calBuildComplete n => Sys2Proof.Machine.execCalBuildComplete n s
  | .fmapCommit r n => Sys2Proof.Machine.execFmapCommit r n s
  | .fmapCopyEnd n corrupt => Sys2Proof.Machine.execFmapCopyEnd n corrupt s
  | .fmapRetire r n x y emitter => Sys2Proof.Machine.execFmapRetire r n x y emitter s
  | .fmapClear r n => Sys2Proof.Machine.execFmapClear r n s
  | .fmapRebuild r n => Sys2Proof.Machine.execFmapRebuild r n s
  | .faultMapReplay n => Sys2Proof.Machine.execFaultMapReplay n s
  | .scanPeriodExpiry => Sys2Proof.Machine.execScanPeriodExpiry s
  | .agePeriodExpiry => Sys2Proof.Machine.execAgePeriodExpiry s
  | .governorCompute => Sys2Proof.Machine.execGovernorCompute s
  | .governorScaleMissing n => Sys2Proof.Machine.execGovernorScaleMissing n s
  | .pmbusPoll n answer => Sys2Proof.Machine.execPmbusPoll n answer s
  | .curFailLimitReached n => Sys2Proof.Machine.execCurFailLimitReached n s
  | .underrunLimitReached layer => Sys2Proof.Machine.execUnderrunLimitReached layer s
  | .hedgeRecheck parity => Sys2Proof.Machine.execHedgeRecheck parity s
  | .scrubPass corrected uncorrectable => Sys2Proof.Machine.execScrubPass corrected uncorrectable s
  | .spareCopyEnd spare => Sys2Proof.Machine.execSpareCopyEnd spare s
  | .go r channel => Sys2Proof.Machine.execGo r channel s
  | .stop r channel movedBytes => Sys2Proof.Machine.execStop r channel movedBytes s
  | .descriptorWriteBack channel source failAt => Sys2Proof.Machine.execDescriptorWriteBack channel source failAt s
  | .startMem r channel alive => Sys2Proof.Machine.execStartMem r channel alive s
  | .feedOpen r channel alive => Sys2Proof.Machine.execFeedOpen r channel alive s
  | .chkFeed r channel bytes => Sys2Proof.Machine.execChkFeed r channel bytes s
  | .feedClose r channel alive => Sys2Proof.Machine.execFeedClose r channel alive s
  | .checkAbort r channel alive => Sys2Proof.Machine.execCheckAbort r channel alive s
  | .checkAlive r channel alive => Sys2Proof.Machine.execCheckAlive r channel alive s
  | .checkJobEnd channel source => Sys2Proof.Machine.execCheckJobEnd channel source s
  | .regularConversionEnd microvolts => Sys2Proof.Machine.execRegularConversionEnd microvolts s
  | .adtrigEdge rising heldCycles => Sys2Proof.Machine.execAdtrigEdge rising heldCycles s
  | .injectedSequenceEnd microvolts => Sys2Proof.Machine.execInjectedSequenceEnd microvolts s
  | .tsensReading raw railCode => Sys2Proof.Machine.execTsensReading raw railCode s
  | .thermalRestart => Sys2Proof.Machine.execThermalRestart s
  | .powerCmdRun r => Sys2Proof.Machine.execPowerCmdRun r s
  | .powerCmdIdle r => Sys2Proof.Machine.execPowerCmdIdle r s
  | .powerCmdSleep r => Sys2Proof.Machine.execPowerCmdSleep r s
  | .powerCmdDeep r => Sys2Proof.Machine.execPowerCmdDeep r s
  | .powerCmdDew r => Sys2Proof.Machine.execPowerCmdDew r s
  | .powerCmdOff r => Sys2Proof.Machine.execPowerCmdOff r s
  | .handshakeAnswer found => Sys2Proof.Machine.execHandshakeAnswer found s
  | .wakeEvent source decay env => Sys2Proof.Machine.execWakeEvent source decay env s
  | .wakeAck r => Sys2Proof.Machine.execWakeAck r s
  | .dewSample ain => Sys2Proof.Machine.execDewSample ain s
  | .supplySample supply mv => Sys2Proof.Machine.execSupplySample supply mv s
  | .longDip supply => Sys2Proof.Machine.execLongDip supply s
  | .clockMonitorWindow counts => Sys2Proof.Machine.execClockMonitorWindow counts s
  | .store r => Sys2Proof.Machine.execStore r s
  | .storeEnd writeOk => Sys2Proof.Machine.execStoreEnd writeOk s
  | .restoreDefaults r => Sys2Proof.Machine.execRestoreDefaults r s
  | .calsetWrite r => Sys2Proof.Machine.execCalsetWrite r s
  | .calsetWriteEnd programmed => Sys2Proof.Machine.execCalsetWriteEnd programmed s
  | .registerWrite r d => Sys2Proof.Machine.execRegisterWrite r d s
  | .porstNAssert lowNs => Sys2Proof.Machine.execPorstNAssert s lowNs
  | .svarnHLinkUp => Sys2Proof.Machine.execSvarnHLinkUp s
  | .svarnHRxIdleEntry deep => Sys2Proof.Machine.execSvarnHRxIdleEntry deep s
  | .svarnHRxIdleExit => Sys2Proof.Machine.execSvarnHRxIdleExit s
  | .tsensNoConversion => Sys2Proof.Machine.execTsensNoConversion s
  | .handshakeTimeout => Sys2Proof.Machine.execHandshakeTimeout s
  | .canBusOff => Sys2Proof.Machine.execCanBusOff s
  | .plcaActiveLoss => Sys2Proof.Machine.execPlcaActiveLoss s
  | .grandmasterSyncSend => Sys2Proof.Machine.execGrandmasterSyncSend s
  | .safeClockReturn => Sys2Proof.Machine.execSafeClockReturn s
  | .prbsCheckerLock received => Sys2Proof.Machine.execPrbsCheckerLock received s

end Sys2Proof.Machine
end

