-- ==== Sys2Proof/WellFormed.lean ====
section
/-!
DEFINITION. WellFormed.lean: what the operands of a command satisfy when its sender keeps to the spec. The machine answers
a command that is not well formed too; a test shows each check refuse a term.
-/
namespace Sys2Proof

/-- The payload of a packet that arrived whole has the LENGTH bytes its header gives, a multiple of 4 (Table 8-4) and at most
the kind's (Table 8-5). -/
def Packet.wf (limit : Nat) (p : Packet) : Bool :=
  p.arrival != .whole
  || (p.payload.length == p.length.toNat && p.payload.length % 4 == 0 && decide (p.payload.length ≤ limit))

/-- T1S alone gives a request an envelope of its own (R282). -/
def Requester.wf (r : Requester) : Bool :=
  r.carrier == .t1s || (r.envelope.mac == 0 && r.envelope.tag.isNone)

/-- The head of a frame that holds a request (R285, R286): FUNC REQUEST, VERSION 0x01, and no T1S destination elsewhere. -/
def FrameHead.wf (h : FrameHead) : Bool := h.func == 3 && h.version == 1 && !h.overlong

/-- Data of a request within the carrier's frame (R285 to R287). -/
def Pdu.wf (r : Requester) (d : Pdu) : Bool :=
  d.head.wf && decide (d.data.length ≤ if r.carrier == .can then 56 else 1008)

/-- A descriptor read by a training attempt has at most 4096 bytes (R181). -/
def TrainObs.wf (o : TrainObs) : Bool := decide (o.descriptor.length ≤ 4096)

/-- The boot finds an erase time, a program time and descriptors that a flash and a tile can give. -/
def BootEnv.wf (e : BootEnv) : Bool :=
  e.train0.all TrainObs.wf && e.train1.all TrainObs.wf && decide (0 < e.cycles)

/-- A band has at most 65,536 codes of a tile to be late or wrong in. -/
def SlotObs.wf (o : SlotObs) : Bool :=
  decide (o.late0 ≤ 65536) && decide (o.late1 ≤ 65536) && (o.residue0 ++ o.residue1).all fun k => decide (k < 65536)

/-- A command as a sender that keeps to the spec gives it. -/
def Instr.wf : Instr → Bool
  | .porstNRelease e | .supplyReset e | .managementWatchdogExpiry e | .pllNotLockedReset e | .testReset _ e => e.wf
  | .resetCmd r _ e => r.wf && e.wf
  | .frameSlotStart _ o => o.wf
  | .streamPacket p | .bulkWrite p | .bulkRead p => p.wf 2048
  | .quickPacket p => p.wf 1056
  | .objPacket p | .diagReceive _ p => p.wf 1024
  | .statusReceive _ p | .vfReceive _ p => p.wf 256
  | .tempReceive _ p => p.wf 8
  | .echoReceive _ p => p.wf 4
  | .trainingAttempt _ o => o.wf
  | .read r d | .write r d | .readInit r d | .writeInit r d | .segment r d | .segmentLast r d | .abort r d => r.wf && d.wf r
  | .registerWrite r d => r.wf && d.wf r
  | .twinTelegram c x => c != .svh && x.bytes.length == 16
  | .eventTelegram c => c != .svh
  | .unlock r p | .pwNew r p => r.wf && decide (p.length ≤ 32)
  | .chkFeed r _ b => r.wf && decide (b.length ≤ 56)
  | .injectedSequenceEnd l => decide (l.length ≤ 4)
  | .clockMonitorWindow l => l.length == 11
  | .dewSample l => l.length == 20
  | .wakeEvent _ decay e => decay.all (fun d => decide (d.2.1 < 4096)) && e.wf
  | .prbsCheckerLock x => decide (x.bits.length ≤ 1024)
  | .commit r _ _ _ _ | .commitCancel r _ | .commitDiscard r _ | .groupCommit r _ _ _ _ => r.wf
  | .sveRetrain r _ _ _ | .svhRetrain r _ | .lock r | .testSource r _ | .testCtrl r _ => r.wf
  | .lampCmdOff r | .lampCmdService r | .lampCmdFallback r | .lampCmdParked r | .lampCmdTest r | .lampCmdRecovery r => r.wf
  | .faultAck r _ | .faultClear r _ | .bankOpen r _ | .swapRequest r _ | .bankCancel r _ => r.wf
  | .loadFlash r _ | .openHost r | .closeHost r | .activate r | .packCancel r | .schedStart r _ | .schedStop r => r.wf
  | .fmapCommit r _ | .fmapRetire r _ _ _ _ | .fmapClear r _ | .fmapRebuild r _ => r.wf
  | .go r _ | .stop r _ _ | .startMem r _ _ | .feedOpen r _ _ | .feedClose r _ _ | .checkAbort r _ _ => r.wf
  | .checkAlive r _ _ => r.all Requester.wf
  | .powerCmdRun r | .powerCmdIdle r | .powerCmdSleep r | .powerCmdDeep r | .powerCmdDew r | .powerCmdOff r => r.wf
  | .wakeAck r | .store r | .restoreDefaults r | .calsetWrite r => r.wf
  | _ => true

/-- Who sent a command that a requester sends (R283); none for the others, and for the write of CHK_CTRL that Gorse makes
itself. -/
def Instr.requester : Instr → Option Requester
  | .resetCmd r _ _ | .commit r _ _ _ _ | .commitCancel r _ | .commitDiscard r _ | .groupCommit r _ _ _ _
  | .sveRetrain r _ _ _ | .svhRetrain r _ | .read r _ | .write r _ | .readInit r _ | .writeInit r _ | .segment r _
  | .segmentLast r _ | .abort r _ | .unlock r _ | .lock r | .pwNew r _ | .lampCmdOff r | .lampCmdService r
  | .lampCmdFallback r | .lampCmdParked r | .lampCmdTest r | .lampCmdRecovery r | .testSource r _ | .testCtrl r _
  | .faultAck r _ | .faultClear r _ | .bankOpen r _ | .swapRequest r _ | .bankCancel r _ | .loadFlash r _
  | .openHost r | .closeHost r | .activate r | .packCancel r | .schedStart r _ | .schedStop r | .fmapCommit r _
  | .fmapRetire r _ _ _ _ | .fmapClear r _ | .fmapRebuild r _ | .go r _ | .stop r _ _ | .startMem r _ _
  | .feedOpen r _ _ | .chkFeed r _ _ | .feedClose r _ _ | .checkAbort r _ _ | .powerCmdRun r | .powerCmdIdle r
  | .powerCmdSleep r | .powerCmdDeep r | .powerCmdDew r | .powerCmdOff r | .wakeAck r | .store r | .restoreDefaults r
  | .calsetWrite r | .registerWrite r _ => some r
  | .checkAlive r _ _ => r
  | _ => none

end Sys2Proof
end

