-- ==== Sys2Proof/Safety.lean ====
section
/-!
DEFINITION. Safety.lean: the words that claims use: a command that completes with an effect, the request a host command
puts on its carrier, a request that its port executes at once, and a state apart from the object-access ports.
-/
namespace Sys2Proof.Machine

/-- The command `c` ends in a next state in which `P` holds. -/
def Completes (c : Instr) (s : State) (P : State → Prop) : Prop := ∃ t, exec c s = .next t ∧ P t

/-- Both memories are in the canonical form. -/
def Mem.wf (m : Mem) : Bool := cellWf fmReset m.fm && cellWf flashReset m.flash

/-- A request that its port executes as its last byte arrives (R283 to R290): delivered and addressed to the node, a frame
the carrier can carry, no operation in service, no repeat of the node's previous request, and no PROTOCOL error. -/
def State.executesNow (s : State) (q : Request) : Bool :=
  s.delivers q && s.macAccepts q && s.safety.power != .sleep && q.r.dest != 0 && q.r.dest == s.net.nodeActive.setWidth 10
  && q.use == .request && (s.port q.r.carrier).service.isNone && !s.repeats q && !q.protocolBad

/-- What an executed request finds: the frame counted, its TID with the transfer of its node (R293), and the request noted for
R290. -/
def State.noted (s : State) (q : Request) : State := noteRequest q (noteTid q (countRx q.r.carrier s))

/-- A port without what answering a request or queueing an event changes: the last response and frame, the entries of R290, the
TID that an open transfer has from its owner, the event telegrams, and the counters of frames. -/
def Port.quiet (p : Port) : Port :=
  { p with
    last := none, wire := none, transfer := p.transfer.map fun t => { t with tid := 0 }
    answered := [], rxOk := 0, txOk := 0, events := [], eventSeq := 0, eventLost := 0 }

/-- The state without the replies, the queued events and their counters. -/
def State.quiet (s : State) : State :=
  { s with
    net := { s.net with can := s.net.can.quiet, t1s := s.net.t1s.quiet, svh := s.net.svh.quiet }
    svh := { s.svh with replies := [], events := [], eventSeq := 0, eventLost := 0 } }

/-- The last response of the requester's port is WRITE done (R289). -/
def State.wroteDone (t : State) (q : Request) : Prop :=
  (t.port q.r.carrier).last = some (responseTo q 0x82 [])

/-- The last response of the requester's port is ABORTED with this code (R291). -/
def State.aborted (t : State) (q : Request) (a : Abort) : Prop :=
  (t.port q.r.carrier).last = some (responseTo q 0xFF (abortData a))

/-- A request that its port executes at once while Gorse or an intact device serves every index (R288, R384). -/
def State.accepts (s : State) (q : Request) : Bool := s.executesNow q && !s.net.romOnly

/-- The request that a host write of `size` bytes puts on its carrier is executed at once. -/
def State.takes (s : State) (r : Requester) (index sub size value : Nat) : Bool :=
  s.accepts (writeOf r index sub size value)

/-- The host command `c`, the write `q`, completes: it is answered WRITE done and, replies and events apart, leaves `u`. -/
def Writes (c : Instr) (q : Request) (s u : State) : Prop :=
  Completes c s fun t => t.wroteDone q ∧ t.quiet = u.quiet

/-- The host command `c`, the write `q`, is answered ABORTED with `a` and, replies and events apart, changes nothing. -/
def Refuses (c : Instr) (q : Request) (a : Abort) (s : State) : Prop :=
  Completes c s fun t => t.aborted q a ∧ t.quiet = s.quiet

/-- The block is served by Gorse: out of reset, in power state RUN (R382). -/
def State.inService (s : State) : Bool :=
  !s.aon.held && s.net.served && !s.net.romOnly && s.safety.power == .run

/-- The frames that bring a request of each command code, with the code. -/
def requestCommands (r : Requester) (d : Pdu) : List (Instr × Byte) :=
  [(.read r d, 1), (.write r d, 2), (.registerWrite r d, 2), (.readInit r d, 3), (.writeInit r d, 4), (.segment r d, 5),
    (.segmentLast r d, 6), (.abort r d, 7)]

/-- A pair whose pending swap request is withdrawn (R124): a bank under verification is OPEN again. -/
def BankPair.withdrawn (b : BankPair) : BankPair :=
  if b.pending then
    { (if b.state b.inactive = .verifying then b.setState b.inactive .opened else b) with pending := false, inGroup := false }
  else b

/-- What a withdrawal leaves of the jobs of channel 0 (R124): those of the pairs in `p` go. -/
def State.jobsWithout (s : State) (p : Fin 8 → Bool) : List CheckJob :=
  s.mgmt.jobs.filter fun j => !(List.finRange 8).any fun k => p k && (s.bank k).pending && j == .bank k

/-- A job starts on check unit channel 0: DONE, ERR and the comparison of the last one clear (R328, Table 15-8). -/
def State.jobStarted (s : State) : State :=
  s.modChk 0 fun c => { c with done := false, err := 0, isMatch := false, mismatch := false }

/-- A job behind those of channel 0; with none there it starts. -/
def State.jobQueued (s : State) (j : CheckJob) : State :=
  let u : State := { s with mgmt := { s.mgmt with jobs := s.mgmt.jobs ++ [j] } }
  if s.mgmt.jobs = [] then u.jobStarted else u

/-- A job leaves channel 0; where it was running, the next one starts. -/
def State.jobDropped (s : State) (j : CheckJob) : State :=
  let u : State := { s with mgmt := { s.mgmt with jobs := s.mgmt.jobs.filter fun k => k != j } }
  if s.mgmt.jobs.head? = some j ∧ u.mgmt.jobs ≠ [] then u.jobStarted else u

/-- The port that a long ACTIVATE held is free, and its requester is told STATE_CONFLICT (that code is the model's reading, log
entry 41). -/
def ActivateAnswered (s t : State) : Prop :=
  ∀ (c : Carrier) (v : Service), (s.port c).service = some v → v.awaits = .long .activate →
    (t.port c).service = none
    ∧ (v.q.r.dest ≠ 0 → (t.port c).last = some (responseTo v.q 0xFF (abortData .stateConflict)))

/-- An object whose write only stores the value: its size in bytes, the range it takes, and the state with a value stored. -/
structure PlainObject where
  index : U16
  sub : Byte
  size : Nat
  lo : Nat
  hi : Nat
  set : Nat → State → State

/-- Objects of every chapter whose write stores the value and does nothing else (chapter 14, Tables 14-7 to 14-13). -/
def plainObjects : List PlainObject := [
  ⟨0x1010, 1, 1, 0, 1, fun v s => s.modNet fun n => { n with canNomRate := w8 v }⟩,
  ⟨0x1020, 1, 1, 0, 1, fun v s => s.modNet fun n => { n with plcaEnable := v == 1 }⟩,
  ⟨0x1020, 2, 1, 0, 254, fun v s => s.modNet fun n => { n with plcaId := w8 v }⟩,
  ⟨0x1030, 1, 2, 10, 1000, fun v s => s.modNet fun n => { n with segTimeout := w16 v }⟩,
  ⟨0x1040, 3, 2, 50, 10000, fun v s => s.modTb fun t => { t with lockTol := w16 v }⟩,
  ⟨0x2030, 1, 1, 0, 2, fun v s => s.modFrame fun f => { f with ditherMode := w8 v }⟩,
  ⟨0x3010, 3, 2, 0, 65535, fun v s => s.modWarp fun w => { w with levelSlew := w16 v }⟩,
  ⟨0x3021, 5, 1, 0, 1, fun v s => s.modStamp fun x => { x with boxFrame := w8 v }⟩,
  ⟨0x3800, 7, 2, 1, 1000, fun v s => s.modPack fun x => { x with activateTimeout := w16 v }⟩,
  ⟨0x3820, 1, 2, 1, 65535, fun v s => s.modPack fun x => { x with deferLimit := w16 v }⟩,
  ⟨0x4000, 1, 1, 24, 80, fun v s => s.modFrame fun f => { f with frameDiv := w8 v, divWrites := f.divWrites ++ [w8 v] }⟩,
  ⟨0x4001, 1, 1, 0, 2, fun v s => s.modFrame fun f => { f with alignMode := w8 v }⟩,
  ⟨0x4001, 2, 8, 0, 2 ^ 64 - 1, fun v s => s.modFrame fun f => { f with epoch := w64 v }⟩,
  ⟨0x4001, 3, 1, 0, 1, fun v s => s.modFrame fun f => { f with fsyncOut := v == 1 }⟩,
  ⟨0x4001, 4, 2, 0, 5000, fun v s => s.modFrame fun f => { f with fsyncDelay := w16 v }⟩,
  ⟨0x4001, 5, 2, 0, 2000, fun v s => s.modFrame fun f => { f with phaseSlew := w16 v }⟩,
  ⟨0x4001, 6, 2, 10, 65535, fun v s => s.modFrame fun f => { f with alignTol := w16 v }⟩,
  ⟨0x4002, 1, 1, 1, 255, fun v s => s.modFrame fun f => { f with underrunLimit := w8 v }⟩,
  ⟨0x4840, 4, 1, 1, 3, fun v s => s.modLink 0 fun l => { l with trainAttempts := w8 v }⟩,
  ⟨0x4848, 4, 1, 1, 3, fun v s => s.modLink 1 fun l => { l with trainAttempts := w8 v }⟩,
  ⟨0x5000, 3, 2, 100, 60000, fun v s => s.modCfg fun c => { c with scanPeriod := w16 v }⟩,
  ⟨0x5000, 5, 2, 10, 200, fun v s => s.modCfg fun c => { c with calTstep := w16 v }⟩,
  ⟨0x5000, 7, 2, 1, 0x8000, fun v s => s.modCfg fun c => { c with govRise := w16 v }⟩,
  ⟨0x5020, 1, 2, 0, 65535, fun v s => s.modCur 0 fun c => { c with uaPerLsb := w16 v }⟩,
  ⟨0x5021, 3, 2, 200, 1000, fun v s => s.modCur 1 fun c => { c with tau := w16 v }⟩,
  ⟨0x6800, 3, 1, 0, 63, fun v s => s.modFaults fun f => { f with sel := w8 v }⟩,
  ⟨0x6810, 1, 1, 1, 255, fun v s => s.modFaults fun f => { f with heal := w8 v }⟩,
  ⟨0x6810, 5, 2, 1, 65535, fun v s => s.modFaults fun f => { f with ceLimit := w16 v }⟩,
  ⟨0x7010, 2, 4, 0, 2 ^ 32 - 1, fun v s => s.modChannel 0 fun c => { c with head := w32 v }⟩,
  ⟨0x7017, 2, 4, 0, 2 ^ 32 - 1, fun v s => s.modChannel 7 fun c => { c with head := w32 v }⟩,
  ⟨0x7810, 1, 1, 1, 16, fun v s => s.modAdc fun a => { a with regLen := w8 v }⟩,
  ⟨0x8030, 1, 2, 1, 10000, fun v s => s.modPower fun x => { x with dewPeriod := w16 v }⟩,
  ⟨0x8040, 2, 4, 0, 604800, fun v s => s.modPower fun x => { x with wakeTimer := w32 v }⟩]

/-- An RWP object: its size in bytes, the values it takes, and the state with a value in it, with what else the write does
(R200, R300). -/
structure ProtectedObject where
  index : U16
  sub : Byte
  size : Nat
  takes : Nat → State → Bool
  set : Nat → State → State

/-- From `lo` to `hi`. -/
def takesTo (lo hi v : Nat) (_ : State) : Bool := decide (lo ≤ v) && decide (v ≤ hi)
def takesFromTo (lo hi : Int) (v : Nat) (_ : State) : Bool := decide (lo ≤ (w16 v).toInt) && decide ((w16 v).toInt ≤ hi)

/-- A write of COMP_SHARE, DIM_RETIRE, TCOEF or AGE_K fires trigger 0x6 on both tiles (R200). -/
def withCalTrigger (f : DiagCfg → DiagCfg) (s : State) : State := trigger 1 6 (trigger 0 6 (s.modCfg f))

/-- Every object of access code RWP but PW_NEW (Tables 14-4 to 14-13). -/
def protectedObjects : List ProtectedObject := [
  ⟨0x1000, 1, 2, takesTo 1 1023, fun v s => s.modNet fun n => { n with nodeId := w16 v }⟩,
  ⟨0x1040, 1, 1, takesTo 0 255, fun v => setPriority1 (w8 v)⟩,
  ⟨0x1040, 2, 1, fun v _ => v == 0 || decide (251 ≤ v), fun v s => s.modTb fun t => { t with logSync := w8 v }⟩,
  ⟨0x2000, 4, 1, takesTo 0 255, fun v s => { s with essential := w8 v }⟩,
  ⟨0x3010, 4, 2, takesTo 0 65535, fun v s => s.modWarp fun w => { w with levelTimeout := w16 v }⟩,
  ⟨0x3010, 5, 2, takesFromTo (-4096) 4096, fun v s => s.modWarp fun w => { w with levelStaleValue := w16 v }⟩,
  ⟨0x3021, 1, 2, fun v s => decide (20 ≤ v) && decide (v ≤ s.stamp.quickStale.toNat),
    fun v s => s.modStamp fun t => { t with boxHold := w16 v }⟩,
  ⟨0x3021, 2, 2, fun v s => decide (20 ≤ v) && decide (s.stamp.boxHold.toNat ≤ v) && decide (v ≤ 100),
    fun v s => s.modStamp fun t => { t with quickStale := w16 v }⟩,
  ⟨0x3021, 3, 2, takesTo 0 6553, fun v s => s.modStamp fun t => { t with attenFloor := w16 v }⟩,
  ⟨0x3021, 4, 2, takesTo 0 50, fun v s => s.modStamp fun t => { t with extrapLimit := w16 v }⟩,
  ⟨0x3800, 6, 1, takesTo 0 1, fun v s => s.modPack fun p => { p with signedOnly := v == 1 }⟩,
  ⟨0x4840, 3, 2, takesTo 200 1500, fun v s => s.modLink 0 fun l => { l with lossTimeout := w16 v }⟩,
  ⟨0x4848, 3, 2, takesTo 200 1500, fun v s => s.modLink 1 fun l => { l with lossTimeout := w16 v }⟩,
  ⟨0x5000, 1, 1, takesTo 0 128, fun v => withCalTrigger fun g => { g with compShare := w8 v }⟩,
  ⟨0x5000, 2, 1, takesTo 64 112, fun v => withCalTrigger fun g => { g with dimRetire := w8 v }⟩,
  ⟨0x5000, 6, 1, takesTo 2 6, fun v s => s.modCfg fun g => { g with curFailLimit := w8 v }⟩,
  ⟨0x5000, 8, 2, takesTo 0 65535, fun v => withCalTrigger fun g => { g with tcoef := w16 v }⟩,
  ⟨0x5000, 9, 2, takesTo 0 65535, fun v => withCalTrigger fun g => { g with ageK := w16 v }⟩,
  ⟨0x5000, 10, 4, takesTo 0 (2 ^ 32 - 1), fun v s => s.modCfg fun g => { g with pmbusDefault := w32 v }⟩,
  ⟨0x5020, 4, 4, takesTo 0 (2 ^ 32 - 1), fun v s => s.modCur 0 fun c => { c with tolAbs := w32 v }⟩,
  ⟨0x5020, 5, 2, takesTo 0 65535, fun v s => s.modCur 0 fun c => { c with tolRel := w16 v }⟩,
  ⟨0x5021, 4, 4, takesTo 0 (2 ^ 32 - 1), fun v s => s.modCur 1 fun c => { c with tolAbs := w32 v }⟩,
  ⟨0x5021, 5, 2, takesTo 0 65535, fun v s => s.modCur 1 fun c => { c with tolRel := w16 v }⟩,
  ⟨0x5800, 7, 2, takesTo 0x8000 0xFFFF, fun v s => { s with guard := { s.guard with clampMargin := w16 v } }⟩,
  ⟨0x5840, 3, 2, takesTo 6 20, fun v s => { s with stile := { s.stile with echoDeadline := w16 v } }⟩,
  ⟨0x5880, 5, 2, takesTo 100 10000, fun v s => { s with hedge := { s.hedge with recheck := w16 v } }⟩,
  ⟨0x6010, 1, 1, takesTo 0 2, fun v s => s.modTwin fun t => { t with mode := w8 v }⟩,
  ⟨0x6010, 2, 2, takesTo 1000 4000, fun v s => s.modTwin fun t => { t with window := w16 v }⟩,
  ⟨0x6010, 3, 2, takesTo 30 200, fun v s => s.modTwin fun t => { t with timeout := w16 v }⟩,
  ⟨0x6020, 5, 2, takesTo 30 3600, fun v s => s.modAccess fun a => { a with idle := w16 v }⟩,
  ⟨0x6810, 2, 1, takesTo 1 16, fun v s => s.modFaults fun f => { f with returnFrames := w8 v }⟩,
  ⟨0x6810, 3, 1, takesTo 1 15, fun v s => s.modFaults fun f => { f with repeatLimit := w8 v }⟩,
  ⟨0x6810, 4, 1, takesTo 1 4, fun v s => s.modFaults fun f => { f with histClass := w8 v }⟩,
  ⟨0x7C10, 1, 2, takesTo 0x0800 0x8000, fun v s => { s with tsens := { s.tsens with jdFloor := w16 v } }⟩,
  ⟨0x8020, 17, 2, takesTo 100 10000, fun v s => s.modPower fun p => { p with sagLimit := w16 v }⟩,
  ⟨0x8830, 11, 2, takesTo 20 1000, fun v s => s.modClocks fun k => { k with wdtTimeout := w16 v }⟩,
  ⟨0x8840, 4, 1, fun v s => v == 0xFF || s.slotInFlash (w8 v), fun v s => s.modClocks fun k => { k with bootPackSlot := w8 v }⟩,
  ⟨0x8850, 5, 4, fun v s => decide (s.clocks.minVersion.toNat ≤ v) && decide (v ≤ s.clocks.gorseVersion.toNat),
    fun v s => s.modClocks fun k => { k with minVersion := w32 v }⟩]

/-- The value stored with its write (R308); GORSE_MIN_VERSION is stored by itself (Table 18-6). -/
def Cairn.keeps (c : Cairn) (x : ProtectedObject) (b : List Byte) : Cairn :=
  if x.index = 0x8850 then c
  else { c with persisted :=
    (c.persisted.filter fun v => !(v.index == x.index && v.sub == x.sub)) ++ [⟨x.index, x.sub, b, crc32cOf b⟩] }

/-! ### what a bank must contain -/

/-- Node (i, j) of a mesh of `nx` columns: its words start at this offset (R27). -/
def meshNode (nx i j : Nat) : Nat := 0x20 + 4 * (j * nx + i)

/-- `m` is the band span of a mesh (R41): no two lit nodes of the node rows of one band lie farther apart in elevation, and two
lie that far apart, or no node is lit. -/
def IsBandSpan (t : List Byte) (nx rows : Nat) (m : Int) : Prop :=
  let lit (i j : Nat) := i < nx ∧ u16At t (meshNode nx i j) ≠ 0x8000
  let el (i j : Nat) := i16At t (meshNode nx i j + 2)
  let inBand (b j : Nat) := rows * b / 8 ≤ j ∧ j ≤ (rows * b + rows - 1) / 8 + 1
  (∀ b i j i' j', b < 32 → inBand b j → inBand b j' → lit i j → lit i' j' → el i j - el i' j' ≤ m)
  ∧ ((m = 0 ∧ ∀ b i j, b < 32 → inBand b j → ¬lit i j)
    ∨ ∃ b i j i' j', b < 32 ∧ inBand b j ∧ inBand b j' ∧ lit i j ∧ lit i' j' ∧ el i j - el i' j' = m)

/-- The conditions of Table 2-4 in their order, CHECK to SPAN (R28). -/
def MeshFault (t : List Byte) (e : DirEntry) (unreadable : Prop) (l : Link) (k : Nat) : Prop :=
  let nx := (u16At t 4).toNat
  let ny := (u16At t 6).toNat
  match k with
  | 0 => unreadable ∨ crc32cOf t ≠ e.crc
  | 1 => u16At t 0 ≠ 1 ∨ e.version ≠ u16At t 0 ∨ byteAt t 3 ≠ 0 ∨ u16At t 0xE ≠ 0 ∨ slice t 0x18 8 ≠ zeros (slice t 0x18 8).length
      ∨ ¬(-2560 ≤ i16At t 8 ∧ i16At t 8 ≤ 2560) ∨ ¬(-640 ≤ i16At t 0xA ∧ i16At t 0xA ≤ 640)
  | 2 => l.descriptor = [] ∨ byteAt t 2 ≠ l.kind
  | 3 => nx ≠ gridX l.kind / 8 + 1 ∨ ny ≠ gridY l.kind / 8 + 1 ∨ e.length.toNat ≠ 32 + 4 * nx * ny
  | 4 => u64At t 0x10 ≠ 0 ∧ u64At t 0x10 ≠ l.serial
  | 5 => ∃ i j, i < nx ∧ j < ny ∧ u16At t (meshNode nx i j) ≠ 0x8000 ∧ u16At t (meshNode nx i j + 2) = 0x8000
  | _ => ¬IsBandSpan t nx (bandRows l.kind) (u16At t 0xC).toNat

/-- The colour table `c` of a bank that the host loaded is valid (R51). -/
def ColourTableHolds (t : List Byte) (c : Nat) : Prop :=
  u16At t 0 = 1 ∧ (byteAt t 2).toNat = c ∧ u32At t 4 = crc32cOf (slice t 0x20 0x820)

/-- The own checks of a stamp table (R102). -/
def StampTableHolds (t : List Byte) (version : U16) : Prop :=
  u16At t 0 = 1 ∧ version = u16At t 0 ∧ u16At t 2 = 0 ∧ byteAt t 0xB = 0
  ∧ (∀ k, k < 3 → byteAt t (0xD + k) = 0) ∧ (∀ k, k < 112 → byteAt t (0x290 + k) = 0)
  ∧ (∀ k, k < 6 → byteAt t (4 + k) < byteAt t (5 + k)) ∧ (byteAt t 0xC).toNat ≤ 10
  ∧ (∀ c, c < 320 → -639 ≤ i16At t (0x10 + 2 * c) ∧ i16At t (0x10 + 2 * c) ≤ 640)
  ∧ ∀ i, i < 64 → (byteAt t (0x300 + 16 * i + 4)).toNat ≤ 10 ∧ ∀ k, k < 8 → byteAt t (0x300 + 16 * i + 8 + k) = 0

/-- A rectangle record of a zone set keeps Table 10-4; `kind` is that of the tile trained on its link, 0xFF for none. -/
def RectHolds (r : RectRec) (kind : Byte) : Prop :=
  (r.kind = 1 ∨ r.kind = 2) ∧ r.tile.toNat ≤ 1 ∧ kind ≠ 0xFF ∧ r.subf.toNat ∈ [1, 2, 3]
  ∧ 1 ≤ r.missLimit.toNat ∧ r.missLimit.toNat ≤ 8 ∧ 1 ≤ r.h ∧ r.react.toNat ∈ [1, 2, 3] ∧ r.reserved = false
  ∧ (r.kind = 1 → 1 ≤ r.w ∧ r.x0 + r.w ≤ gridX kind ∧ r.y0 + r.h ≤ gridY kind)
  ∧ (r.kind = 2 → r.x0 = 0 ∧ r.w = 0 ∧ r.y0 + r.h ≤ 32)
  ∧ (r.layers ≠ 0 → r.react = 2 ∧ r.kind = 1)

/-- The own checks of a zone set (R217). -/
def ZoneSetHolds (t : List Byte) (version : U16) (length : Nat) (kinds : Fin 2 → Byte) : Prop :=
  let nz := (byteAt t 2).toNat
  let nr := (byteAt t 3).toNat
  u16At t 0 = 1 ∧ version = u16At t 0 ∧ 1 ≤ nz ∧ nz ≤ 32 ∧ nr ≤ 32 ∧ (u32At t 4).toNat = length ∧ u32At t 8 = 64
  ∧ (u32At t 0xC).toNat = 64 + 64 * nz ∧ (∀ k, k < 48 → byteAt t (0x10 + k) = 0)
  ∧ (∀ k, k < nz →
      let z := zoneAt t k
      z.flags.toNat < 32 ∧ z.reserved = false ∧ (z.flags.getLsbD 0 ∨ z.flags.getLsbD 1 ∨ z.flags.getLsbD 2)
      ∧ (z.flags.getLsbD 3 ∨ z.flags.getLsbD 4) ∧ z.tiles.toNat ∈ [1, 2, 3]
      ∧ (z.tiles.getLsbD 0 → kinds 0 ≠ 0xFF) ∧ (z.tiles.getLsbD 1 → kinds 1 ≠ 0xFF)
      ∧ z.cellShift.toNat ≤ 6 ∧ z.u0 + z.gridW * 2 ^ z.cellShift.toNat ≤ 5120 ∧ z.v0 + z.gridH * 2 ^ z.cellShift.toNat ≤ 1280
      ∧ z.gridOff + z.gridW * z.gridH ≤ length ∧ (z.flags.getLsbD 0 → z.flags.getLsbD 1 → z.floor ≤ z.cap)
      ∧ z.frames.toNat % 16 ∈ [1, 2] ∧ z.frames.toNat / 16 ∈ [1, 2])
  ∧ ∀ k, k < nr → RectHolds (rectAt t (64 + 64 * nz + 32 * k)) (if (rectAt t (64 + 64 * nz + 32 * k)).tile = 1 then kinds 1 else kinds 0)

/-- The own checks of a commit schedule (R137). -/
def ScheduleHolds (t : List Byte) (version : U16) (length : Nat) : Prop :=
  let n := (u16At t 2).toNat
  let e (k : Nat) := schedEntry t k
  u16At t 0 = 1 ∧ version = u16At t 0 ∧ 1 ≤ n ∧ n ≤ 1365 ∧ length = 16 + 48 * n ∧ 1 ≤ (u32At t 4).toNat
  ∧ (byteAt t 8).toNat ≤ 1 ∧ (∀ k, k < 7 → byteAt t (9 + k) = 0)
  ∧ (∀ k, k < n → (e k).offset < (u32At t 4).toNat ∧ (e k).layer.toNat ≤ 7 ∧ (e k).reserved = false)
  ∧ ∀ j k, j < k → k < n → (e j).offset ≤ (e k).offset ∧ ¬((e j).offset = (e k).offset ∧ (e j).layer = (e k).layer)

/-- What the verification of the table of a pack pair but the colour tables answers (R28, R102, R121, R133, R137, R217): the
first code of Table 2-4 for a mesh; TABLE_CRC, then TABLE or SCHEDULE for the others; 0 for a table that holds. -/
def VerifiedAs (s : State) (p : Fin 8) (code : Byte) : Prop :=
  let i := (s.bank p).inactive
  let e := s.governing p
  let base := (bankWindow p i).1
  let t := s.fmRead base e.length.toNat
  let unreadable := s.badIn base e.length.toNat = true
  let broken := unreadable ∨ crc32cOf t ≠ e.crc
  let plain (holds : Prop) (own : Byte) := (broken → code = 0x39) ∧ (¬broken → ¬holds → code = own) ∧ (¬broken → holds → code = 0)
  let n : Fin 2 := if p = 3 then 1 else 0
  (p = 2 ∨ p = 3 → (∀ k, k < 7 → MeshFault t e unreadable (s.link n) k → (∀ j, j < k → ¬MeshFault t e unreadable (s.link n) j) →
      code = BitVec.ofNat 8 (0x10 + k))
    ∧ ((∀ k, k < 7 → ¬MeshFault t e unreadable (s.link n) k) → code = 0))
  ∧ (p = 5 → plain (StampTableHolds t e.version) 0x3A)
  ∧ (p = 6 → plain (ZoneSetHolds t e.version e.length.toNat fun k => (s.link k).kind) 0x3A)
  ∧ (p = 7 → plain (ScheduleHolds t e.version e.length.toNat) 0x3F)

/-! ### the words of a calibration build (R199) -/

/-- The map code of the word `k`, as the build took it. -/
def CalBuild.codeOf (b : CalBuild) (k : Nat) : Nat := ((b.codes.find? fun c => c.1 == k).map Prod.snd).getD 0

/-- The factory word `k`: 0x8000 for every pixel where the calibration set does not fit the tile (R198, Table 18-9). -/
def CalBuild.factoryWord (b : CalBuild) (s : State) (n : Fin 2) (k : Nat) : Nat :=
  if b.calset then le (s.flashRead (0xA01000 + 0x200000 * n.val + 2 * k) 2) else 0x8000

/-- The row of Table 9-3 that a pixel matches first, with `dead` dead neighbours. -/
def calRow (dimRetire code factory dead : Nat) : Nat :=
  if code = 3 ∨ factory = 5 then 1
  else if code = 2 ∨ factory = 4 then 2
  else if code = 1 ∨ factory = 3 then 3
  else if code ∈ [4, 5, 6, 7] ∨ factory = 6 then 4
  else if 8 ≤ code ∧ 68 + 8 * (code - 8) < dimRetire then 5
  else if 8 ≤ code then 6
  else if 1 ≤ dead then 7
  else 8

/-- N of R199: the neighbours within the grid that rows 2 to 5 force to zero. -/
def CalBuild.deadAround (b : CalBuild) (s : State) (n : Fin 2) (x y e : Nat) : Nat :=
  let kind := (s.link n).kind
  let dead (x y : Nat) : Bool :=
    let k := wordIndex kind x y e
    (calRow b.dimRetire (b.codeOf k) (b.factoryWord s n k % 16) 0) ∈ [2, 3, 4, 5]
  (decide (0 < x) && dead (x - 1) y).toNat + (decide (x + 1 < gridX kind) && dead (x + 1) y).toNat
    + (decide (0 < y) && dead x (y - 1)).toNat + (decide (y + 1 < gridY kind) && dead x (y + 1)).toNat

/-- The calibration word that Table 9-3 gives a pixel of base gain `gain`. -/
def CalWordHolds (dimRetire share code factory gain dead word : Nat) : Prop :=
  let row := calRow dimRetire code factory dead
  let boosted (g : Nat) : Nat := if dead = 0 then g else (g * (256 + dead * share) + 128) / 256
  let e := 68 + 8 * (code - 8)
  (row = 1 → word = 5) ∧ (row = 2 → word = 4) ∧ (row = 3 → word = 3) ∧ (row = 4 ∨ row = 5 → word = 6)
  ∧ (row = 6 → word = 16 * min (boosted ((gain * 128 + e / 2) / e)) 4095 + 2)
  ∧ (row = 7 → word = 16 * min (boosted gain) 4095 + 1)
  ∧ (row = 8 → word = 16 * min gain 4095)

/-! ### window comparators (R342) -/

/-- The comparator watches regular channel `n`, or injected slot `n` with SOURCE 1. -/
def Wcmp.watched (w : Wcmp) (injected : Bool) (n : Nat) : Prop :=
  w.cfg.getLsbD 31 = true ∧ w.cfg.getLsbD 30 = injected ∧ n = if injected then fld w.cfg 24 2 else fld w.cfg 16 5

/-- `v` is the comparator `w` after a result: RUN counts the violations in a row, ALARM sets at COUNT of them and clears at the
first result that is none. -/
def WindowTakes (w v : Wcmp) (code : Nat) : Prop :=
  let outside := code < fld w.limits 0 12 ∨ fld w.limits 16 12 < code
  let violates := if w.cfg.getLsbD 29 then ¬outside else outside
  v.cfg = w.cfg ∧ v.limits = w.limits
  ∧ (¬violates → v.run = 0 ∧ v.alarm = false ∧ v.alarmSeen = w.alarmSeen ∧ v.alarmCount = w.alarmCount)
  ∧ (violates → v.run.toNat = min 255 (w.run.toNat + 1)
    ∧ (w.alarm = true ∨ v.run.toNat < fld w.cfg 8 8 →
        v.alarm = w.alarm ∧ v.alarmSeen = w.alarmSeen ∧ v.alarmCount = w.alarmCount)
    ∧ (w.alarm = false → fld w.cfg 8 8 ≤ v.run.toNat →
        v.alarm = true ∧ v.alarmSeen = true ∧ v.alarmCount = satInc w.alarmCount))

/-- A setting of ALARM is reported as REACT says: 1 with class 0, 2 with class 1. -/
def AlarmTold (w v : Wcmp) (t : State) : Prop :=
  v.alarm = true → w.alarm = false → ∀ cls : Nat, fld w.cfg 0 2 = cls + 1 → cls < 2 →
    ∃ x ∈ t.faults.pending, x.unit = 0x60 ∧ (0x60, 0x23, 0xFF, cls) ∈ x.causes

/-- A frame slot that finds nothing late, missing, uncorrectable or in error. -/
def clearSlot : SlotObs := ⟨0, 0, 0, [], [], [], [], []⟩

/-- The grid runs and bands are rendered, no command and no ECHO waits for a frame slot, and every word of field memory is
correct. -/
def State.rendersClear (s : State) : Prop :=
  s.frame.running = true ∧ s.frame.fresh = false ∧ s.frame.rendering = true ∧ s.safety.parkDue = false
  ∧ s.tsens.resumeDue = false ∧ (∀ n, (s.link n).resumeAt = none ∧ (s.link n).echo = none ∧ (s.link n).runDue = false)
  ∧ s.mem.bad = [] ∧ ∀ k, (s.layer k).paletteBad = false

/-- The state as the band gate samples it at the edge of frame slot `j` (R107, R143). -/
def State.gated (s : State) (j : Fin 68) : State :=
  let t := s.at_ (s.slotEdge j.val)
  gateSample { t with frame := { t.frame with slot := j.val } }

/-- The date of a command that the spec dates; none where its condition does not hold, or where the command has no date. -/
def State.dateOf (s : State) : Instr → Option Nat
  | .boxExpiry id => s.boxDue id
  | .quickChannelStale => s.quickStaleDue
  | .trainingRetry n => s.retryDue n
  | .svarnELinkLoss n lockLost => s.lossDue n lockLost
  | .echoDeadline n => s.echoDue n
  | .fsyncLoss => s.fsyncLossDue
  | .timeBaseUnlockTimeout => s.unlockTimeoutDue
  | .grandmasterSyncSend => s.syncDue
  | .segTimeout c => s.segDue c
  | .busyResponse c => s.busyDue c
  | .twinWindowExpiry => s.windowDue
  | .twinTimeout => s.twinTimeoutDue
  | .unlockIdleExpiry => s.idleDue
  | .lockoutEnd => s.lockoutDue
  | .commitCheckEnd layer => s.checkDue layer
  | .tsensNoConversion => s.noConversionDue
  | .thermalRestart => s.restartDue
  | .longDip supply => s.longDipDue supply
  | _ => none

/-- No ticket closes up to the date of a command (R11). -/
def State.inTicket (s : State) (c : Instr) : Prop := ∀ d, s.dateOf c = some d → s.reachesClose d = false

/-- Every lane that lighting asks for is back at once: no link is down for L2, and none trains on its way out of it (R182, R183). -/
def State.lanesNear (s : State) : Prop :=
  ∀ n : Fin 2, (s.link n).state ≠ .down ∧ ¬((s.link n).state = .training ∧ (s.link n).leavesL2 = true)

/-- A ticket close that the clock has carried out, and that its command will only tick off (the model's choice, log entry 6). -/
def State.closeTaken (s : State) : State := { s with frame := { s.frame with closesTaken := s.frame.closesTaken + 1 } }

/-- The objects whose entries hold a CRC-32C over all bytes before it (R259, R281, R350). -/
def ringEntries : List (Nat × Nat) := [(0x6030, 3), (0x6820, 3), (0x7C20, 5)]

/-- What a read tells of the bytes it reads, and nothing else: a ring entry whose CRC-32C fails (R259, R281, R350), and a fault
record whose CRC-16 fails (R265, R269), each with a class 1 report; a FAULT_SEL without a record reads as zeros. -/
def State.told (s : State) (index sub : Nat) (v : List Byte) : State :=
  if (index, sub) ∈ ringEntries ∧ 4 ≤ v.length ∧ u32At v (v.length - 4) ≠ crc32cOf (v.take (v.length - 4)) then
    report1 0x21 0x1A 0xFF s
  else if (index, sub) = (0x6800, 4) ∧ v ≠ zeros 16 ∧ u16At v 14 ≠ crc16Of (v.take 14) then report1 0x02 0x23 0xFF s
  else s

/-- The source that the band gate of the next render takes (R16, R63). -/
def State.gateSource (s : State) : Source := s.safety.muxNext.getD s.safety.mux

end Sys2Proof.Machine
end

