-- ==== Sys2Proof/Certificates/Slice0/Obligations.lean ====
section
/-!
DEFINITION. Certificates/Slice0/Obligations.lean: the statements about the model, family by family of the command table. A
statement about a command says where it completes, what state it then leaves, and so what it leaves alone: an equation of
whole states, replies and queued events apart (`State.quiet`), is result and frame at once.
-/
open Sys2Proof Sys2Proof.Machine

/-! ### the machine -/

/-- A step takes the command at the front of the queue and runs it on the state with the queue's rest; on an empty queue the
block idles for one CORE cycle (the model's choice, log entry 2): the clock counts, and only where a ticket closes on that
cycle does it close then (R11, R146; that its own command then only ticks it off is the model's choice, log entry 6). -/
def Obligations.StepRunsFront : Prop :=
  (∀ (c : Instr) (rest : List Instr) (s : State), s.pending = c :: rest → step s = exec c { s with pending := rest })
  ∧ (∀ s : State, s.pending = [] → s.reachesClose (s.clock + 1) = false →
      step s = .next (s.at_ (s.clock + 1)) ∧ (s.at_ (s.clock + 1)).clock = s.clock + 1
      ∧ (s.at_ (s.clock + 1)).quiet = { s with clock := s.clock + 1, frame := (s.at_ (s.clock + 1)).frame }.quiet)
  ∧ (∀ s u : State, s.pending = [] → s.reachesClose (s.clock + 1) = true → s.frame.closesTaken = 0 →
      exec .ticketClose s = .next u → step s = .next (u.closeTaken.at_ (s.clock + 1)))

/-- No command touches the queue of waiting commands, and none stops the block: each answers a next state. That one whose
condition does not hold answers a next state too, and only leaves things as they are, is the model's choice (log entry 6). -/
def Obligations.QueueUntouched : Prop :=
  ∀ (c : Instr) (s : State), ∃ t, exec c s = .next t ∧ t.pending = s.pending

/-- Field memory and flash keep their canonical form through every step (the form is the model's own, log entry 42). -/
def Obligations.StepKeepsMemoryCanonical : Prop :=
  ∀ s t : State, s.mem.wf = true → step s = .next t → t.mem.wf = true

/-- R118: each bank of a pair is in one of the states of Table 6-3 (its type), at most one bank of a pair is ACTIVE, through every
step, and after reset both banks of every pair are EMPTY and no pair has an active bank. -/
def Obligations.StepKeepsOneActiveBank : Prop :=
  (∀ p : Fin 8, (State.reset.bank p).bank0 = .empty ∧ (State.reset.bank p).bank1 = .empty
    ∧ (State.reset.bank p).activeBank = none)
  ∧ ∀ s t : State, (∀ p : Fin 8, ¬((s.bank p).bank0 = .active ∧ (s.bank p).bank1 = .active)) → step s = .next t →
    ∀ p : Fin 8, ¬((t.bank p).bank0 = .active ∧ (t.bank p).bank1 = .active)

/-- The fell latch of a class 4 reaction (R279): no command clears it but PORST_N, a reset of the supplies, and power OFF; and
while it holds, the lamp is in LIMP in every state in which the block runs, through every step. -/
def Obligations.FellLatchHolds : Prop :=
  (∀ (c : Instr) (s t : State), s.aon.fell = true → exec c s = .next t → s.safety.power ≠ .off → t.safety.power ≠ .off →
    ((∀ n, 1000 ≤ n → c ≠ .porstNAssert n) ∧ ∀ env, c ≠ .porstNRelease env ∧ c ≠ .supplyReset env) → t.aon.fell = true)
  ∧ (∀ s t : State,
    let limp (s : State) := s.aon.fell = true → s.aon.held = true ∨ s.safety.power ∈ [.deep, .dew, .off] ∨ s.safety.lamp = .limp
    limp s → step s = .next t → limp t)

/-- What reset leaves (R118, R376): every bank EMPTY, no layer with a buffer, no lease, the two memories
canonical. That the block is then held in reset with an empty queue is the model's choice (log entries 4 and 5). -/
def Obligations.ResetState : Prop :=
  (∀ p : Fin 8, (State.reset.bank p).bank0 = .empty ∧ (State.reset.bank p).bank1 = .empty
    ∧ (State.reset.bank p).pending = false)
  ∧ (∀ n : Fin 8, (State.reset.layer n).hasBuffer = false ∧ (State.reset.layer n).lease = none
    ∧ State.reset.commitStatus n = 0)
  ∧ State.reset.pending = [] ∧ State.reset.mem.wf = true ∧ State.reset.packStatus = 0x00FF0000
  ∧ State.reset.safety.lamp = .start ∧ State.reset.frame.frameDiv = 40 ∧ State.reset.faults.queue = []

/-- A write of field memory (R273): the bytes written read as written, every other byte reads as before; a word written whole
is correctable afterwards, and no other word changes. The canonical form is the model's (log entry 42). -/
def Obligations.FieldMemoryWrite : Prop :=
  ∀ (a : Nat) (b : List Byte) (s : State), s.mem.wf = true →
    (∀ k (h : k < b.length), (fmStore a b s).fm (a + k) = b[k])
    ∧ (∀ x, x < a ∨ a + b.length ≤ x → (fmStore a b s).fm x = s.fm x)
    ∧ (∀ w, w ∈ (fmStore a b s).mem.bad ↔ w ∈ s.mem.bad ∧ ¬(a ≤ w * 32 ∧ (w + 1) * 32 ≤ a + b.length))
    ∧ (fmStore a b s).mem.wf = true ∧ (fmStore a b s).mem.flash = s.mem.flash

/-! ### object access (chapters 13 and 14) -/

/-- READ (R288, R291): the value as the object reads with the frame counted, or the code of the first failing check. The read
changes nothing, but it reports an entry of the change log, the fault history or the trip records whose CRC-32C fails (R259,
R281, R350), and a fault record whose CRC-16 fails (R269). -/
def Obligations.ReadAnswered : Prop :=
  ∀ (r : Requester) (d : Pdu) (s : State) (q : Request), q = { r := r, cmd := 1, d := d } → s.accepts q = true →
    let v := (s.noted q).objectValue r.carrier d.index.toNat d.sub.toNat
    (rowOf d.index.toNat = none → Refuses (.read r d) q .noObject s)
    ∧ (rowOf d.index.toNat ≠ none → objOf d.index.toNat d.sub.toNat = none → Refuses (.read r d) q .noSubindex s)
    ∧ (objOf d.index.toNat d.sub.toNat ≠ none → maxData r.carrier < v.length →
        Refuses (.read r d) q (.length (maxData r.carrier)) s)
    ∧ (objOf d.index.toNat d.sub.toNat ≠ none → v.length ≤ maxData r.carrier →
        Completes (.read r d) s fun t =>
          (t.port r.carrier).last = some (responseTo q 0x81 v)
          ∧ t.quiet = (s.told d.index.toNat d.sub.toNat v).quiet)

/-- READ_INIT and the SEGMENTs of a read (R292): the value is taken once, handed out in carrier-sized pieces with SEG from 1,
and the transfer ends with the last piece. A request of the owner leaves its TID with the transfer (R293).
ABORT of the owner and SEG_TIMEOUT end a transfer (R293): the first without a reply, the second with SEG_TIMEOUT to the
owner under the TID of its last request. READ_INIT reports a damaged entry as READ does (R259, R281, R350, R269). -/
def Obligations.ReadTransfersAndEnds : Prop :=
  (∀ (r : Requester) (d : Pdu) (s : State) (q : Request), q = { r := r, cmd := 3, d := d } → s.accepts q = true →
    objOf d.index.toNat d.sub.toNat ≠ none → (s.port r.carrier).foreignTransfer r.src = false →
    let v := (s.noted q).objectValue r.carrier d.index.toNat d.sub.toNat
    let x : Transfer :=
      { owner := r.src, tid := r.tid, isWrite := false, index := d.index, sub := d.sub, total := v.length, bytes := v
        nextSeg := 1, lastAt := s.clock, envelope := r.envelope }
    Completes (.readInit r d) s fun t =>
      (t.port r.carrier).last = some (responseTo q 0x83 (leBytes 4 v.length))
      ∧ t.quiet = ((s.told d.index.toNat d.sub.toNat v).modPort r.carrier fun p => { p with transfer := some x }).quiet)
  ∧ (∀ (r : Requester) (d : Pdu) (s : State) (q : Request), q = { r := r, cmd := 3, d := d } → s.accepts q = true →
    (rowOf d.index.toNat = none → Refuses (.readInit r d) q .noObject s)
    ∧ (rowOf d.index.toNat ≠ none → objOf d.index.toNat d.sub.toNat = none → Refuses (.readInit r d) q .noSubindex s)
    ∧ (objOf d.index.toNat d.sub.toNat ≠ none → (s.port r.carrier).foreignTransfer r.src = true →
        Refuses (.readInit r d) q .stateConflict s))
  ∧ (∀ (r : Requester) (d : Pdu) (s : State) (q : Request) (x : Transfer), q = { r := r, cmd := 5, d := d } →
    s.accepts q = true → objOf d.index.toNat d.sub.toNat ≠ none → (s.port r.carrier).transfer = some x → x.owner = r.src →
    x.isWrite = false → d.data = [] → d.seg = x.nextSeg →
    let piece := x.bytes.take (maxData r.carrier)
    let rest := x.bytes.drop (maxData r.carrier)
    Completes (.segment r d) s fun t =>
      (t.port r.carrier).last = some (responseTo q (if rest = [] then 0x86 else 0x85) piece)
      ∧ t.quiet = (s.modPort r.carrier fun p => { p with
          transfer := if rest = [] then none
            else some { x with bytes := rest, nextSeg := x.nextSeg + 1, lastAt := s.clock, tid := r.tid } }).quiet)
  ∧ (∀ (r : Requester) (d : Pdu) (s : State) (q : Request) (x : Transfer), q = { r := r, cmd := 7, d := d } →
    s.accepts q = true → (s.port r.carrier).transfer = some x → x.owner = r.src →
    Completes (.abort r d) s fun t => (t.port r.carrier).last = (s.port r.carrier).last
      ∧ t.quiet = (s.modPort r.carrier fun p => { p with transfer := none }).quiet)
  ∧ (∀ (c : Carrier) (s : State) (x : Transfer), s.netRuns = true → (s.port c).longService = none →
    (s.port c).transfer = some x → s.inTicket (.segTimeout c) →
    Completes (.segTimeout c) s fun t =>
      (t.port c).last = some
        { cmd := 0xFF
          tid := x.tid
          index := x.index, sub := x.sub, seg := x.nextSeg - 1, data := abortData .segTimeout, dest := x.owner
          envelope := x.envelope }
      ∧ t.quiet = ((s.at_ (x.lastAt + cyclesMs s.net.segTimeout.toNat)).modPort c fun p =>
          { p with transfer := none }).quiet)

/-- WRITE_INIT and the SEGMENTs of a write (R292, R293): WRITE_INIT is checked as a write of its size, each SEGMENT is staged,
SEGMENT_LAST writes the object with the bytes of all of them; a SEG out of order and a wrong total end the transfer with their
codes, and a segment without a transfer of the requester is refused. A segment's own INDEX and SUB must be served (Table 13-6). The
object that SEGMENT_LAST writes here is BANK_ENTRY of a pair, which holds at most 32 bytes. That a segment without an open
transfer is STATE_CONFLICT is the model's choice (log entry 90). -/
def Obligations.SegmentedWrite : Prop :=
  (∀ (r : Requester) (d : Pdu) (s : State) (q : Request), q = { r := r, cmd := 4, d := d } → s.accepts q = true →
    let row := rowOf d.index.toNat
    let obj := objOf d.index.toNat d.sub.toNat
    let x : Transfer :=
      { owner := r.src, tid := r.tid, isWrite := true, index := d.index, sub := d.sub, total := le d.data, bytes := []
        nextSeg := 1, lastAt := s.clock, envelope := r.envelope }
    let opened (t : State) := (t.port r.carrier).last = some (responseTo q 0x84 [])
      ∧ t.quiet = (s.modPort r.carrier fun p => { p with transfer := some x }).quiet
    (row = none → Refuses (.writeInit r d) q .noObject s)
    ∧ (row ≠ none → obj = none → Refuses (.writeInit r d) q .noSubindex s)
    ∧ (∀ o, obj = some o → o.acc = .ro → Refuses (.writeInit r d) q .readOnly s)
    ∧ (∀ o, obj = some o → o.acc ≠ .ro → o.ty.isDomain = false → le d.data ≠ o.ty.size →
        Refuses (.writeInit r d) q (.length o.ty.size) s)
    ∧ (∀ o, obj = some o → o.acc ≠ .ro → o.ty.isDomain = false → le d.data = o.ty.size → o.acc = .rwl →
        s.safety.lamp ≠ .parked → Refuses (.writeInit r d) q .stateConflict s)
    ∧ (s.writeCheck d.index.toNat d.sub.toNat (le d.data) = none → s.initAccess q (le d.data) = none →
        Completes (.writeInit r d) s opened)
    ∧ (∀ p : Fin 8, d.index = w16 (0x3810 + p.val) → d.sub = 3 →
        (32 < le d.data → Refuses (.writeInit r d) q (.length 32) s)
        ∧ (le d.data ≤ 32 → (s.port r.carrier).transfer.all (fun y => y.owner == r.src) = false →
            Refuses (.writeInit r d) q .stateConflict s)
        ∧ (le d.data ≤ 32 → (s.port r.carrier).transfer.all (fun y => y.owner == r.src) = true →
            Completes (.writeInit r d) s opened)))
  ∧ (∀ (r : Requester) (d : Pdu) (s : State) (q : Request) (c : Instr),
    (c, q.cmd) ∈ [(Instr.segment r d, (5 : Byte)), (.segmentLast r d, 6)] → q = { r := r, cmd := q.cmd, d := d } →
    s.accepts q = true →
    let served := objOf d.index.toNat d.sub.toNat ≠ none
    let reading := ∃ x, (s.port r.carrier).transfer = some x ∧ x.owner = r.src ∧ x.isWrite = false
    (¬reading → rowOf d.index.toNat = none → Refuses c q .noObject s)
    ∧ (¬reading → rowOf d.index.toNat ≠ none → ¬served → Refuses c q .noSubindex s)
    ∧ (reading → q.cmd = 6 ∨ d.data ≠ [] → Refuses c q .protocol s)
    ∧ (served → (s.port r.carrier).transfer = none → Refuses c q .stateConflict s)
    ∧ (served → ∀ x : Transfer, (s.port r.carrier).transfer = some x → x.owner ≠ r.src → Refuses c q .stateConflict s)
    ∧ (served → ∀ x : Transfer, (s.port r.carrier).transfer = some x → x.owner = r.src → x.isWrite = true → d.seg ≠ x.nextSeg →
        Completes c s fun t => t.aborted q (.segSequence x.nextSeg)
          ∧ t.quiet = (s.modPort r.carrier fun p => { p with transfer := none }).quiet))
  ∧ (∀ (r : Requester) (d : Pdu) (s : State) (q : Request) (x : Transfer), q = { r := r, cmd := 5, d := d } →
    s.accepts q = true → objOf d.index.toNat d.sub.toNat ≠ none → (s.port r.carrier).transfer = some x → x.owner = r.src →
    x.isWrite = true → d.seg = x.nextSeg → Completes (.segment r d) s fun t =>
      (t.port r.carrier).last = some (responseTo q 0x85 [])
      ∧ t.quiet = (s.modPort r.carrier fun p => { p with
          transfer := some { x with
            bytes := x.bytes ++ d.data, nextSeg := x.nextSeg + 1, lastAt := s.clock, tid := r.tid } }).quiet)
  ∧ (∀ (r : Requester) (d : Pdu) (s : State) (q : Request) (x : Transfer), q = { r := r, cmd := 6, d := d } →
    s.accepts q = true → objOf d.index.toNat d.sub.toNat ≠ none → (s.port r.carrier).transfer = some x → x.owner = r.src →
    x.isWrite = true → d.seg = x.nextSeg →
    let all := x.bytes ++ d.data
    (all.length ≠ x.total → Completes (.segmentLast r d) s fun t => t.aborted q (.segSize all.length)
      ∧ t.quiet = (s.modPort r.carrier fun p => { p with transfer := none }).quiet)
    ∧ (all.length = x.total → ∀ p : Fin 8, x.index = w16 (0x3810 + p.val) → x.sub = 3 →
      all.length ≤ 32 → Completes (.segmentLast r d) s fun t =>
      (t.port r.carrier).last = some (responseTo q 0x86 [])
      ∧ t.quiet = ((s.modPort r.carrier fun p => { p with transfer := none }).modBank p fun b =>
          { b with entry := all }).quiet))

/-- A write of an object without an action of its own (R291, R9, R303), FRAME_DIV among them, as WRITE and as REGISTER_WRITE. An
RWL object is refused outside PARKED; a value out of range is refused; otherwise the object takes the value, and nothing else
changes. An index and a subindex that are not served, a read-only object and a wrong length are refused before the state is
looked at. -/
def Obligations.ParameterWrites : Prop :=
  ∀ (r : Requester) (d : Pdu) (s : State) (q : Request), q = { r := r, cmd := 2, d := d } → s.accepts q = true →
    ∀ c ∈ [Instr.write r d, Instr.registerWrite r d],
    (rowOf d.index.toNat = none → Refuses c q .noObject s)
    ∧ (rowOf d.index.toNat ≠ none → objOf d.index.toNat d.sub.toNat = none → Refuses c q .noSubindex s)
    ∧ (∀ o, objOf d.index.toNat d.sub.toNat = some o → o.acc = .ro → Refuses c q .readOnly s)
    ∧ (∀ o, objOf d.index.toNat d.sub.toNat = some o → o.acc ≠ .ro → o.ty.isDomain = false → d.data.length ≠ o.ty.size →
        Refuses c q (.length o.ty.size) s)
    ∧ (∀ x ∈ plainObjects, ∀ v, d.index = x.index → d.sub = x.sub → d.data = leBytes x.size v → v < 2 ^ (8 * x.size) →
        let locked := (objOf x.index.toNat x.sub.toNat).any (fun o => o.acc == .rwl) = true ∧ s.safety.lamp ≠ .parked
        (locked → Refuses c q .stateConflict s)
        ∧ (¬locked → v < x.lo ∨ x.hi < v → Refuses c q .valueRange s)
        ∧ (¬locked → x.lo ≤ v → v ≤ x.hi → Writes c q s (x.set v s)))

/-- A write of any RWP object (R255, R258, R308): refused without the unlock of its carrier and node in PARKED, and where its
value is out of range; with them the object takes the value, the value is persisted, the change log gets an entry of Table
11-10 with the value as read before and the new one, and UNLOCK_IDLE starts again. Where Cairn fails the write is refused, the
object is unchanged, and unit 0x21 is reported. PW_NEW, the remaining object of this access code, is in PasswordUnlock. -/
def Obligations.ProtectedWrite : Prop :=
  ∀ (r : Requester) (d : Pdu) (s : State) (q : Request), q = { r := r, cmd := 2, d := d } → s.accepts q = true →
    ∀ x ∈ protectedObjects, ∀ v, d.index = x.index → d.sub = x.sub → d.data = leBytes x.size v → v < 2 ^ (8 * x.size) →
    ∀ c ∈ [Instr.write r d, Instr.registerWrite r d],
    let allowed := s.safety.lamp = .parked ∧ s.access.holder = some (r.carrier, r.src)
    let u := x.set v s
    (¬allowed → Refuses c q .accessDenied s)
    ∧ (allowed → x.takes v s = false → Refuses c q .valueRange s)
    ∧ (allowed → x.takes v s = true → s.cairn.failing = true →
      Completes c s fun t => t.aborted q .accessDenied
        ∧ t.quiet = (report1 0x21 0x1A 0xFF { s with cairn := { s.cairn with
            writeFailed := true, writeErr := satInc s.cairn.writeErr } }).quiet)
    ∧ (allowed → x.takes v s = true → s.cairn.failing = false →
      Completes c s fun t => t.wroteDone q ∧
        let head := bytes32 s.access.logCount ++ bytes64 s.logTime ++ bytes16 x.index ++ [x.sub, 1, carrierCode r.carrier, 0]
          ++ leBytes 2 r.src.toNat ++ bytes32 (w32 (le (s.objectValue r.carrier x.index.toNat x.sub.toNat))) ++ leBytes 4 v
        t.quiet = { u with
          access := { u.access with
            log := ((head ++ bytes32 (crc32cOf head)) :: s.access.log).take 4096
            logCount := s.access.logCount + 1, lastEffective := s.clock }
          cairn := { u.cairn.keeps x d.data with writeFailed := false, wroteAt := some s.clock } }.quiet)

/-- Requests that are not executed, for every command code. One on a network carrier that is not for this node changes the frame
count alone (R283); a frame that holds no request is ignored or counted (R285, R286); a broadcast that is no WRITE is dropped and
counted, noted as its node's previous request (R290), and so is one of a WRITE to an RWP object or of a long operation; no
broadcast is answered (R284).
While a port runs a long operation it executes nothing: a request is answered BUSY with the remaining time of the operation,
at least every 100 ms the operation's own requester is told again, a broadcast is counted, and an ABORT is ignored (R284, R294).
A request that repeats its node's previous one within 100 ms is answered with the stored response and not executed again
(R290), a broadcast that does is counted as not executed, and SEG_TIMEOUT runs from a repeated segment (R293). That a BUSY answer
is no last response is the model's reading (log entry 89). -/
def Obligations.RequestsNotExecuted : Prop :=
  (∀ (r : Requester) (d : Pdu) (s : State) (q : Request) (c : Instr),
    (c, q.cmd) ∈ requestCommands r d → q = { r := r, cmd := q.cmd, d := d } →
    s.delivers q = true → s.macAccepts q = true →
    let own := r.dest = s.node
    let ready := r.dest ≠ 0 ∧ own ∧ q.use = .request
    (r.dest ≠ 0 → ¬own → exec c s = .next (countRx r.carrier s))
    ∧ (r.dest = 0 ∨ own → q.use = .ignored → exec c s = .next (countRx r.carrier s))
    ∧ (r.dest = 0 ∨ own → q.use = .counted → exec c s = .next (dropFrame r.carrier (countRx r.carrier s)))
    ∧ (r.dest = 0 → q.use = .request → (s.port r.carrier).longService.isSome = true →
        exec c s = .next (dropFrame r.carrier (countRx r.carrier s)))
    ∧ (r.dest = 0 → q.use = .request → (s.port r.carrier).longService = none →
        q.cmd ≠ 2 ∨ (objOf d.index.toNat d.sub.toNat).any (fun o => o.acc == .rwp) = true
          ∨ (d.index = 0x8800 ∧ d.sub = 1 ∧ d.data = [1]) →
        exec c s = .next (dropFrame r.carrier (noteRequest q (countRx r.carrier s))))
    ∧ (r.dest = 0 → q.use = .request → (s.port r.carrier).longService = none → q.broadcastRuns = true → s.repeats q = true →
        exec c s = .next (dropFrame r.carrier (countRx r.carrier s)))
    ∧ (r.dest = 0 → d.index = 0x4000 → d.sub = 1 → q.cmd = 2 → q.use = .request → (s.port r.carrier).service = none →
        s.repeats q = false → s.safety.power = .run → s.net.romOnly = false → s.safety.lamp = .parked → d.reservedSet = false →
        ∀ v : Byte, d.data = [v] → d.length = 1 → 24 ≤ v → v ≤ 80 →
        Completes c s fun t => (t.port r.carrier).last = (s.port r.carrier).last
          ∧ (t.port r.carrier).answered = (noteRequest q s |>.port r.carrier).answered
          ∧ t.frame = { s.frame with frameDiv := v, divWrites := s.frame.divWrites ++ [v] })
    ∧ (ready → ∀ (v : Service) (op : LongOp), (s.port r.carrier).service = some v → v.awaits = .long op →
        (q.cmd ≠ 7 → Completes c s fun t =>
          (t.port r.carrier).last = some (responseTo q 0xFE (s.busyData v op)) ∧ t.quiet = s.quiet)
        ∧ (q.cmd = 7 → Completes c s fun t =>
          (t.port r.carrier).last = (s.port r.carrier).last ∧ t.quiet = s.quiet))
    ∧ (ready → s.safety.power ≠ .sleep → (s.port r.carrier).longService = none →
        ∀ (a : Answered) (x : Response) (l : List Answered), (s.port r.carrier).answered = a :: l → a.isOf q = true →
        s.clock ≤ a.arrived + cyclesMs 100 → a.response = some x →
        Completes c s fun t => (t.port r.carrier).last = some x
          ∧ t.quiet = (s.modPort r.carrier fun p => { p with transfer := p.transfer.map fun y =>
              if (q.cmd = 5 ∨ q.cmd = 6) ∧ y.owner = r.src then { y with lastAt := s.clock } else y }).quiet))
  ∧ (∀ (c : Carrier) (s : State) (v : Service) (op : LongOp), (s.port c).service = some v → v.awaits = .long op →
    v.q.r.carrier = c → v.q.r.dest ≠ 0 → s.inTicket (.busyResponse c) →
    let k := (s.clock - v.startedAt) / cyclesMs 100 + 1
    let s1 := s.at_ (v.startedAt + cyclesMs 100 * k)
    Completes (.busyResponse c) s fun t =>
      (t.port c).last = some (responseTo v.q 0xFE (s1.busyData v op)) ∧ t.quiet = s1.quiet)

/-- EVENT_TELEGRAM sends the oldest queued event telegram of a network carrier as a frame of FUNC EVENT to DEST 0, 20 bytes of
payload with the code and the sequence number in front (R298); EVENT_TRANSMIT the next packet of Svarn-H: a reply before an
event, an event before READBACK data (R170).
The network controllers: bus-off is counted, shown and reported with unit 0x50; the loss of an active PLCA clears its status
bit and is reported with unit 0x51 (0x1010, 0x1020, Table 14-4). That each of the two commands is one episode, and the cause
0x20 of the two units, are the model's choice (log entry 97).
Every packet sent has the header of Table 8-4 with its payload's length, filled with zero bytes to a multiple of 4, and the
CRC-32C over both (R162).
An OBJ packet of Svarn-H carries a request of that carrier (R169, R286): after the envelope with the object-access type,
destination, source and length comes the PDU, zero bytes filling up to a multiple of 4; it has the effect of the row of its
CMD. A READ of one is answered; a packet that does not arrive whole is counted and has no other effect (R163). -/
def Obligations.EventsAndTunnel : Prop :=
  (∀ (c : Carrier) (s : State) (e : Event) (l : List Event), c ≠ .svh → s.netRuns = true → s.net.served = true →
    (s.port c).events = e :: l →
    let telegram := [e.code, 0] ++ bytes16 e.seq ++ e.body
    let frame (c : Carrier) := match c with
      | .t1s => Wire.t1s 0xFFFFFFFFFFFF none (padTo 46 ([1, 4, 0, 0] ++ leBytes 2 s.node.toNat ++ [20, 0] ++ telegram))
      | _ => Wire.can (BitVec.ofNat 29 (4 * 2 ^ 25 + s.node.toNat)) telegram
    Completes (.eventTelegram c) s fun t =>
      t.quiet = (s.modPort c fun p => { p with sentEvent := some e }).quiet ∧ (t.port c).events = l ∧ (t.port c).txOk = satInc (s.port c).txOk
      ∧ (e.body.length = 16 → (t.port c).wire = some (frame c)))
  ∧ (∀ (s : State), s.svh.linkUp = true → s.svhLooped = false → s.svh.txPs ≠ 2 →
    (∀ x l, s.svh.replies = x :: l →
      exec .eventTransmit s = .next { s with svh := { s.svh with replies := l, sent := some (.reply x), txPs := 0 } })
    ∧ (∀ e l, s.svh.replies = [] → s.svh.events = e :: l →
      exec .eventTransmit s = .next { s with svh := { s.svh with events := l, sent := some (.event e), txPs := 0 } })
    ∧ (∀ b l, s.svh.replies = [] → s.svh.events = [] → s.svh.readbacks = b :: l →
      exec .eventTransmit s = .next { s with svh := { s.svh with readbacks := l, sent := some (.readback b), txPs := 0 } }))
  ∧ (∀ (kind : Byte) (payload : List Byte) (info : U16) (a : U32), payload.length ≤ 0xFFFC →
    let p := sentPacket kind payload info a
    packetWhole p = true ∧ p.kind = kind ∧ p.info = info ∧ p.a = a ∧ p.b = 0 ∧ p.flags = 0 ∧ p.length.toNat = p.payload.length
    ∧ p.payload.length % 4 = 0 ∧ p.payload.length < payload.length + 4 ∧ p.payload.take payload.length = payload
    ∧ p.payload.drop payload.length = List.replicate ((4 - payload.length % 4) % 4) 0)
  ∧ (∀ s : State, s.netRuns = true → s.net.served = true →
    exec .canBusOff s = .next (report1 0x50 0x20 0xFF { s with net := { s.net with
      busOffCount := satInc s.net.busOffCount, canStatus := (s.net.canStatus &&& 0xFFFFFFFC) ||| 2 } })
    ∧ (s.net.plcaEnable = true → exec .plcaActiveLoss s = .next (report1 0x51 0x20 0xFF { s with net := { s.net with
      t1sStatus := s.net.t1sStatus &&& 0xFFFFFFFE } })))
  ∧ (∀ (p : Packet) (r : Requester) (d : Pdu) (pad : List Byte) (s : State) (c : Instr) (cmd : Byte),
    (c, cmd) ∈ requestCommands r d →
    r.carrier = .svh → r.envelope = { mac := 0, tag := none } → d.reservedSet = false → d.head = {} → d.data.length ≤ 1008 →
    pad.length = (4 - d.data.length % 4) % 4 →
    p.payload = [1, 3] ++ leBytes 2 r.dest.toNat ++ leBytes 2 r.src.toNat ++ leBytes 2 (8 + d.data.length)
      ++ [cmd, r.tid] ++ bytes16 d.index ++ [d.sub, d.seg] ++ bytes16 d.length ++ d.data ++ pad →
    p.arrival = .whole → p.kind = 4 → p.flags = 0 → p.seq = 0 → p.info = 0 → p.a = 0 → p.b = 0 → p.gap = [] →
    p.length = w16 (16 + d.data.length + pad.length) → p.crc = packetCheck p →
    s.svhReceives = true →
    exec (.objPacket p) s = exec c s
    ∧ (cmd = 1 → d.index = 0x4000 → d.sub = 1 → s.accepts { r := r, cmd := 1, d := d } = true →
      Completes (.objPacket p) s fun t =>
        (t.port .svh).last = some (responseTo { r := r, cmd := 1, d := d } 0x81 [s.frame.frameDiv]) ∧ t.quiet = s.quiet))
  ∧ (∀ (p : Packet) (s : State), s.svhReceives = true → p.gap = [] → p.kind = 4 →
    (p.arrival = .whole → p.crc ≠ packetCheck p →
      exec (.objPacket p) s = .next { s with svh := { s.svh with crcErr := satInc s.svh.crcErr } })
    ∧ (p.arrival = .badFrame
        ∨ (p.arrival = .whole ∧ p.crc = packetCheck p ∧ (p.payload.length ≠ p.length.toNat ∨ p.payload.length % 4 ≠ 0
            ∨ 1024 < p.payload.length ∨ p.flags ≠ 0 ∨ p.seq ≠ 0 ∨ p.info ≠ 0 ∨ p.a ≠ 0 ∨ p.b ≠ 0)) →
      exec (.objPacket p) s = .next { s with svh := { s.svh with frameErr := satInc s.svh.frameErr } }))

/-! ### layers (chapter 3) -/

/-- A commit that lands (R53): the staging configuration becomes the snapshot under check with the commit's tag and gate, EDITED
clears, and the answer waits for the check. One that meets a check in progress, or a layer owned by a schedule (R139), is
refused. -/
def Obligations.CommitLands : Prop :=
  ∀ (r : Requester) (n : Fin 8) (tag : U16) (kind num : BitVec 4) (s : State),
    let w := commitWord tag.toNat kind.toNat num.toNat 1
    let q := writeOf r (0x2102 + 16 * n.val) 1 4 w
    s.takes r (0x2102 + 16 * n.val) 1 4 w = true →
    (inMask s.sched.owned n = true ∨ (s.layer n).check.isSome = true →
      Refuses (.commit r n tag kind num) q .stateConflict s)
    ∧ (inMask s.sched.owned n = false → (s.layer n).check = none → (s.layer n).groupMask = 0 →
      let snap : Snapshot :=
        { config := (s.layer n).staging, tag := tag, gateKind := kind, gateNum := num, group := 0 }
      let inputs : CheckInputs :=
        { essential := s.essential, ctabValid := s.ctabValid, span0 := s.span? 0, span1 := s.span? 1 }
      let v : Service := { q := q, awaits := .commit n, startedAt := s.clock, boundMs := 0 }
      Completes (.commit r n tag kind num) s fun t =>
        t.quiet = ((s.modLayer n fun l => { l with
          edited := false, check := some { snap := snap, inputs := inputs, due := s.clock + 384 } }).modPort r.carrier
            fun p => { p with service := some v }).quiet)

/-- R54: while the slot of layer n is CHECKING, a commit, a cancel, a discard and a staging write of the layer are refused with
the state-conflict abort code and change nothing; so is a group commit with a member that is CHECKING, and one that names a
layer whose pending snapshot belongs to another group. -/
def Obligations.CheckingRefuses : Prop :=
  ∀ (r : Requester) (n : Fin 8) (s : State),
    let row := 0x2102 + 16 * n.val
    ((s.layer n).check.isSome = true →
      (∀ tag kind num,
        let q := writeOf r row 1 4 (commitWord tag.toNat kind.toNat num.toNat 1)
        s.takes r row 1 4 (commitWord tag.toNat kind.toNat num.toNat 1) = true →
          Refuses (.commit r n tag kind num) q .stateConflict s)
      ∧ (s.accepts (writeOf r row 1 4 (commitWord 0 0 0 2)) = true →
          Refuses (.commitCancel r n) (writeOf r row 1 4 (commitWord 0 0 0 2)) .stateConflict s)
      ∧ (s.accepts (writeOf r row 1 4 (commitWord 0 0 0 3)) = true →
          Refuses (.commitDiscard r n) (writeOf r row 1 4 (commitWord 0 0 0 3)) .stateConflict s)
      ∧ (∀ (d : Pdu) (o : Obj) (q : Request), q = { r := r, cmd := 2, d := d } → s.accepts q = true →
          d.index.toNat ∈ [0x2100 + 16 * n.val, 0x2101 + 16 * n.val] → objOf d.index.toNat d.sub.toNat = some o → o.acc ≠ .ro →
          d.data.length = o.ty.size → Refuses (.write r d) q .stateConflict s))
    ∧ (∀ (mask : Byte) (kind num : BitVec 4) (tag : U16),
      let w := mask.toNat * 2 ^ 24 + kind.toNat * 2 ^ 20 + num.toNat * 2 ^ 16 + tag.toNat
      s.takes r 0x2010 1 4 w = true → inMask mask n = true →
      (s.layer n).check.isSome = true
        ∨ (∃ p, (s.layer n).pending = some p ∧ p.group ≠ 0 ∧ p.group ≠ mask) →
      Refuses (.groupCommit r mask kind num tag) (writeOf r 0x2010 1 4 w) .stateConflict s)

/-- The end of the check of a per-layer commit (R53, R56, Table 3-11): a snapshot that passes becomes pending, READY without a gate
or with one that was satisfied during the check, WAITING otherwise, and its write is answered; one whose gate ended with an
error is dropped with GATE_FAIL and counted (that its write is answered as done is the model's choice, log entry 118); a failing one
is dropped with its code, the refusal is counted, and an earlier pending snapshot stays.
The checks of a group commit end together (R57): with a failing member every member keeps its slot, the failing ones take their
codes and the others GROUP; otherwise the group becomes pending, or is dropped whole where a member's gate failed. Which cause the
reply and GROUP_STATUS take where several members fail is the model's choice (log entry 120).
A gate event reaches every snapshot under check or WAITING that has its gate (R56): without an error a WAITING one becomes
READY, with one it is dropped with GATE_FAIL, a group member with its whole group. -/
def Obligations.CommitCheckEnds : Prop :=
  (∀ (n : Fin 8) (c : Check) (v : Service) (s : State), s.netRuns = true → (s.layer n).check = some c →
    (c.overtaken = false) → inMask s.sched.inFlight n = false → s.inTicket (.commitCheckEnd n) →
    s.net.can.service = some v → v.q.r.carrier = .can → v.q.r.dest ≠ 0 → v.q.cmd = 2 →
    (∀ k, (s.port k).queue = []) → s.net.t1s.service = none → s.net.svh.service = none →
    let taken (c : Check) (l : Layer) : Layer :=
      let l1 := { l with check := none, pending := some c.snap, result := 0 }
      if c.snap.gateKind = 0 ∨ c.gate = some false then { l1 with ready := true, notReadyEpisode := false }
      else { l1 with ready := false }
    let dropped (result : Byte) (l : Layer) : Layer :=
      { l with check := none, pending := none, ready := false, result := result, notReadyEpisode := false }
    let refused (l : Layer) : Layer := { l with refusalCount := satInc l.refusalCount }
    let same (t : State) := t.clock = max s.clock c.due ∧ t.net.can.service = none ∧ t.banks = s.banks ∧ t.mem = s.mem
      ∧ t.safety = s.safety ∧ t.faults = s.faults ∧ t.sched = s.sched
    let done (t : State) := t.net.can.last = some (responseTo v.q 0x82 [])
    let told (code : Byte) (t : State) := t.net.can.last = some (responseTo v.q 0xFF (abortData (.commitRefused code)))
    (c.snap.group = 0 → v.awaits = .commit n →
      let code := c.snap.checkResult n c.inputs
      Completes (.commitCheckEnd n) s fun t => same t ∧ (∀ m, m ≠ n → t.layer m = s.layer m) ∧ t.group = s.group
        ∧ (code ≠ 0 → told code t ∧ t.layer n = refused { s.layer n with check := none, result := code })
        ∧ (code = 0 → c.gate = some true → done t ∧ t.layer n = refused (dropped 0x20 (s.layer n)))
        ∧ (code = 0 → c.gate ≠ some true → done t ∧ t.layer n = taken c (s.layer n)))
    ∧ (∀ m : Byte, m ≠ 0 → c.snap.group = m → v.awaits = .group m →
      let held (k : Fin 8) (x : Check) := (s.layer k).check = some x ∧ x.snap.group = m
      (∀ k x, held k x → x.overtaken = false ∧ inMask s.sched.inFlight k = false) →
      let bad (k : Fin 8) := ∃ x, held k x ∧ x.snap.checkResult k x.inputs ≠ 0
      let failed := ∃ k x, held k x ∧ x.gate = some true
      Completes (.commitCheckEnd n) s fun t => same t
        ∧ (∀ k, (∀ x, ¬held k x) → t.layer k = s.layer k)
        ∧ (∀ b y, bad b → held b y → (∀ k, k < b → ¬bad k) →
            told (y.snap.checkResult b y.inputs) t ∧ t.group = { mask := m, result := y.snap.checkResult b y.inputs }
            ∧ ∀ k x, held k x → t.layer k =
                if x.snap.checkResult k x.inputs = 0 then { s.layer k with check := none, result := 0x23 }
                else refused { s.layer k with check := none, result := x.snap.checkResult k x.inputs })
        ∧ ((∀ k, ¬bad k) → failed → done t ∧ t.group = { mask := m, result := 0x20 }
            ∧ ∀ k x, held k x → t.layer k =
                if x.gate = some true then refused (dropped 0x20 (s.layer k)) else dropped 0x23 (s.layer k))
        ∧ ((∀ k, ¬bad k) → ¬failed → done t ∧ t.group = { mask := m, result := 0 }
            ∧ ∀ k x, held k x → t.layer k = taken x (s.layer k))))
  ∧ (∀ (kind num : BitVec 4) (err : Bool) (s : State),
    let t := gateEvent kind num err s
    let noted (l : Layer) : Layer := match l.check with
      | some c => if c.snap.gateKind = kind ∧ c.snap.gateNum = num ∧ c.gate = none then { l with check := some { c with gate := some err } }
        else l
      | none => l
    let hit (k : Fin 8) := ∃ p, (s.layer k).pending = some p ∧ (s.layer k).ready = false ∧ p.gateKind = kind ∧ p.gateNum = num
    let gone (result : Byte) (l : Layer) : Layer :=
      { l with pending := none, ready := false, result := result, notReadyEpisode := false }
    let whole (k : Fin 8) := (s.layer k).groupMask ≠ 0 ∧ ∃ j, hit j ∧ (s.layer j).groupMask = (s.layer k).groupMask
    t = { s with layers := t.layers, group := t.group }
    ∧ (∀ k, ¬hit k → ¬(err = true ∧ whole k) → t.layer k = noted (s.layer k))
    ∧ (∀ k, hit k → t.layer k = if err then
          let l := gone 0x20 (noted (s.layer k))
          { l with refusalCount := satInc l.refusalCount }
        else { noted (s.layer k) with ready := true, notReadyEpisode := false })
    ∧ (∀ k, err = true → ¬hit k → whole k → t.layer k = gone 0x23 (noted (s.layer k)))
    ∧ ((err = false ∨ ∀ k, ¬whole k) → t.group = s.group)
    ∧ (∀ m, m ≠ 0 → err = true → (∃ k, hit k ∧ (s.layer k).groupMask = m) →
        (∀ k, hit k → (s.layer k).groupMask ∈ [0, m]) → t.group = { mask := m, result := 0x20 }))

/-- What the checks of Table 3-10 guarantee of a snapshot that passes: when enabled, its format, sizes, steps
and place are legal, its line-buffer requirement fits every tile with a valid mesh, and every byte of every row lies in field
memory, as does its palette. -/
def Obligations.AcceptedSnapshotInBounds : Prop :=
  ∀ (p : Snapshot) (n : Fin 8) (i : CheckInputs), p.checkResult n i = 0 → p.config.enable = true →
    p.config.format ≤ 6 ∧ p.config.blendOp ≤ 5 ∧ p.config.filter ≤ 1
    ∧ 1 ≤ p.config.width.toNat ∧ p.config.width.toNat ≤ 8192 ∧ 1 ≤ p.config.height.toNat ∧ p.config.height.toNat ≤ 8192
    ∧ (p.config.format = 5 → p.config.width.toNat % 2 = 0)
    ∧ 256 ≤ p.config.stepU.toNat ∧ p.config.stepU.toNat ≤ 16384 ∧ 256 ≤ p.config.stepV.toNat ∧ p.config.stepV.toNat ≤ 16384
    ∧ -1048576 ≤ p.config.placeU.toInt ∧ p.config.placeU.toInt ≤ 1048575
    ∧ -1048576 ≤ p.config.placeV.toInt ∧ p.config.placeV.toInt ≤ 1048575
    ∧ (∀ span : U16, i.span0 = some span ∨ i.span1 = some span → p.config.lineNeed span.toNat ≤ 98304)
    ∧ i.ctabValid.getLsbD p.config.colourId = true
    ∧ (∀ y x : Nat, y < p.config.height.toNat → x < p.config.rowBytes →
        p.config.bufAddr.toNat + y * p.config.stride.toNat + x < fmSize)
    ∧ (∀ y x : Nat, y + 1 < p.config.height.toNat → x < p.config.rowBytes →
        p.config.bufAddr.toNat + y * p.config.stride.toNat + x < p.config.bufAddr.toNat + (y + 1) * p.config.stride.toNat)
    ∧ (p.config.format = 6 → ∀ k, k < 1024 → p.config.paletteAddr.toNat + k < fmSize)

/-- Cancel and discard of a layer outside a group (Table 3-11): a cancel drops the pending snapshot with result CANCELLED and
is accepted with nothing pending; a discard reloads the staging configuration from the committed one; both are refused while a
check runs or a schedule owns the layer. -/
def Obligations.CancelAndDiscard : Prop :=
  ∀ (r : Requester) (n : Fin 8) (s : State),
    let q (k : Nat) := writeOf r (0x2102 + 16 * n.val) 1 4 (commitWord 0 0 0 k)
    (s.accepts (q 2) = true →
      (inMask s.sched.owned n = true ∨ (s.layer n).check.isSome = true → Refuses (.commitCancel r n) (q 2) .stateConflict s)
      ∧ (inMask s.sched.owned n = false → (s.layer n).check = none → (s.layer n).pending = none →
          Writes (.commitCancel r n) (q 2) s s)
      ∧ (inMask s.sched.owned n = false → (s.layer n).check = none → (s.layer n).pending.isSome = true →
          (s.layer n).groupMask = 0 →
          Writes (.commitCancel r n) (q 2) s (s.modLayer n fun l => { l with
            pending := none, ready := false, result := 0x21, notReadyEpisode := false })))
    ∧ (s.accepts (q 3) = true →
      (inMask s.sched.owned n = true ∨ (s.layer n).check.isSome = true → Refuses (.commitDiscard r n) (q 3) .stateConflict s)
      ∧ (inMask s.sched.owned n = false → (s.layer n).check = none → (s.layer n).groupMask = 0 →
          Writes (.commitDiscard r n) (q 3) s (s.modLayer n fun l => { l with staging := l.committed, edited := false })))

/-- A group commit (R57): every layer of the mask takes its snapshot under one check with the group's tag and gate, and the
answer waits for it; refused whole when a member is under check, in a group, or owned by a schedule. That a group of the same
mask refuses it too is the model's reading (log entry 111). -/
def Obligations.GroupCommitLands : Prop :=
  ∀ (r : Requester) (mask : Byte) (kind num : BitVec 4) (tag : U16) (s : State),
    let w := mask.toNat * 2 ^ 24 + kind.toNat * 2 ^ 20 + num.toNat * 2 ^ 16 + tag.toNat
    let q := writeOf r 0x2010 1 4 w
    s.takes r 0x2010 1 4 w = true →
    (mask &&& s.sched.owned ≠ 0 → Refuses (.groupCommit r mask kind num tag) q .stateConflict s)
    ∧ ((∃ n, inMask mask n = true ∧ ((s.layer n).check.isSome = true ∨ (s.layer n).groupMask ≠ 0)) →
        Refuses (.groupCommit r mask kind num tag) q .stateConflict s)
    ∧ (mask ≠ 0 → mask &&& s.sched.owned = 0 →
      (∀ n, inMask mask n = true → (s.layer n).check = none ∧ (s.layer n).groupMask = 0) →
      Completes (.groupCommit r mask kind num tag) s fun t =>
        t.group = { mask := mask, result := 0 }
        ∧ (t.port r.carrier).service = some { q := q, awaits := .group mask, startedAt := s.clock, boundMs := 0 }
        ∧ (∀ n, inMask mask n = true →
            ∃ c, (t.layer n).check = some c ∧ c.snap.config = (s.layer n).staging ∧ c.snap.tag = tag
              ∧ c.snap.gateKind = kind ∧ c.snap.gateNum = num ∧ c.snap.group = mask ∧ c.due = s.clock + 384
              ∧ t.layer n = { s.layer n with edited := false, check := some c })
        ∧ (∀ n, inMask mask n = false → t.layer n = s.layer n)
        ∧ t.banks = s.banks ∧ t.mem = s.mem ∧ t.safety = s.safety ∧ t.faults = s.faults ∧ t.sched = s.sched)

/-! ### banks, packs and schedules (chapter 6) -/

/-- BANK_CTRL of a pack pair (R120, R121, R124): open moves the inactive bank to OPEN without its contents' validity; a swap
request closes it, queues its verification and makes the swap pending; a cancel withdraws that; each is refused where its rule
says so. A job that starts on channel 0 clears DONE and ERR of the last one (R328). The active bank keeps its state throughout. The host requests nothing of the calibration pairs, and neither opens nor
swaps the schedule pair (Table 6-2). Which bank is inactive while neither is ACTIVE is the model's reading (log entry 21). -/
def Obligations.BankActions : Prop :=
  (∀ (r : Requester) (p : Fin 8) (s : State),
    let q (k : Nat) := writeOf r (0x3810 + p.val) 1 4 k
    (p.val < 2 ∨ p = 7 → s.accepts (q 1) = true → Refuses (.bankOpen r p) (q 1) .stateConflict s)
    ∧ (p.val < 2 ∨ p = 7 → s.accepts (q 2) = true → Refuses (.swapRequest r p) (q 2) .stateConflict s)
    ∧ (p.val < 2 → s.accepts (q 3) = true → Refuses (.bankCancel r p) (q 3) .stateConflict s))
  ∧ (∀ (r : Requester) (p : Fin 8) (s : State), 2 ≤ p.val → p ≠ 7 → s.blockStopped 5 = false →
    let q (k : Nat) := writeOf r (0x3810 + p.val) 1 4 k
    let b := s.bank p
    let i := b.inactive
    (s.accepts (q 1) = true →
      (b.pending = true ∨ s.pack.state ∈ [.opened, .loading, .loaded, .activating] →
        Refuses (.bankOpen r p) (q 1) .stateConflict s)
      ∧ (b.pending = false → s.pack.state ∈ [.idle, .failed] →
        Writes (.bankOpen r p) (q 1) s (s.modBank p fun b =>
          { b.setState i .opened with
            ctab0 := if i = 0 then 0 else b.ctab0, ctab1 := if i = 0 then b.ctab1 else 0, reverify := false })))
    ∧ (s.accepts (q 2) = true →
      (b.state i ∈ [.empty, .verifying, .active] → Refuses (.swapRequest r p) (q 2) .stateConflict s)
      ∧ (b.state i ∈ [.opened, .valid, .failed] → p ≠ 4 → bankEntryOk p (entryOf b.entry) = false →
          Refuses (.swapRequest r p) (q 2) .valueRange s)
      ∧ (b.state i ∈ [.opened, .valid, .failed] → p = 4 ∨ bankEntryOk p (entryOf b.entry) = true →
          let u := s.modBank p fun b =>
            { b.setState i .verifying with
              pending := true, byPack := b.inGroup, deferRun := 0, deferReported := false, reverify := false }
          Writes (.swapRequest r p) (q 2) s (u.jobQueued (.bank p))))
    ∧ (s.accepts (q 3) = true →
      (b.pending = false → Writes (.bankCancel r p) (q 3) s s)
      ∧ (b.pending = true →
          let u := s.modBank p fun b =>
            { (if b.state i = .verifying then b.setState i .opened else b) with
              pending := false, inGroup := false }
          Writes (.bankCancel r p) (q 3) s (u.jobDropped (.bank p)))))

/-- The verification of the inactive bank of a pack pair ends (R28, R51, R102, R121, R123, R133, R137, R217): VALID where its table
holds, otherwise FAILED with the code of its first failing check, reported with class 1 and the pair's unit; the pending request
stays, and the other bank keeps its state. Of the colour tables that the host loaded those that hold become valid, and the bank
with them; those of a pack must all hold (R51). A swap deferred at DEFER_LIMIT consecutive
ticket closes is reported once for the request. A ticket close applies the reasons of Table 6-4 in their order to every pending swap
(R17, R122, R134): with none, the inactive bank becomes ACTIVE and the active one VALID; with one, the swap stays pending and is
counted; an activation takes effect once every pair that its directory names does, and a single-pair swap sets MIXED (R136). A
member whose swap the host has withdrawn keeps the others deferred (the model's choice, log entry 118); which of the two sets
MIXED last, where both take effect at once, is the model's choice (log entry 120), as is that the entry is read as the verification
ends. -/
def Obligations.VerificationAndDeferral : Prop :=
  (∀ (p : Fin 8) (s : State) (code : Byte), 2 ≤ p.val → p ≠ 4 → s.mgmt.jobs.head? = some (.bank p) → (s.bank p).pending = true →
    (s.bank p).state (s.bank p).inactive = .verifying → (s.bank p).inGroup = false →
    s.power.supplies.toList.all (fun x => !x.warn) = true → VerifiedAs s p code →
    let i := (s.bank p).inactive
    Completes (.verificationEnd p) s fun t =>
      (t.bank p).state i = (if code = 0 then .valid else .failed) ∧ (t.bank p).lastResult = code
      ∧ (t.bank p).state (1 - i) = (s.bank p).state (1 - i) ∧ (t.bank p).pending = true
      ∧ t.mgmt.jobs = s.mgmt.jobs.tail
      ∧ (∀ q, q ≠ p → t.bank q = s.bank q) ∧ t.pack = s.pack ∧ t.layers = s.layers ∧ t.safety = s.safety
      ∧ (∀ n : Fin 2, t.warp.lastRefusal[n] = if p.val = n.val + 2 ∧ code ≠ 0 then code else s.warp.lastRefusal[n])
      ∧ (s.safety.power = .run →
          ((s.verifyBad p) = [] → code = 0 → t.faults = s.faults)
          ∧ (code ≠ 0 → ∃ x ∈ t.faults.pending, x.unit = unitPair p ∧ 1 ≤ x.cls
              ∧ (unitPair p, 0x06, BitVec.ofNat 8 p.val, 1) ∈ x.causes)))
  ∧ (∀ s : State, s.mgmt.jobs.head? = some (.bank 4) → (s.bank 4).state (s.bank 4).inactive = .verifying →
    s.power.supplies.toList.all (fun x => !x.warn) = true →
    let i := (s.bank 4).inactive
    let at_ (c : Nat) := (bankWindow 4 i).1 + 2112 * c
    let table (c : Nat) := s.fmRead (at_ c) 2112
    let ctab (t : State) := if i = 0 then (t.bank 4).ctab0 else (t.bank 4).ctab1
    let luts := s.pack.directory.filter fun e => e.kind == 2
    let crcOk (e : DirEntry) := s.badIn (at_ e.target.toNat) 2112 = false ∧ crc32cOf (table e.target.toNat) = e.crc
    let headOk (e : DirEntry) := u16At (table e.target.toNat) 0 = 1 ∧ byteAt (table e.target.toNat) 2 = e.target ∧ e.version = 1
    ((s.bank 4).byPack = false → Completes (.verificationEnd 4) s fun t =>
      (t.bank 4).state i = .valid ∧ (t.bank 4).lastResult = 0
      ∧ ∀ c, c < 32 → ((ctab t).getLsbD c = true ↔ ColourTableHolds (table c) c ∧ s.badIn (at_ c) 2112 = false))
    ∧ ((s.bank 4).byPack = true → (∀ e ∈ luts, crcOk e ∧ headOk e) → Completes (.verificationEnd 4) s fun t =>
      (t.bank 4).state i = .valid ∧ (t.bank 4).lastResult = 0
      ∧ ∀ c, c < 32 → ((ctab t).getLsbD c = true ↔ ∃ e ∈ luts, e.target.toNat = c))
    ∧ (∀ l e r, (s.bank 4).byPack = true → luts = l ++ e :: r → (∀ d ∈ l, crcOk d ∧ headOk d) → ¬(crcOk e ∧ headOk e) →
      Completes (.verificationEnd 4) s fun t => (t.bank 4).state i = .failed
        ∧ (¬crcOk e → (t.bank 4).lastResult = 0x39) ∧ (crcOk e → (t.bank 4).lastResult = 0x3A)))
  ∧ (∀ (p : Fin 8) (s : State), (s.bank p).pending = true → s.pack.deferLimit.toNat ≤ (s.bank p).deferRun →
    ((s.bank p).deferReported = true → exec (.deferLimitReached p) s = .next s)
    ∧ ((s.bank p).deferReported = false →
        exec (.deferLimitReached p) s = .next (report1 (unitPair p) 0x07 (BitVec.ofNat 8 p.val)
          (s.modBank p fun b => { b with deferReported := true }))))
  ∧ (∀ s : State, s.frame.running = true → s.frame.fresh = false → s.frame.nextNumber = none → s.frame.closesTaken = 0 →
    (∀ c, (s.port c).queue = []) →
    Completes .ticketClose s fun t =>
    let own (p : Fin 8) : BitVec 4 :=
      let x := s.bank p
      if s.power.frozen then 1
      else if x.state x.inactive = .verifying then 2
      else if x.state x.inactive = .failed then 3
      else if p = 4 ∧ s.colourIds.any (fun c => !(if x.inactive = 0 then x.ctab0 else x.ctab1).getLsbD c) then 5
      else 0
    let member (p : Fin 8) := (s.bank p).inGroup = true
    let free := ∀ p ∈ s.namedPairs, member p ∧ (s.bank p).pending = true ∧ own p = 0
    let swaps (p : Fin 8) := own p = 0 ∧ (¬member p ∨ (∀ k, member k → own k = 0) ∧ free)
    let reason (p : Fin 8) : BitVec 4 := if own p ∈ [1, 2, 3] then own p
      else if member p ∧ ((∃ k, k ≠ p ∧ member k ∧ own k ≠ 0) ∨ own p = 0) then 4 else own p
    (∀ p : Fin 8, (s.bank p).pending = false → t.bank p = s.bank p)
    ∧ (∀ p : Fin 8, (s.bank p).pending = true →
      (∀ n, p = calPair n → (s.tileDiag n).queued = false) →
      let x := s.bank p
      (swaps p → (t.bank p).state x.inactive = .active ∧ (x.activeBank.isSome = true → (t.bank p).state (1 - x.inactive) = .valid)
        ∧ (t.bank p).pending = false ∧ (t.bank p).inGroup = false ∧ (t.bank p).swapCount = satInc x.swapCount
        ∧ (t.bank p).frameOfSwap = t.frame.number ∧ (t.bank p).deferCount = x.deferCount)
      ∧ (¬swaps p → t.bank p = { x with
          deferCount := satInc x.deferCount, lastDefer := reason p, deferRun := x.deferRun + 1 }))
    ∧ (s.pack.state ≠ .activating → t.pack.state = s.pack.state ∧ t.pack.activeId = s.pack.activeId)
    ∧ (s.pack.state = .activating → free → t.pack.state = .idle ∧ t.pack.result = 0 ∧ t.pack.mixed = false
        ∧ t.pack.activeId = s.pack.loadedId ∧ t.pack.activeVersion = s.pack.loadedVersion)
    ∧ (s.pack.state = .activating → ¬free → t.pack.state = s.pack.state ∧ t.pack.activeId = s.pack.activeId
        ∧ t.pack.activateCloses = s.pack.activateCloses + 1)
    ∧ (¬(s.pack.state = .activating ∧ free) → (∃ p : Fin 8, 2 ≤ p.val ∧ (s.bank p).pending = true ∧ swaps p ∧ ¬member p) →
        t.pack.mixed = true)
    ∧ t.mem.fm = s.mem.fm)

/-- The pack actions OPEN_HOST, LOAD_FLASH and CLOSE_HOST (R130, R131, R136): the inactive bank of every pack pair opens and the
pack state moves on; with a swap of a pack pair pending, or in a state that does not take the action, the write is refused
and RESULT becomes BUSY with ENTRY 0xFF, and nothing else changes. -/
def Obligations.PackOpenAndClose : Prop :=
  ∀ (r : Requester) (slot : Byte) (s : State), s.blockStopped 5 = false → s.pack.boot = false →
    let busy : State := { s with pack := { s.pack with result := 0x3B, entry := 0xFF } }
    let free := s.pack.state ∈ [.idle, .loaded, .failed] ∧ ∀ p : Fin 8, 2 ≤ p.val → (s.bank p).pending = false
    let opens (t : State) := ∀ p : Fin 8, t.bank p =
      if p.val < 2 then s.bank p
      else
        let i := (s.bank p).inactive
        { (s.bank p).setState i .opened with
          ctab0 := if i = 0 then 0 else (s.bank p).ctab0, ctab1 := if i = 0 then (s.bank p).ctab1 else 0
          reverify := false }
    let ql := writeOf r 0x3800 1 4 (slot.toNat * 2 ^ 8 + 1)
    let qo := writeOf r 0x3800 1 4 2
    let qc := writeOf r 0x3800 1 4 3
    (s.accepts qo = true →
      (free → Completes (.openHost r) s fun t => t.wroteDone qo ∧ opens t
        ∧ t.pack = { s.pack with state := .opened, source := none }
        ∧ t.mem = s.mem ∧ t.layers = s.layers ∧ t.safety = s.safety ∧ t.faults = s.faults)
      ∧ (¬free → Completes (.openHost r) s fun t =>
          t.aborted qo .stateConflict ∧ t.quiet = busy.quiet))
    ∧ (s.accepts ql = true →
      (free → s.slotInFlash slot = true → Completes (.loadFlash r slot) s fun t => t.wroteDone ql ∧ opens t
        ∧ t.pack = { s.pack with state := .loading, source := some slot }
        ∧ t.mem = s.mem ∧ t.layers = s.layers ∧ t.safety = s.safety ∧ t.faults = s.faults)
      ∧ (free → s.slotInFlash slot = false → Refuses (.loadFlash r slot) ql .valueRange s)
      ∧ (¬free → Completes (.loadFlash r slot) s fun t => t.aborted ql .stateConflict ∧ t.quiet = busy.quiet))
    ∧ (s.accepts qc = true →
      (s.pack.state = .opened →
        Writes (.closeHost r) qc s { s with pack := { s.pack with state := .loading } })
      ∧ (s.pack.state ≠ .opened → Completes (.closeHost r) s fun t =>
          t.aborted qc .stateConflict ∧ t.quiet = busy.quiet))

/-- The end of a load (R129 to R132, R140): a read error of the flash ends a LOAD_FLASH with FLASH; one from flash has copied header
and directory to the staging window before checks 1 to 3 of Table 6-9 (R130). A load over Svarn-H, its image being readable, ends
with the first failing check of Table 6-9 and its entry, and the pack loaded before keeps its identity; with none it is LOADED
with its directory and identity. A signed image must hold its digest and signature, and an unsigned one is refused while
signatures are required (R129). That a CONTENT entry with a VERSION other than 0 fails check 5, KIND, is the model's choice
(log entry 118). -/
def Obligations.PackLoadEnds : Prop :=
  ∀ (flash : FlashRead) (s : State), s.gorse = true → s.pack.state = .loading → s.pack.boot = false →
    let head := s.imageHead 0 64
    let count := min (u16At head 0xC).toNat 64
    let dir := s.imageHead 64 (32 * count)
    let entries := (List.range count).map fun e => entryOf (slice dir (32 * e) 32)
    let failed (result entry : Byte) : State := { s with pack := { s.pack with state := .failed, result := result, entry := entry } }
    (flash = .error → s.pack.source.isSome = true → exec (.packLoadEnd flash) s = .next (failed 0x3C 0xFF))
    ∧ (∀ slot, flash = .ok → s.pack.source = some slot → headerResult head dir ≠ 0 →
      Completes (.packLoadEnd flash) s fun t =>
        t.pack = { s.pack with state := .failed, result := headerResult head dir, entry := 0xFF }
        ∧ (s.mem.wf = true → (∀ k, k < 64 + 32 * count → t.fm (stagingStart + k) = (head ++ dir).getD k 0)
            ∧ (∀ a, a < stagingStart ∨ stagingStart + 64 + 32 * count ≤ a → t.fm a = s.fm a))
        ∧ t.banks = s.banks ∧ t.layers = s.layers ∧ t.safety = s.safety ∧ t.faults = s.faults)
    ∧ (s.pack.source = none → s.badWords stagingStart (64 + 32 * count) = [] →
      let magicBad := head.take 4 ≠ [0x41, 0x46, 0x4C, 0x53]
      let headerBad := u32At head 0x3C ≠ crc32cOf (head.take 0x3C) ∨ u16At head 4 ≠ 1 ∨ u16At head 6 ≠ 64 ∨ u32At head 0x20 ≠ 64
        ∨ 2 ≤ (u16At head 0xE).toNat ∨ slice head 0x2C 16 ≠ zeros 16
      let dirBad := ¬(1 ≤ (u16At head 0xC).toNat ∧ (u16At head 0xC).toNat ≤ 64) ∨ u32At head 0x24 ≠ crc32cOf dir
      let signed := u16At head 0xE = 1
      let size := (u32At head 8).toNat - (if signed then 96 else 0)
      let at_ (i : Nat) : DirEntry := entries.getD i (entryOf [])
      let overlaps (a la b lb : U32) := a.toNat < b.toNat + lb.toNat ∧ b.toNat < a.toNat + la.toNat
      let laidBad (i : Nat) := (at_ i).offset.toNat % 32 ≠ 0 ∨ (at_ i).offset.toNat < 64 + 32 * count
        ∨ size < (at_ i).offset.toNat + (at_ i).length.toNat ∨ (at_ i).reserved = true
        ∨ ∃ j, j < i ∧ overlaps (at_ j).offset (at_ j).length (at_ i).offset (at_ i).length
      let kindBad (i : Nat) :=
        let n := (at_ i).length.toNat
        let tg := (at_ i).target.toNat
        ¬(match (at_ i).kind.toNat with
          | 1 => tg ≤ 1 ∧ n ∈ [66852, 17060]
          | 2 => tg ≤ 31 ∧ n = 2112
          | 3 => tg = 0xFF ∧ n = 1792
          | 4 => tg = 0xFF ∧ 32 ≤ n ∧ n ≤ 524288 ∧ n % 32 = 0
          | 5 => tg = 0xFF ∧ 32 ≤ n ∧ n ≤ 37748736 ∧ (at_ i).version = 0
          | 6 => tg = 0xFF ∧ n ≤ 65536 ∧ ∃ c, 1 ≤ c ∧ n = 16 + 48 * c
          | _ => False)
        ∨ ((at_ i).kind ≠ 5 ∧ ∃ j, j < i ∧ (at_ j).kind = (at_ i).kind ∧ (at_ j).target = (at_ i).target)
      let tilesBad := byteAt head 0x16 ≠ (s.link 0).kind ∨ byteAt head 0x17 ≠ (s.link 1).kind
      let meshBad (i : Nat) := (at_ i).kind = 1 ∧ byteAt head (0x16 + (at_ i).target.toNat) = 0xFF
      let destBad (i : Nat) :=
        ((at_ i).kind = 5 ∧ ((at_ i).dest.toNat % 32 ≠ 0 ∨ tableStart < (at_ i).dest.toNat + (at_ i).length.toNat
          ∨ ∃ j, j < i ∧ (at_ j).kind = 5 ∧ overlaps (at_ j).dest (at_ j).length (at_ i).dest (at_ i).length))
        ∨ ((at_ i).kind ≠ 5 ∧ (at_ i).dest ≠ 0)
      let leasedBad (i : Nat) := (at_ i).kind = 5 ∧ ∃ n, (s.layer n).leased (at_ i).dest.toNat (at_ i).length.toNat = true
      let swapping := ∃ p : Fin 8, 2 ≤ p.val ∧ (s.bank p).pending = true
      let bodyBad (i : Nat) := crc32cOf (s.fmRead (s.loadAddress (at_ i)) (at_ i).length.toNat) ≠ (at_ i).crc
      let trailer := s.fmRead (stagingStart + 0xFF00) 96
      let digest := sha256 (head ++ dir ++ entries.flatMap fun e => s.fmRead (s.loadAddress e) e.length.toNat)
      let signatureBad := if signed then ¬(trailer.take 32 = digest ∧ ecdsaOk s.cairn.packKey digest (trailer.drop 32) = true)
        else s.pack.signedOnly = true
      let none_ (bad : Nat → Prop) := ∀ i, i < count → ¬bad i
      let first (bad : Nat → Prop) (i : Nat) := i < count ∧ bad i ∧ ∀ j, j < i → ¬bad j
      let ends (result entry : Byte) := exec (.packLoadEnd flash) s = .next (failed result entry)
      let upTo3 := ¬magicBad ∧ ¬headerBad ∧ ¬dirBad
      let upTo5 := upTo3 ∧ none_ laidBad ∧ none_ kindBad
      let upTo9 := upTo5 ∧ ¬tilesBad ∧ none_ meshBad ∧ none_ destBad ∧ none_ leasedBad ∧ ¬swapping
      let clear := (∀ e ∈ entries, s.badWords (s.loadAddress e) e.length.toNat = []) ∧ s.badWords (stagingStart + 0xFF00) 96 = []
      (magicBad → ends 0x30 0xFF)
      ∧ (¬magicBad → headerBad → ends 0x31 0xFF)
      ∧ (¬magicBad → ¬headerBad → dirBad → ends 0x32 0xFF)
      ∧ (∀ i, upTo3 → first laidBad i → ends 0x34 (BitVec.ofNat 8 i))
      ∧ (∀ i, upTo3 → none_ laidBad → first kindBad i → ends 0x35 (BitVec.ofNat 8 i))
      ∧ (upTo5 → tilesBad → ends 0x36 0xFF)
      ∧ (∀ i, upTo5 → ¬tilesBad → first meshBad i → ends 0x36 (BitVec.ofNat 8 i))
      ∧ (∀ i, upTo5 → ¬tilesBad → none_ meshBad → first destBad i → ends 0x37 (BitVec.ofNat 8 i))
      ∧ (∀ i, upTo5 → ¬tilesBad → none_ meshBad → none_ destBad → first leasedBad i → ends 0x38 (BitVec.ofNat 8 i))
      ∧ (upTo5 → ¬tilesBad → none_ meshBad → none_ destBad → none_ leasedBad → swapping → ends 0x3B 0xFF)
      ∧ (∀ i, upTo9 → clear → first bodyBad i → ends 0x39 (BitVec.ofNat 8 i))
      ∧ (upTo9 → clear → none_ bodyBad → signatureBad → ends 0x33 0xFF)
      ∧ (upTo9 → clear → none_ bodyBad → ¬signatureBad →
        exec (.packLoadEnd flash) s = .next { s with pack := { s.pack with
          state := .loaded, result := 0, entry := 0xFF, directory := entries
          loadedId := u32At head 0x10, loadedVersion := u16At head 0x14 } }))

/-- ACTIVATE, CANCEL and ACTIVATE_TIMEOUT (R134 to R136). ACTIVATE of a loaded pack checks the content it has put in place, then
requests a swap of every pair that the directory names and holds its port BUSY; content that fails its CRC-32C ends the activation
FAILED with that entry, after the BUSY response of its start (that its code is then STATE_CONFLICT is the model's choice, log
entry 52); in any other state it is refused with RESULT BUSY. CANCEL withdraws
every request of a pack pair, and the timeout those of the members (R124: a bank under verification is OPEN again, its job leaves
channel 0, the active bank stays); both set RESULT and the pack state. -/
def Obligations.Activation : Prop :=
  (∀ (r : Requester) (s : State), s.accepts (writeOf r 0x3800 1 4 4) = true → s.pack.boot = false →
    let q := writeOf r 0x3800 1 4 4
    let bad (e : DirEntry) : Bool := e.kind == 5 && ((s.badWords e.dest.toNat e.length.toNat != [])
      || crc32cOf (s.fmRead e.dest.toNat e.length.toNat) != e.crc)
    (s.blockStopped 5 = true → Refuses (.activate r) q .stateConflict s)
    ∧ (s.blockStopped 5 = false → s.pack.state ≠ .loaded → Completes (.activate r) s fun t =>
      t.aborted q .stateConflict ∧ t.quiet = { s with pack := { s.pack with result := 0x3B, entry := 0xFF } }.quiet)
    ∧ (s.blockStopped 5 = false → s.pack.state = .loaded → s.pack.directory.all (fun e => !bad e) = true →
      (∀ p ∈ s.namedPairs, (s.bank p).state (s.bank p).inactive ∈ [.opened, .valid, .failed]) →
      Completes (.activate r) s fun t =>
        t.pack = { s.pack with state := .activating, activateCloses := 0 }
        ∧ (∃ v, (t.port r.carrier).service = some v ∧ v.q = q ∧ v.awaits = .long .activate)
        ∧ (∀ p ∈ s.namedPairs, (t.bank p).pending = true ∧ (t.bank p).inGroup = true
            ∧ (t.bank p).state (s.bank p).inactive = .verifying)
        ∧ (∀ p, p ∉ s.namedPairs → t.bank p = s.bank p)
        ∧ t.mgmt.jobs = s.mgmt.jobs ++ s.namedPairs.map .bank
        ∧ t.mem = s.mem ∧ t.layers = s.layers ∧ t.safety = s.safety ∧ t.faults = s.faults)
    ∧ (∀ (i : Nat) (e : DirEntry), s.blockStopped 5 = false → s.pack.state = .loaded → i < 64 →
      s.pack.directory[i]? = some e → bad e = true → (s.pack.directory.take i).all (fun d => !bad d) = true →
      (∀ p, (s.bank p).inGroup = false) →
      Completes (.activate r) s fun t => t.aborted q .stateConflict
        ∧ t.pack = { s.pack with state := .failed, result := 0x39, entry := BitVec.ofNat 8 i, activateCloses := 0 }
        ∧ t.banks = s.banks ∧ t.mem = s.mem ∧ t.layers = s.layers ∧ t.safety = s.safety))
  ∧ (∀ (r : Requester) (s : State), s.accepts (writeOf r 0x3800 1 4 5) = true → s.blockStopped 5 = false →
    s.pack.boot = false → (∀ p : Fin 8, p.val < 2 → (s.bank p).inGroup = false) →
    let q := writeOf r 0x3800 1 4 5
    let done (t : State) := t.wroteDone q
      ∧ t.pack = { s.pack with state := .idle, result := 0x3E, entry := 0xFF }
      ∧ (∀ p : Fin 8, t.bank p = if p.val < 2 then s.bank p else (s.bank p).withdrawn)
      ∧ t.mgmt.jobs = s.jobsWithout (fun p => decide (2 ≤ p.val))
      ∧ t.mem = s.mem ∧ t.layers = s.layers ∧ t.safety = s.safety ∧ t.faults = s.faults
    (s.pack.state ∈ [.opened, .loading, .loaded] → Completes (.packCancel r) s done)
    ∧ (s.pack.state = .activating → (∀ c, (s.port c).queue = []) →
      (∀ c v, (s.port c).service = some v → v.q.r.carrier = c ∧ v.q.cmd = 2) →
      Completes (.packCancel r) s fun t => done t ∧ ActivateAnswered s t)
    ∧ (s.pack.state ∈ [.idle, .failed] → Completes (.packCancel r) s fun t =>
      t.aborted q .stateConflict ∧ t.quiet = { s with pack := { s.pack with result := 0x3B, entry := 0xFF } }.quiet))
  ∧ (∀ s : State, s.pack.boot = false →
    (s.pack.state ≠ .activating ∨ s.pack.activateCloses < s.pack.activateTimeout.toNat →
      exec .activateTimeout s = .next s)
    ∧ (s.pack.state = .activating → s.pack.activateTimeout.toNat ≤ s.pack.activateCloses →
      (∀ c, (s.port c).queue = []) → (∀ c v, (s.port c).service = some v → v.q.r.carrier = c ∧ v.q.cmd = 2) →
      Completes .activateTimeout s fun t =>
        t.pack = { s.pack with state := .failed, result := 0x3D, entry := 0xFF }
        ∧ (∀ p, t.bank p = if (s.bank p).inGroup = true then (s.bank p).withdrawn else s.bank p)
        ∧ t.mgmt.jobs = s.jobsWithout (fun p => (s.bank p).inGroup)
        ∧ ActivateAnswered s t
        ∧ t.mem = s.mem ∧ t.layers = s.layers ∧ t.safety = s.safety ∧ t.faults = s.faults))

/-- Commit schedules (R138, R139): SCHED_START takes a start at least two frames ahead with an active schedule that names no
essential layer, and then owns the layers of its entries; SCHED_STOP ends the ownership; a stopped schedule has nothing to
stop. A stopped Gorse takes no start (R355). From the subframe L marker on, one due entry is written to the staging objects of its layer and committed without a gate
under its tag; with none due nothing happens. RESULT of a refused start is the model's reading (log entry 51). -/
def Obligations.Schedules : Prop :=
  (∀ (r : Requester) (frame : U32) (s : State), s.takes r 0x3830 1 4 frame.toNat = true →
    let q := writeOf r 0x3830 1 4 frame.toNat
    (s.blockStopped 5 = true → Refuses (.schedStart r frame) q .stateConflict s)
    ∧ (s.blockStopped 5 = false → frame.toNat < s.frame.number.toNat + 2 ∨ (s.bank 7).activeBank = none →
      Completes (.schedStart r frame) s fun t =>
      t.aborted q .stateConflict ∧ t.quiet = { s with sched := { s.sched with result := 0 } }.quiet)
    ∧ (s.blockStopped 5 = false → s.frame.number.toNat + 2 ≤ frame.toNat → (s.bank 7).activeBank.isSome = true → s.schedLayers &&& s.essential ≠ 0 →
      Completes (.schedStart r frame) s fun t =>
        t.aborted q .stateConflict ∧ t.quiet = { s with sched := { s.sched with result := 3 } }.quiet)
    ∧ (s.blockStopped 5 = false → s.frame.number.toNat + 2 ≤ frame.toNat → (s.bank 7).activeBank.isSome = true → s.schedLayers &&& s.essential = 0 →
      Writes (.schedStart r frame) q s { s with sched :=
        { running := true, started := false, stopped := false, nextEntry := 0, result := 0, owned := s.schedLayers
          passStart := frame, inFlight := 0 } }))
  ∧ (∀ (r : Requester) (s : State), s.takes r 0x3830 2 1 1 = true →
    let q := writeOf r 0x3830 2 1 1
    (s.sched.running = false → Writes (.schedStop r) q s s)
    ∧ (s.sched.running = true → Writes (.schedStop r) q s { s with sched := { s.sched with
        running := false, started := false, stopped := true, owned := 0, inFlight := 0, result := 0 } }))
  ∧ (∀ s : State,
    (s.dueEntries = [] → exec .scheduledCommit s = .next s)
    ∧ (∀ e, s.dueEntries = [e] → s.sched.running = true → 36 ≤ s.frame.slot →
        (s.layer (layerFin e.layer)).check = none → (s.layer (layerFin e.layer)).groupMask = 0 →
        Completes .scheduledCommit s fun t =>
          (∃ c, (t.layer (layerFin e.layer)).check = some c ∧ c.snap.config = e.config.unreserved ∧ c.snap.tag = e.tag
            ∧ c.snap.gateKind = 0 ∧ c.snap.group = 0 ∧ c.due = s.clock + 384)
          ∧ (t.layer (layerFin e.layer)).staging = e.config.unreserved
          ∧ (∀ m, m ≠ layerFin e.layer → t.layer m = s.layer m)
          ∧ t.banks = s.banks ∧ t.mem = s.mem ∧ t.safety = s.safety
          ∧ (s.mem.bad = [] → t.faults = s.faults)))
/-! ### Svarn-H, the stream windows and QUICK (chapters 5 and 8) -/

/-- A packet of Svarn-H that fails a check of R163 is dropped and counted: a failing CRC in one counter, every other cause in the
other (a kind that is not the host's, a LENGTH above the limit of Table 8-5 or no multiple of 4, a LENGTH that is not the payload's,
an EOP out of place, a symbol error inside, a reserved header bit of its kind), and an invalid code or a disparity error, also one
between packets (R159), for its lane. While the link is down or a loop runs nothing arrives, and that no symbol error counts then
is the model's choice (log entry 120). -/
def Obligations.BadPacketsDropped : Prop :=
  ∀ (p : Packet) (s : State), ∀ c ∈ [Instr.streamPacket p, .bulkWrite p, .bulkRead p, .quickPacket p, .objPacket p],
    let lanes := (packetErrors p).foldl (fun v e => vmod v e.1 (laneCount e.2)) s.svh.laneErr
    let frameError := { s with svh := { s.svh with frameErr := satInc s.svh.frameErr, laneErr := lanes } }
    (s.svhReceives = false → exec c s = .next s)
    ∧ (s.svhReceives = true → p.arrival = .whole → p.crc ≠ packetCheck p →
        exec c s = .next { s with svh := { s.svh with crcErr := satInc s.svh.crcErr, laneErr := lanes } })
    ∧ (s.svhReceives = true → p.arrival = .badFrame → exec c s = .next frameError)
    ∧ (s.svhReceives = true → p.arrival = .whole → p.crc = packetCheck p →
        p.payload.length ≠ p.length.toNat ∨ p.kind = 0 ∨ 4 < p.kind → exec c s = .next frameError)
    ∧ (let unused := p.flags ≠ 0 ∨ p.seq ≠ 0 ∨ p.info ≠ 0 ∨ p.a ≠ 0 ∨ p.b ≠ 0
      ∀ x ∈ ([(.streamPacket p, 1, 2048, 4 ≤ p.flags.toNat ∨ 16 ≤ p.info.toNat ∨ p.b ≠ 0),
          (.bulkWrite p, 2, 2048, 2 ≤ p.flags.toNat ∨ 256 ≤ p.info.toNat),
          (.bulkRead p, 2, 2048, 2 ≤ p.flags.toNat ∨ 256 ≤ p.info.toNat ∨ p.b.toNat / 4096 % 16 ≠ 0),
          (.quickPacket p, 3, 1056, unused), (.objPacket p, 4, 1024, unused)] : List (Instr × Byte × Nat × Prop)),
        s.svhReceives = true → p.arrival = .whole → p.crc = packetCheck p → p.kind = x.2.1 →
        x.2.2.1 < p.length.toNat ∨ p.length.toNat % 4 ≠ 0 ∨ x.2.2.2 → exec x.1 s = .next frameError)
    ∧ (∀ lane d, s.svhReceives = true → p.arrival = .badSymbol lane d → p.gap = [] →
        exec c s = .next { s with svh := { s.svh with
          frameErr := satInc s.svh.frameErr, laneErr := vmod s.svh.laneErr lane (laneCount d) } })

/-- A STREAM packet of one buffer (R165, R166): SOB and EOB together outside the table area write the payload at the window's base
plus the offset, close the buffer, and count its end; a packet without SOB on a closed window is discarded and counted; an
offset outside the window is a packet error and writes nothing; a window of WIN_SIZE 0 takes no packet (R167; that it is
counted as for a closed window is the model's choice, log entry 118). The end of a buffer is the gate event of its window, with the
buffer's error flag (R56). -/
def Obligations.StreamBuffer : Prop :=
  ∀ (p : Packet) (w : Fin 16) (s : State), s.svhReceives = true → packetWhole p = true → p.kind = 1 → p.gap = [] →
    p.payload.length ≤ 2048 → p.payload.length % 4 = 0 → p.info.toNat = w.val → p.b = 0 → s.blockStopped 7 = false →
    let x := s.window w
    ((p.flags = 0 ∧ x.opened = false) ∨ (x.size = 0 ∧ p.flags.toNat < 4) →
      exec (.streamPacket p) s = .next (s.modWindow w fun x => { x with errCount := satInc x.errCount }))
    ∧ (p.flags = 3 → x.opened = false → x.size ≠ 0 → p.a.toNat % 4 = 0 → p.a.toNat + p.payload.length ≤ x.size.toNat →
        x.base.toNat + p.a.toNat + p.payload.length ≤ tableStart → s.mem.wf = true →
        Completes (.streamPacket p) s fun t =>
          (∀ k (h : k < p.payload.length), t.fm (x.base.toNat + p.a.toNat + k) = p.payload[k])
          ∧ (∀ a, a < x.base.toNat + p.a.toNat ∨ x.base.toNat + p.a.toNat + p.payload.length ≤ a → t.fm a = s.fm a)
          ∧ t.window w = { x with seq := p.seq, opened := false, error := false, eobCount := satInc x.eobCount }
          ∧ t.layers = (gateEvent 1 (BitVec.ofNat 4 w.val) false s).layers
          ∧ (∀ v, v ≠ w → t.window v = s.window v) ∧ t.banks = s.banks ∧ t.safety = s.safety)
    ∧ (p.flags = 3 → x.opened = false → x.size ≠ 0 → x.size.toNat < p.a.toNat + p.payload.length →
        Completes (.streamPacket p) s fun t => t.mem = s.mem
          ∧ t.layers = (gateEvent 1 (BitVec.ofNat 4 w.val) true s).layers
          ∧ t.window w = { x with
              seq := p.seq, opened := false, error := false, eobCount := satInc x.eobCount, errCount := satInc x.errCount })

/-- BULK (R168, R116): a write inside field memory, and in the table area only where R116 allows it, stores its payload; one that
R116 refuses is dropped and counted, and the first of a frame is reported; another operation, an address that is no multiple of 4
and a range beyond field memory are discarded and counted; a read queues the bytes as READBACK under the tag of the request. With
FLAGS [0] each of them is answered with an EVENT BULK_ACK that says written, refused or discarded (Table 8-6). -/
def Obligations.BulkAccess : Prop :=
  ∀ (p : Packet) (s : State), s.svhReceives = true → packetWhole p = true → p.kind = 2 → p.gap = [] →
    p.payload.length ≤ 2048 → p.payload.length % 4 = 0 → p.flags = 0 ∨ p.flags = 1 → p.info.toNat < 256 →
    let a := p.a.toNat
    let n := p.payload.length
    let ack (status : Byte) : Event := ⟨3, s.svh.eventSeq, bytes16 p.seq ++ [status, 0] ++ bytes32 p.a ++ zeros 8⟩
    let acked (status : Byte) (t : State) : Prop :=
      (p.flags = 0 → t.svh.events = s.svh.events)
      ∧ (p.flags = 1 → s.net.svh.eventMask.getLsbD 3 = true → s.svh.txPs ≠ 2 → s.svh.events.length < 64 →
          t.svh.events = s.svh.events ++ [ack status] ∧ t.svh.eventSeq = s.svh.eventSeq + 1)
    let counted := { s with pack := { s.pack with
      tableWriteRefused := satInc s.pack.tableWriteRefused, refusedThisFrame := true } }
    let discarded := { s with svh := { s.svh with frameErr := satInc s.svh.frameErr } }
    (p.info = 1 → a % 4 = 0 → a + n ≤ fmSize → (inTable a n = true → s.tableWriteOk false a n = true) → s.mem.wf = true →
      Completes (.bulkWrite p) s fun t =>
        (∀ k (h : k < n), t.fm (a + k) = p.payload[k]) ∧ (∀ x, x < a ∨ a + n ≤ x → t.fm x = s.fm x)
        ∧ acked 0 t ∧ t.mem.flash = s.mem.flash ∧ t.banks = s.banks ∧ t.safety = s.safety ∧ t.pack = s.pack
        ∧ t.svh.windows = s.svh.windows)
    ∧ (p.info = 1 → a % 4 = 0 → a + n ≤ fmSize → inTable a n = true → s.tableWriteOk false a n = false →
      Completes (.bulkWrite p) s fun t => acked 1 t
        ∧ (s.pack.refusedThisFrame = false → t.quiet = (report1 0x30 0x19 0xFF counted).quiet)
        ∧ (s.pack.refusedThisFrame = true → t.quiet = counted.quiet))
    ∧ (p.info ≠ 1 ∨ a % 4 ≠ 0 ∨ fmSize < a + n →
      Completes (.bulkWrite p) s fun t => acked 2 t ∧ t.quiet = discarded.quiet)
    ∧ (∀ (k : Nat) (tag : U16), p.b = w32 (tag.toNat * 2 ^ 16 + k) → k < 4096 →
      (p.info = 2 → p.length = 0 → a % 4 = 0 → 4 ≤ k → k ≤ 2048 → k % 4 = 0 → a + k ≤ fmSize →
        Completes (.bulkRead p) s fun t => acked 0 t
          ∧ t.svh.readbacks = s.svh.readbacks ++ [⟨tag, p.a, s.fmRead a k⟩] ∧ t.mem = s.mem
          ∧ (s.badWords a k = [] → t.quiet = { s with svh := { s.svh with readbacks := t.svh.readbacks } }.quiet))
      ∧ (p.info ≠ 2 ∨ p.length ≠ 0 ∨ a % 4 ≠ 0 ∨ k < 4 ∨ 2048 < k ∨ k % 4 ≠ 0 ∨ fmSize < a + k →
        Completes (.bulkRead p) s fun t => acked 2 t ∧ t.quiet = discarded.quiet))

/-- QUICK (R97 to R101, R96): a packet whose sequence does not advance is dropped; an accepted one makes the channel fresh and
takes its records in order: a BOX becomes the LIVE version of its ID, a record that fails R100 is counted, a LEVEL sets the
leveling target within ±4096. A box leaves LIVE at its hold time, into RETAIN where a gate sample has seen it (R109); a channel
without packets for QUICK_STALE is stale, counted and reported once (R110). -/
def Obligations.QuickRecords : Prop :=
  (∀ (p : Packet) (b : List Byte) (s : State), s.svhReceives = true → packetWhole p = true → p.kind = 3 → p.gap = [] →
    headerReserved p = false →
    p.payload = [1, 1] ++ slice p.payload 2 2 ++ [0, 0, 0, 0] ++ slice p.payload 8 8 ++ b → b.length = 16 →
    let seq := u16At p.payload 2
    let fresh (t : State) := t.stamp.lastSeq = seq ∧ t.stamp.accepted = satInc s.stamp.accepted
      ∧ t.stamp.acceptedAt = some s.clock ∧ t.stamp.stale = false
    (s.stamp.stale = false → seq = s.stamp.lastSeq →
      exec (.quickPacket p) s = .next { s with stamp := { s.stamp with dropped := satInc s.stamp.dropped } })
    ∧ (s.stamp.stale = true ∨ seq = s.stamp.lastSeq + 1 →
      (boxOk b = true → byteAt b 0 = 1 → Completes (.quickPacket p) s fun t => fresh t
        ∧ (∃ v, t.stamp.live[boxId b] = some v ∧ v.azLeft = u16At b 4 ∧ v.azRight = u16At b 6 ∧ v.elTop = u16At b 8
            ∧ v.elBottom = u16At b 10 ∧ v.capture = u64At p.payload 8 ∧ v.acceptedAt = s.clock)
        ∧ (∀ id : Fin 64, id ≠ boxId b → t.stamp.live[id] = s.stamp.live[id] ∧ t.stamp.retain[id] = s.stamp.retain[id])
        ∧ t.stamp.boxRejected = s.stamp.boxRejected ∧ t.warp = s.warp)
      ∧ (byteAt b 0 = 1 → boxOk b = false → Completes (.quickPacket p) s fun t => fresh t
        ∧ t.stamp.boxRejected = satInc s.stamp.boxRejected ∧ t.stamp.live = s.stamp.live ∧ t.stamp.retain = s.stamp.retain
        ∧ t.warp = s.warp)
      ∧ (∀ v : U16, -4096 ≤ v.toInt → v.toInt ≤ 4096 → b = [3, 0, 0, 0] ++ bytes16 v ++ zeros 10 →
        Completes (.quickPacket p) s fun t => fresh t ∧ t.stamp.live = s.stamp.live
          ∧ t.warp = { s.warp with level := v, levelAt := some s.clock, levelEpisode := false })))
  ∧ (∀ (id : Fin 64) (v : BoxVersion) (s : State), s.stamp.live[id] = some v → s.inTicket (.boxExpiry id) →
    Completes (.boxExpiry id) s fun t =>
      t.clock = max s.clock (v.acceptedAt + 800000 * s.stamp.boxHold.toNat)
      ∧ t.stamp.live[id] = none ∧ (∀ k : Fin 64, k ≠ id → t.stamp.live[k] = s.stamp.live[k])
      ∧ (let s1 := s.at_ (v.acceptedAt + 800000 * s.stamp.boxHold.toNat)
         let taken := s1.stamp.samples + (if s1.frame.gate.isSome then 1 else 0)
         (v.sinceSample = taken → t.stamp.retain = s.stamp.retain) ∧ (v.sinceSample ≠ taken → (t.stamp.retain[id]).isSome = true)))
  ∧ (∀ (e : Nat) (s : State), s.stamp.acceptedAt = some e → s.stamp.stale = false → s.inTicket .quickChannelStale →
    let s1 := s.at_ (e + 800000 * s.stamp.quickStale.toNat)
    exec .quickChannelStale s = .next (report1 0x19 0x08 0xFF { s1 with stamp := { s1.stamp with
      stale := true, staleCount := satInc s1.stamp.staleCount } }))
  ∧ (∀ s : State, s.stamp.stale = true → exec .quickChannelStale s = .next s)


/-- The Svarn-H link (R170, R182, R187): link-up locks the lanes in power state RUN and IDLE; receive lanes idle in L1 and come
back without training; from L2 the link is down; a loss of lock and RETRAIN take the link down and are counted, the loss with
class 1 and unit 0x30; a transmitter stopped for a power-state entry is not trained (R355). LANES_LOCKED in L1 and the quiet entry into L2 are the model's reading (log entry 60). -/
def Obligations.SvarnHLink : Prop :=
  ∀ s : State,
    (s.aon.held = false → s.net.served = true → s.safety.power = .run ∨ s.safety.power = .idle →
      exec .svarnHLinkUp s = .next { s with svh := { s.svh with linkUp := true, lanesLocked := 0xF, rxPs := 0 } })
    ∧ (s.svh.linkUp = true →
      exec (.svarnHRxIdleEntry false) s = .next { s with svh := { s.svh with rxPs := 1, lanesLocked := 0 } }
      ∧ exec (.svarnHRxIdleEntry true) s = .next { s with svh := { s.svh with rxPs := 2, lanesLocked := 0, linkUp := false } })
    ∧ (s.svh.linkUp = true → s.svh.rxPs = 1 →
      exec .svarnHRxIdleExit s = .next { s with svh := { s.svh with rxPs := 0, lanesLocked := 0xF } })
    ∧ (s.svh.linkUp = true → s.svh.rxPs = 0 →
      exec .svarnHLinkLoss s = .next (report1 0x30 0x0C 0xFF { s with svh := { s.svh with
        linkUp := false, lanesLocked := 0, retrainCount := satInc s.svh.retrainCount } }))
    ∧ (∀ (r : Requester) (ps : BitVec 2), s.takes r 0x4800 1 4 (ps.toNat * 2 ^ 8 + 1) = true →
      let q := writeOf r 0x4800 1 4 (ps.toNat * 2 ^ 8 + 1)
      (s.blockStopped 7 = true → Refuses (.svhRetrain r ps) q .stateConflict s)
      ∧ (s.blockStopped 7 = false → ps = 3 → Refuses (.svhRetrain r ps) q .valueRange s)
      ∧ (s.blockStopped 7 = false → ps ≠ 3 → Writes (.svhRetrain r ps) q s
          { s with
            svh := { s.svh with
              txPs := ps, linkUp := false, lanesLocked := 0, retrainCount := satInc s.svh.retrainCount }
            power := { s.power with idledTx := false } }))


/-! ### Svarn-E (chapters 8 and 10) -/

/-- TRAINING_ATTEMPT and TRAINING_RETRY (R177 to R180, Table 8-12): an attempt runs on a link that trains or was lost. Without a
locked return lane, without STATUS, with a descriptor that fails a check, and with another serial number it fails with its result
and the link waits, or becomes FAILED after the last attempt; a different tile is reported and stays denied. After STATUS the
sixteen descriptor pages are asked for by DESC_READ. A good attempt brings the link UP with TIMING, a second one for a FRAME_DIV
that a frame slot has seen (R173), RESUME for a tile in limp that may leave it, and PARK; the lanes then take the states of
SVE_CTRL (R182). The next attempt comes 500 µs later; none comes while the lanes idle in L1 (R183). Sector switches and
temperatures at UP are the model's reading (log entry 62), and that L2 in SVE_CTRL then takes the link DOWN is its choice (log
entry 63). -/
def Obligations.TrainingAttempts : Prop :=
  ∀ (n : Fin 2) (o : TrainObs) (s : State),
    let l := s.link n
    let starts := ((l.state = .training ∧ l.waiting = false) ∨ l.state = .lost) ∧ l.fwdPs = 0 ∧ l.retPs = 0
    let last := decide (l.trainAttempts.toNat ≤ l.attempt + 1)
    let asked : State := (List.range 16).foldl (fun t k => sendCmd n 6 [BitVec.ofNat 8 k] t) s
    let failed (r : Byte) : State := (if 3 ≤ r then asked else s).modLink n fun l => { l with
      state := if last then .failed else .training, waiting := !last, attempt := l.attempt + 1
      retrainCount := satInc l.retrainCount, trainResult := r, fwdPs := if last then 2 else 0, retPs := 0, failedAt := s.clock
      leavesL2 := l.leavesL2 && !last }
    let found := descriptorResult o.descriptor
    let good := o.locked = true ∧ o.answered = true ∧ found = 0
    (¬starts → exec (.trainingAttempt n o) s = .next s)
    ∧ (starts → o.locked = false → exec (.trainingAttempt n o) s = .next (failed 1))
    ∧ (starts → o.locked = true → o.answered = false → exec (.trainingAttempt n o) s = .next (failed 2))
    ∧ (starts → o.locked = true → o.answered = true → found ≠ 0 → exec (.trainingAttempt n o) s = .next (failed found))
    ∧ (starts → good → l.everUp = true → (u64At o.descriptor 0xC ≠ l.serial ∨ byteAt o.descriptor 6 ≠ l.kind) →
        exec (.trainingAttempt n o) s = .next (report (unitTile n) 0x0D (BitVec.ofNat 8 n.val)
          (if s.safety.lamp ∈ [.recovery, .test, .parked] then 1 else 3) {}
          ((failed 6).modLink n fun l => { l with denied := true })))
    ∧ (starts → good → (l.everUp = true → u64At o.descriptor 0xC = l.serial ∧ byteAt o.descriptor 6 = l.kind) →
        Completes (.trainingAttempt n o) s fun t =>
          (t.link n).state = (if l.wantFwd = 2 ∨ l.wantRet = 2 then .down else .up)
          ∧ (t.link n).fwdPs = l.wantFwd ∧ (t.link n).retPs = l.wantRet
          ∧ (t.link n).trainResult = 0 ∧ (t.link n).descriptor = o.descriptor
          ∧ (t.link n).retrainCount = satInc l.retrainCount ∧ (t.link n).running = false
          ∧ (t.tileDiag n).committed = false
          ∧ (∃ a b c e f more, (t.link n).cmds = (asked.link n).cmds
              ++ [⟨7, a, leBytes 4 (subframeNs s.frame.divUsed) ++ bytes32 s.frame.number⟩]
              ++ (if s.frame.divSeen = s.frame.divUsed then []
                  else [⟨7, e, leBytes 4 (subframeNs s.frame.divSeen) ++ bytes32 (s.frame.nextNumber.getD (s.frame.number + 1))⟩])
              ++ (if o.limp && s.limpHigh then [⟨8, b, []⟩] else []) ++ [⟨1, c, []⟩] ++ more
              ++ (if l.wantRet = 1 ∨ l.wantRet = 3 then [⟨0xA, f, [if l.wantRet = 1 then 1 else 0]⟩] else [])
              ∧ (s.gorse = false → more = []))
          ∧ (∀ m, m ≠ n → t.link m = s.link m) ∧ t.banks = s.banks ∧ t.mem = s.mem ∧ t.safety = s.safety
          ∧ (s.meshValid n = true ∨ (s.tileDiag n).stuck = [] → t.faults = s.faults))
    ∧ (l.state = .training ∧ l.waiting = true → s.inTicket (.trainingRetry n) → exec (.trainingRetry n) s =
        .next ((s.at_ (l.failedAt + 400000)).modLink n fun l => { l with waiting := false }))
    ∧ (¬(l.state = .training ∧ l.waiting = true) → exec (.trainingRetry n) s = .next s)

/-- RETRAIN, link loss and the RUN of a link that came UP (R182, R183, R186, R402). RETRAIN starts a new series of attempts;
lanes idle by command only in PARKED. A loss takes the link LOST, reported with class 3 and with class 1 in TEST, PARKED and
RECOVERY; a silent tile is lost LOSS_TIMEOUT after its last return packet. A tile that is to be lit receives RUN once its link is
UP with its lanes in L0, its list whole, and no lane on its way back from L2. L2 of either direction taking the link DOWN is the
model's reading (log entry 63), and that a TAG counts up by one and passes over 0 is its choice (log entry 115). -/
def Obligations.LanesAndLoss : Prop :=
  ∀ (n : Fin 2) (s : State),
    let l := s.link n
    (∀ (r : Requester) (fwd ret : BitVec 2),
      let q := writeOf r (0x4840 + 8 * n.val) 1 4 (fwd.toNat * 2 ^ 8 + ret.toNat * 2 ^ 4 + 1)
      s.accepts q = true →
      (s.blockStopped 2 = true → Refuses (.sveRetrain r n fwd ret) q .stateConflict s)
      ∧ ((fwd ≠ 0 ∨ ret ≠ 0) → ¬(s.safety.lamp = .parked ∧ l.running = false) →
        Refuses (.sveRetrain r n fwd ret) q .stateConflict s)
      ∧ ((fwd = 3 ∨ ret = 3) → s.safety.lamp = .parked → l.running = false → s.blockStopped 2 = false →
        Refuses (.sveRetrain r n fwd ret) q .valueRange s)
      ∧ (fwd ≠ 3 → ret ≠ 3 → (fwd = 0 ∧ ret = 0 ∨ s.safety.lamp = .parked ∧ l.running = false) → s.blockStopped 2 = false →
        Writes (.sveRetrain r n fwd ret) q s ((s.modLink n fun l => { l with
          trainResult := if l.state = .training ∧ l.waiting = false then 7 else l.trainResult
          state := .training, waiting := false, attempt := 0, fwdPs := 0, retPs := 0, running := false, lit := false, runDue := false
          sync := none, band := none, echo := none, ctrl := w32 (fwd.toNat * 2 ^ 8 + ret.toNat * 2 ^ 4) }).modCur n fun c =>
            { c with bandNow := .replicate 32 0, bandNext := none })))
    ∧ (∀ lockLost : Bool,
      (¬(l.isUp = true ∧ l.awake = true) → exec (.svarnELinkLoss n lockLost) s = .next s)
      ∧ (l.isUp = true → l.awake = true → s.inTicket (.svarnELinkLoss n lockLost) →
        let s1 := if lockLost then s else s.at_ (l.lastReturn + 800 * l.lossTimeout.toNat)
        Completes (.svarnELinkLoss n lockLost) s fun t => t.quiet =
          (report (unitLink n) 0x0C 0xFF (if s.safety.lamp ∈ [.test, .parked, .recovery] then 1 else 3) {}
            ((s1.modLink n fun l => { l with
              state := .lost, attempt := 0, waiting := false, running := false, lit := false, runDue := false
              sync := none, band := none, echo := none }).modCur n fun c => { c with
                bandNow := .replicate 32 0, bandNext := none, filter := none })).quiet))
    ∧ (s.lightsTiles = true → s.safety.parkDue = false → s.limpHigh = true → s.mayRun n = true →
        exec (.tileAutoRun n) s = .next ((s.modLink n fun l => { l with
          cmds := l.cmds ++ [⟨2, l.cmdTag, []⟩], cmdTag := if l.cmdTag = 0xFFFF then 1 else l.cmdTag + 1
          slotsSinceCmd := 0, running := true, lit := false, runDue := false }).modCur n fun c => { c with
            bandNow := .replicate 32 0, bandNext := none }))
    ∧ (s.mayRun n = true ↔ l.isUp = true ∧ l.awake = true ∧ (l.replayed = true ∨ s.net.romOnly = true) ∧ l.running = false
        ∧ ∀ k, ¬((s.link k).state = .training ∧ (s.link k).leavesL2 = true))
    ∧ (s.lightsTiles = false ∨ s.mayRun n = false ∨ s.safety.parkDue = true ∨ s.limpHigh = false → exec (.tileAutoRun n) s = .next s)

/-- A return packet of a tile (R163, R186): nothing while the return lane idles (R182); one that fails its check is dropped and
counted, on a link that trains too, and its symbol errors for the lane (R159); a good one matters on a link that is UP alone;
TEMP, STATUS, DIAG and VF of a good packet feed R214, supervision, the writer of R193 and the ageing of R202. A STATUS that
reports LIMP where none is expected loses the link (R180), one that answers a thermal restart with PARK brings RUN (R348). That
of the header FLAGS alone is tested for reserved bits, and that a LIMP is expected from a thermal restart to its RESUME, are the
model's choices (log entry 120), and the TAG of RUN is (log entry 115). -/
def Obligations.ReturnPackets : Prop :=
  ∀ (n : Fin 2) (p : Packet) (s : State),
    let fed (s : State) : State := s.modLink n fun l => { l with lastReturn := s.clock }
    let lanes (l : Link) : U32 := BitVec.ofNat 32 (min (l.retLaneErr.toNat + (packetErrors p).length) 0xFFFFFFFF)
    (∀ c kind, (c, kind) ∈ [(Instr.echoReceive n p, (0x21 : Byte)), (.diagReceive n p, 0x22), (.vfReceive n p, 0x23),
        (.tempReceive n p, 0x24), (.statusReceive n p, 0x25)] →
      ((s.link n).retPs ≠ 0 → exec c s = .next s)
      ∧ ((s.link n).retPs = 0 → p.arrival ≠ .whole ∨ p.crc ≠ packetCheck p ∨ p.payload.length ≠ p.length.toNat
          ∨ p.kind < 0x21 ∨ 0x25 < p.kind →
        exec c s = .next (s.modLink n fun l => { l with retCrcErr := satInc l.retCrcErr, retLaneErr := lanes l }))
      ∧ (∀ lane d, (s.link n).retPs = 0 → p.arrival = .badSymbol lane d → p.gap = [] → exec c s = .next (s.modLink n fun l =>
          { l with retCrcErr := satInc l.retCrcErr, retLaneErr := satInc l.retLaneErr }))
      ∧ ((s.link n).retPs = 0 → (s.link n).isUp = false → packetWhole p = true → p.kind = kind → p.payload.length ≤ 4 →
          p.payload.length % 4 = 0 → p.flags = 0 →
        exec c s = .next (s.modLink n fun l => { l with retLaneErr := lanes l })))
    ∧ ((s.link n).isUp = true → (s.link n).retPs = 0 → packetWhole p = true → p.gap = [] → p.flags = 0 →
      (p.kind = 0x25 → p.info = 0 → p.payload.length = 32 → byteAt p.payload 0 ≠ 3 → (byteAt p.payload 6).getLsbD 0 = false →
        let shown : State := s.modLink n fun l => { l with
          lastReturn := s.clock, tileState := BitVec.ofNat 4 (byteAt p.payload 0).toNat
          fwdDropped := u32At p.payload 8, overTemp := false }
        let answers := (s.link n).runDue = true ∧ (BitVec.ofNat 4 (byteAt p.payload 0).toNat : BitVec 4) = 1
          ∧ s.safety.lamp = .fallback ∧ s.mayRun n = true ∧ s.limpHigh = true
        (¬answers → exec (.statusReceive n p) s = .next shown)
        ∧ (answers → exec (.statusReceive n p) s = .next ((shown.modLink n fun l => { l with
            cmds := l.cmds ++ [⟨2, l.cmdTag, []⟩], cmdTag := if l.cmdTag = 0xFFFF then 1 else l.cmdTag + 1
            slotsSinceCmd := 0, running := true, lit := false, runDue := false }).modCur n fun c => { c with
              bandNow := .replicate 32 0, bandNext := none })))
      ∧ (p.kind = 0x25 → p.info = 0 → p.payload.length = 32 → byteAt p.payload 0 = 3 → (byteAt p.payload 6).getLsbD 0 = false →
        s.limpHigh = false ∨ (s.link n).limpExpected = true ∨ s.tsens.resumeDue = true →
        Completes (.statusReceive n p) s fun t => (t.link n).state = (s.link n).state ∧ (t.link n).tileState = 3
          ∧ t.faults = s.faults ∧ t.safety = s.safety)
      ∧ (p.kind = 0x25 → p.info = 0 → p.payload.length = 32 → byteAt p.payload 0 = 3 → s.limpHigh = true →
        (s.link n).limpExpected = false → s.tsens.resumeDue = false →
        Completes (.statusReceive n p) s fun t => (t.link n).state = .lost ∧ (t.link n).running = false
          ∧ (∀ m, m ≠ n → t.link m = s.link m) ∧ t.banks = s.banks ∧ t.mem = s.mem ∧ t.safety = s.safety)
      ∧ (∀ v0 v1 v2 v3 : U16, p.kind = 0x24 → p.payload = bytes16 v0 ++ bytes16 v1 ++ bytes16 v2 ++ bytes16 v3 →
        v0 ≠ 0x8000 → v1 ≠ 0x8000 → v2 ≠ 0x8000 → v3 ≠ 0x8000 → (s.tileDiag n).buildWait = false → (s.link n).descriptor ≠ [] →
        let top := max (max (max v0.toInt v1.toInt) v2.toInt) v3.toInt
        let taken (episode : Bool) : State := (fed s).modCur n fun c => { c with
          tempSeen := true, tempRun := 0, tempEpisode := false, tempMax := BitVec.ofInt 16 top
          tempMean := BitVec.ofInt 16 (Int.tdiv (v0.toInt + v1.toInt + v2.toInt + v3.toInt) 4), maxEpisode := episode }
        (top < (s.link n).tMax → exec (.tempReceive n p) s =
          .next (taken ((s.cur n).maxEpisode && decide ((s.link n).tDerate ≤ top))))
        ∧ ((s.link n).tMax ≤ top → (s.cur n).maxEpisode = false →
          exec (.tempReceive n p) s = .next (report (unitTile n) 0x10 0xFF 2 {} (taken true))))
      ∧ (∀ (x : Pos), p.kind = 0x22 → x.ok (s.link n).kind = true → p.info ≠ 0 →
        p.payload = bytes32 (posWord x ||| 0x80) → s.mem.wf = true →
        let base := fmapWorking n
        let i := x.index (s.link n).kind
        s.mapCode base i = 0 →
        Completes (.diagReceive n p) s fun t => t.mapCode base i = 1 ∧ (∀ j, j ≠ i → t.mapCode base j = s.mapCode base j)
          ∧ (∀ a, a < base ∨ base + 0x80000 ≤ a → t.fm a = s.fm a) ∧ t.banks = s.banks ∧ t.layers = s.layers
          ∧ t.tileDiag n = s.tileDiag n)
      ∧ (∀ (i : Fin 16) (b : List (List Nat)) (v : U16), p.kind = 0x23 → s.gorse = true →
        vfSector (s.link n) p.payload = some i.val →
        (s.tileDiag n).agePending.getLsbD i.val = true → (s.tileDiag n).ageBaseline = false →
        (s.tileRecord n).bind TileRecord.baseline = some b → p.payload.length ≤ 256 → p.payload.length % 4 = 0 →
        s.dvfOf n i.val (b.getD i.val []) (sectorSamples (s.link n) i.val p.payload) = some v →
        exec (.vfReceive n p) s = .next ((fed s).modDiag n fun d => { d with
          agePending := d.agePending &&& ~~~(BitVec.ofNat 16 (2 ^ i.val)), ageDvf := vput d.ageDvf i v })))

/-- Stile's comparisons (R227 to R229, R231). An ECHO: the first ECHO in time is compared with the expected value, the device's frame and the LATCH;
at the deadline a wait without a required ECHO simply ends, and one whose rectangle requires it counts its mismatch, a late one
also as late, for the rectangle and for the tile. A signature: the codes that a render gives a rectangle of one band, of Sward or of the store,
are compared with the expected value of the subframe, both under the frame number; a match ends the run of mismatches, a
difference adds to it and to its count, and for a store rectangle that holds for a tile whose link is not UP too. INDEX and the comparison of INFO are the model's reading (log entry 66). -/
def Obligations.Echoes : Prop :=
  (∀ (n : Fin 2) (s : State) (e : EchoWait), (s.link n).echo = some e → (s.link n).isUp = true →
    (∀ p : Packet, (s.link n).retPs = 0 → packetWhole p = true → p.kind = 0x21 → p.gap = [] → p.flags = 0 → p.payload.length = 4 → e.got = none →
      s.clock ≤ e.at_ + 800 * s.stile.echoDeadline.toNat →
      exec (.echoReceive n p) s = .next (s.modLink n fun l => { l with
        lastReturn := s.clock
        echo := some { e with got := some (u32At p.payload 0 == e.expected && p.a == s.stile.frame
          && p.info == e.latch.setWidth 16) } }))
    ∧ (s.echoRects n e = [] → s.inTicket (.echoDeadline n) → exec (.echoDeadline n) s =
        .next ((s.at_ (e.at_ + 800 * s.stile.echoDeadline.toNat)).modLink n fun l => { l with echo := none }))
    ∧ (∀ (r : Fin 32) (x : RectRec), s.echoRects n e = [r] → e.source = .sward → x = zoneRect s.zoneSet r.val →
        e.got ≠ some true → s.stile.run[r] + 1 < x.missLimit.toNat → s.inTicket (.echoDeadline n) →
        Completes (.echoDeadline n) s fun t =>
          t.clock = max s.clock (e.at_ + 800 * s.stile.echoDeadline.toNat) ∧ (t.link n).echo = none
          ∧ t.stile.run[r] = s.stile.run[r] + 1 ∧ t.stile.miss[r] = satInc s.stile.miss[r]
          ∧ t.stile.echoMismatch[n] = satInc s.stile.echoMismatch[n]
          ∧ t.stile.echoLate[n] = (if e.got = none then satInc s.stile.echoLate[n] else s.stile.echoLate[n])
          ∧ (∀ k : Fin 32, k ≠ r → t.stile.run[k] = s.stile.run[k] ∧ t.stile.miss[k] = s.stile.miss[k])
          ∧ t.faults = s.faults ∧ t.banks = s.banks ∧ t.mem = s.mem ∧ t.safety = s.safety))
  ∧ (∀ (j : Fin 68) (s : State) (n : Fin 2) (b : Nat) (sub : Bool) (r : Fin 32), s.rendersClear → renderOf j.val = some (b, sub) →
    (let kind := (s.link n).kind
     let x := zoneRect s.zoneSet r.val
     r.val < rectCount s.zoneSet → x.inBand n kind b sub = true → x.firstBand kind = b → x.lastBand kind = b →
     (s.link n).isUp = true → (s.link n).denied = false → s.swardOn = true → s.meshValid n = true → s.rectFenced n x = false →
     Completes (.frameSlotStart j clearSlot) s fun t =>
       let found := crc32cOf (x.bandPart kind b ((s.gated j).renderBand 0 [] n b sub).codes) ^^^ fold32 s.frame.number
       let good := found = x.expected sub ^^^ fold32 s.stile.frame
       t.stile.result[r] = found ∧ t.stile.run[r] = (if good then 0 else s.stile.run[r] + 1)
       ∧ t.stile.miss[r] = (if good then s.stile.miss[r] else satInc s.stile.miss[r]))
    ∧ (let kind := hedgeKind s.hedge.image n.val
     let x := hedgeRect s.hedge.image r.val
     s.hedge.verified = true → r.val < s.hedge.rects.toNat → x.inBand n kind b sub = true → x.firstBand kind = b →
     x.lastBand kind = b → s.tsens.stopped = false → ((s.link n).isUp = true → (s.link n).kind = kind) →
     Completes (.frameSlotStart j clearSlot) s fun t =>
       let found := crc32cOf (x.bandPart kind b (hedgeCodes s.hedge.image [] n.val b (bandCodes kind) sub)) ^^^ fold32 s.frame.number
       let good := found = x.expected sub ^^^ fold32 s.stile.frame
       t.stile.hRun[r] = (if good then 0 else s.stile.hRun[r] + 1)
       ∧ t.stile.hMiss[r] = (if good then s.stile.hMiss[r] else satInc s.stile.hMiss[r])))

/-! ### fault maps, calibration and ageing (chapter 9) -/

/-- FMAP_CTRL (R195, R196): COMMIT copies the working map and keeps the CRC of what it copied, or marks a commit due while a copy
runs; RETIRE makes a NORMAL or DIM emitter RETIRED and leaves a graver code; CLEAR in PARKED empties the working map and the
tile's list in Cairn. No other byte of field memory changes. A stopped Gorse takes no COMMIT
(R355). What a copy takes, and when its verification enters the jobs of channel 0, are the model's reading (log entries 56 and
119). -/
def Obligations.FaultMapCommands : Prop :=
  ∀ (r : Requester) (n : Fin 2) (s : State), s.mem.wf = true →
    let kind := (s.link n).kind
    let len := mapBytes kind
    let work := fmapWorking n
    let q (k : Nat) := writeOf r (0x5010 + n.val) 1 4 k
    (s.accepts (q 1) = true → s.blockStopped 5 = true → Refuses (.fmapCommit r n) (q 1) .stateConflict s)
    ∧ (s.accepts (q 1) = true → s.blockStopped 5 = false →
      ((s.tileDiag n).copying = true →
        Writes (.fmapCommit r n) (q 1) s (s.modDiag n fun d => { d with commitDue := true }))
      ∧ ((s.tileDiag n).copying = false → Completes (.fmapCommit r n) s fun t => t.wroteDone (q 1)
        ∧ (∀ k, k < len → t.fm (fmapVerified n + k) = s.fm (work + k))
        ∧ (∀ a, a < fmapVerified n ∨ fmapVerified n + len ≤ a → t.fm a = s.fm a)
        ∧ t.tileDiag n = { s.tileDiag n with
            copying := true, commitDue := false, copyCrc := crc32cOf (s.fmRead work len), valid := false
            goodAtCopy := (s.tileDiag n).good }
        ∧ t.mgmt.jobs = s.mgmt.jobs ++ [.fmap n]
        ∧ (∀ m, m ≠ n → t.tileDiag m = s.tileDiag m) ∧ t.mem.flash = s.mem.flash ∧ t.banks = s.banks
        ∧ t.layers = s.layers ∧ t.links = s.links ∧ t.safety = s.safety ∧ t.cairn = s.cairn))
    ∧ (∀ (x : BitVec 11) (y : BitVec 9) (e : BitVec 2),
      let p : Pos := { x := x, y := y, e := e }
      let i := p.index kind
      let qr := q (x.toNat * 2 ^ 21 + y.toNat * 2 ^ 12 + e.toNat * 2 ^ 10 + 2)
      s.accepts qr = true →
      (kind = 0xFF ∨ p.ok kind = false → Refuses (.fmapRetire r n x y e) qr .valueRange s)
      ∧ (kind ≠ 0xFF → p.ok kind = true → Completes (.fmapRetire r n x y e) s fun t => t.wroteDone qr
        ∧ t.mapCode work i = (if s.mapCode work i = 0 ∨ 8 ≤ s.mapCode work i then 4 else s.mapCode work i)
        ∧ (∀ j, j ≠ i → t.mapCode work j = s.mapCode work j)
        ∧ (∀ a, a < work ∨ work + 0x80000 ≤ a → t.fm a = s.fm a)
        ∧ t.diag = s.diag ∧ t.banks = s.banks ∧ t.layers = s.layers ∧ t.links = s.links ∧ t.safety = s.safety))
    ∧ (s.accepts (q 3) = true →
      (s.safety.lamp ≠ .parked → Refuses (.fmapClear r n) (q 3) .stateConflict s)
      ∧ (s.safety.lamp = .parked → s.cairn.failing = false → Completes (.fmapClear r n) s fun t => t.wroteDone (q 3)
        ∧ (∀ a, t.fm a = if work ≤ a ∧ a < work + 0x80000 then 0 else s.fm a)
        ∧ t.tileDiag n = { s.tileDiag n with listFull := false }
        ∧ t.cairn.tiles = s.cairn.tiles.map (fun x => if x.serial == (s.link n).serial then { x with faults := [] } else x)
        ∧ (∀ m, m ≠ n → t.tileDiag m = s.tileDiag m) ∧ t.mem.flash = s.mem.flash ∧ t.banks = s.banks
        ∧ t.layers = s.layers ∧ t.links = s.links ∧ t.safety = s.safety ∧ t.faults = s.faults))

/-- The end of a fault-map copy and the replay (R193, R195, R196): a copy that verifies, as a job of channel 0 in its turn (R121),
becomes the map with the next version and the CRC taken at its start; a first mismatch repeats the copy, a second one is reported
with class 2, unit 0x1A; the replay sends the list of the tile's serial number through the writer, so that each emitter of the
working map holds the code that its entries give in their order, and commits. The lists of serial numbers that are no longer
fitted go, which a failing store reports (R385). An entry that stands for a code restores it on an emitter without one. What the
first commit after a replay appends (log entry 58), when a serial number counts as fitted, and that the verification is a job of
channel 0 (log entry 119) are the model's choices. -/
def Obligations.FaultMapCopies : Prop :=
  ∀ (n : Fin 2) (s : State),
    let d := s.tileDiag n
    let kind := (s.link n).kind
    (d.copying = false ∨ s.mgmt.jobs.head? ≠ some (.fmap n) → ∀ corrupt, exec (.fmapCopyEnd n corrupt) s = .next s)
    ∧ (∀ corrupt : List (Nat × Byte), d.copying = true → d.commitDue = false → (s.link n).descriptor ≠ [] →
      s.mgmt.jobs.head? = some (.fmap n) →
      let len := mapBytes kind
      let base := fmapVerified n
      let s0 : State := { s with mem := { s.mem with
        fm := corrupt.foldl (fun m c => if c.1 < len then cellPut fmReset m (base + c.1) c.2 else m) s.mem.fm } }
      let ok := s0.badIn base len = false ∧ crc32cOf (s0.fmRead base len) = d.copyCrc
      (ok → Completes (.fmapCopyEnd n corrupt) s fun t =>
        (t.tileDiag n).copying = false ∧ (t.tileDiag n).valid = true ∧ (t.tileDiag n).commitFailed = false
        ∧ (t.tileDiag n).version = d.version + 1 ∧ (t.tileDiag n).crc = d.copyCrc ∧ t.mgmt.jobs = s.mgmt.jobs.tail
        ∧ (∀ a, t.fm a = s0.fm a) ∧ t.layers = s.layers ∧ t.links = s.links ∧ t.safety = s.safety)
      ∧ (¬ok → d.repeated = false → Completes (.fmapCopyEnd n corrupt) s fun t =>
        (t.tileDiag n).copying = true ∧ (t.tileDiag n).commitFailed = true ∧ (t.tileDiag n).version = d.version
        ∧ t.mgmt.jobs = s.mgmt.jobs.tail ++ [.fmap n]
        ∧ t.banks = s.banks ∧ t.layers = s.layers ∧ t.links = s.links ∧ t.safety = s.safety)
      ∧ (¬ok → d.repeated = true → s.safety.power = .run → Completes (.fmapCopyEnd n corrupt) s fun t =>
        (t.tileDiag n).copying = false ∧ (t.tileDiag n).commitFailed = true ∧ (t.tileDiag n).version = d.version
        ∧ (∃ x ∈ t.faults.pending, x.unit = 0x1A ∧ 2 ≤ x.cls ∧ (0x1A, 0x1B, BitVec.ofNat 8 n.val, 2) ∈ x.causes)
        ∧ t.banks = s.banks ∧ t.layers = s.layers ∧ t.links = s.links ∧ t.safety = s.safety))
    ∧ (s.gorse = false ∨ (s.link n).descriptor = [] → exec (.faultMapReplay n) s = .next s)
    ∧ (s.gorse = true → (s.link n).descriptor ≠ [] → d.copying = false → Completes (.faultMapReplay n) s fun t =>
        let es := ((s.tileRecord n).map TileRecord.faults).getD []
        let work := fmapWorking n
        t.link n = { s.link n with replayed := true } ∧ (t.tileDiag n).copying = true
        ∧ (∀ m, m ≠ n → t.link m = s.link m ∧ t.tileDiag m = s.tileDiag m)
        ∧ (s.mem.wf = true → ∀ i, i < calWords kind →
            t.mapCode work i = es.foldl (fun c w =>
              if entryBad kind w = false ∧ (posOf w).index kind = i then
                entryCode s.diagCfg.dimRetire.toNat (fld w 7 3) (fld w 0 7) c
              else c) (s.mapCode work i))
        ∧ (s.cairn.failing = false →
            ∀ x ∈ t.cairn.tiles, x.faults = [] ∨ ∃ y ∈ s.cairn.tiles, y = x ∧ s.maybeFitted x.serial = true)
        ∧ (s.cairn.failing = true → t.cairn.tiles = s.cairn.tiles
            ∧ ((∃ x ∈ s.cairn.tiles, x.faults ≠ [] ∧ s.maybeFitted x.serial = false) → t.cairn.writeFailed = true))
        ∧ t.banks = s.banks ∧ t.layers = s.layers ∧ t.safety = s.safety)
    ∧ (∀ (i c : Nat), kind = 1 ∨ kind = 0 → i < calWords kind → (c ∈ [1, 2, 3] ∨ (c = 4 ∧ 0 < s.diagCfg.dimRetire.toNat)
          ∨ (8 ≤ c ∧ c ≤ 15 ∧ s.diagCfg.dimRetire.toNat ≤ 68 + 8 * (c - 8))) →
        let w := replayEntry kind i c
        entryBad kind w = false ∧ (posOf w).index kind = i
        ∧ entryCode s.diagCfg.dimRetire.toNat (fld w 7 3) (fld w 0 7) 0 = c)

/-- Calibration rebuilds (R125, R198 to R200): CAL_BUILD_START and FMAP_CTRL REBUILD queue behind a pending swap, wait for the
first temperature and the verified map, give up a build in progress, and otherwise open the bank and keep the inputs of the
build: TEMP_USED, the ageing factors, the codes of the verified map and the parameters;
the end of the build writes every word into the open bank and requests the swap. Each word has the base gain of R199, with the
ageing of its sector and the temperature of the build, and the row of Table 9-3. What a build waits for is the model's reading
(log entry 59); a gain that does not fit in 32 bits is left out of the last clause (log entry 23). -/
def Obligations.CalibrationBuilds : Prop :=
  ∀ (n : Fin 2) (s : State), s.gorse = true → (s.link n).descriptor ≠ [] →
    let d := s.tileDiag n
    let b := s.bank (calPair n)
    let i := b.inactive
    let waits := (s.cur n).tempMean = 0x8000 ∨ d.copying = true ∨ d.commitFailed = true
    let queued (code : BitVec 4) : State := s.modDiag n fun d => { d with lastTrigger := code, queued := true, buildWait := false }
    let waiting (code : BitVec 4) : State := s.modDiag n fun d => { d with
      lastTrigger := code, building := none, buildWait := true, queued := false }
    let window := fmapVerified n
    let len := mapBytes (s.link n).kind
    let c : CalBuild :=
      { temp := (s.cur n).tempMean.toInt, aa := s.sectorAa n, codes := s.codesOf window len, calset := true
        dimRetire := s.diagCfg.dimRetire.toNat, share := s.diagCfg.compShare.toNat, tcoef := s.diagCfg.tcoef.toNat }
    let started (code : BitVec 4) : State := (s.modBank (calPair n) fun b =>
      { b.setState i .opened with
        ctab0 := if i = 0 then 0 else b.ctab0, ctab1 := if i = 0 then b.ctab1 else 0, reverify := false }).modDiag n fun d => { d with
          lastTrigger := code, building := some c, lastBuild := some c, buildWait := false, queued := false, retried := false
          calsetMismatch := false }
    (∀ code : BitVec 4, code ∈ [1, 4, 5, 6, 7] →
      (b.pending = true → exec (.calBuildStart n code) s = .next (queued code))
      ∧ (b.pending = false → waits → exec (.calBuildStart n code) s = .next (waiting code))
      ∧ (b.pending = false → ¬waits → s.badWords window len = [] → s.calsetOk n = true → exec (.calBuildStart n code) s = .next (started code)))
    ∧ (s.ageTrigger n = false → exec (.calBuildStart n 2) s = .next s)
    ∧ (s.tempTrigger n = false → exec (.calBuildStart n 3) s = .next s)
    ∧ (∀ r : Requester,
      let q := writeOf r (0x5010 + n.val) 1 4 4
      s.accepts q = true →
      (s.blockStopped 5 = true → Refuses (.fmapRebuild r n) q .stateConflict s) ∧ (s.blockStopped 5 = false →
      (b.pending = true → Writes (.fmapRebuild r n) q s (queued 5))
      ∧ (b.pending = false → waits → Writes (.fmapRebuild r n) q s (waiting 5))
      ∧ (b.pending = false → ¬waits → s.badWords window len = [] → s.calsetOk n = true → Writes (.fmapRebuild r n) q s (started 5))))
    ∧ (d.building = none → exec (.calBuildComplete n) s = .next s)
    ∧ (∀ x : CalBuild, d.building = some x → b.state i = .opened → s.mem.wf = true →
      let base := (bankWindow (calPair n) i).1
      let size := 2 * calWords (s.link n).kind
      Completes (.calBuildComplete n) s fun t =>
        (t.tileDiag n).building = none
        ∧ (t.bank (calPair n)).state i = .verifying ∧ (t.bank (calPair n)).pending = true
        ∧ (t.bank (calPair n)).state (1 - i) = b.state (1 - i) ∧ t.mgmt.jobs = s.mgmt.jobs ++ [.bank (calPair n)]
        ∧ t.fmRead base size = (List.range (calWords (s.link n).kind)).flatMap (fun k =>
            leBytes 2 (s.buildWord n x (posAt (s.link n).kind k)).1)
        ∧ (∀ (X Y E : Nat), X < gridX (s.link n).kind → Y < gridY (s.link n).kind → E < emitters (s.link n).kind →
            let k := wordIndex (s.link n).kind X Y E
            let factory := x.factoryWord s n k
            let aa := x.aa.getD (sectorOf (s.link n) X Y) 65536
            let ab := (max 32768 (65536 + Int.tdiv (x.tcoef * (x.temp - 250)) 10)).toNat
            let a := (aa * ab + 32768) / 65536
            let gain := (factory / 16 * a + 32768) / 65536
            a < 2 ^ 32 → gain < 2 ^ 32 →
            CalWordHolds x.dimRetire x.share (x.codeOf k) (factory % 16) gain (x.deadAround s n X Y E) (le (t.fmRead (base + 2 * k) 2)))
        ∧ (∀ a, a < base ∨ base + size ≤ a → t.fm a = s.fm a)
        ∧ (∀ p, p ≠ calPair n → t.bank p = s.bank p) ∧ t.layers = s.layers ∧ t.safety = s.safety)

/-- SCAN_PERIOD and AGE_PERIOD (R197, R202): the next unfenced sector of each tile that is UP is scanned, in turn, unless the
lamp is PARKED or OFF; an ageing round samples every sector of a tile within 5 °C of its baseline's temperature. The TAG of a
command, one more than that of the last and never 0, is the model's choice (log entry 115). -/
def Obligations.PeriodicDiagnostics : Prop :=
  ∀ s : State,
    (s.gorse = false ∨ s.safety.lamp = .parked ∨ s.safety.lamp = .off → exec .scanPeriodExpiry s = .next s)
    ∧ (s.gorse = true → s.safety.lamp ≠ .parked → s.safety.lamp ≠ .off → Completes .scanPeriodExpiry s fun t =>
      (∀ n : Fin 2,
        let l := s.link n
        let next := nextSector (l.allSectors &&& ~~~(s.fencedSectors n)) (sectorCount l.descriptor)
          (s.tileDiag n).nextScan.toNat
        (∀ i, l.isUp = true → next = some i →
          t.link n = { l with
            cmds := l.cmds ++ [⟨4, l.cmdTag, bytes16 (w16 (2 ^ i)) ++ [7]⟩]
            cmdTag := if l.cmdTag = 0xFFFF then 1 else l.cmdTag + 1 }
          ∧ t.tileDiag n = { s.tileDiag n with nextScan := BitVec.ofNat 4 ((i + 1) % sectorCount l.descriptor) })
        ∧ (l.isUp = false ∨ next = none → t.link n = l ∧ t.tileDiag n = s.tileDiag n))
      ∧ t.mem = s.mem ∧ t.banks = s.banks ∧ t.layers = s.layers ∧ t.safety = s.safety ∧ t.faults = s.faults)
    ∧ (s.gorse = false → exec .agePeriodExpiry s = .next s)
    ∧ (s.gorse = true → Completes .agePeriodExpiry s fun t =>
      (∀ n : Fin 2,
        let l := s.link n
        let base := (s.tileDiag n).ageBaseTemp
        let mean := (s.cur n).tempMean
        let near := l.isUp = true ∧ base ≠ 0x8000 ∧ mean ≠ 0x8000 ∧ (mean.toInt - base.toInt).natAbs ≤ 50
        (near → t.tileDiag n = { s.tileDiag n with agePending := l.allSectors, ageBaseline := false }
          ∧ (∃ more, (t.link n).cmds = l.cmds ++ more ∧ more.length = sectorCount l.descriptor
            ∧ ∀ x ∈ more, x.opcode = 5 ∧ x.params.length = 132))
        ∧ (¬near → t.link n = l ∧ t.tileDiag n = s.tileDiag n))
      ∧ t.mem = s.mem ∧ t.banks = s.banks ∧ t.layers = s.layers ∧ t.safety = s.safety ∧ t.faults = s.faults)

/-! ### currents, temperatures and limits (chapters 7, 9, 17) -/

/-- The governor and the supply limit (R19, R212, R213, R345, R370). GOVERNOR_COMPUTE forms each tile's scale from the budget and
the values of the last complete frame; a third frame without a scale is reported with class 2, unit 0x1B, and caps the tile. A poll
reads the limit and the status word: a read replaces the value, a failed one is counted and reported, and the third in a row
gives up the limit; a new status word that is not zero is reported. That failed reads of either word count in one run is the model's choice (log entry 118). A limit that is no whole mA is free (log entry 24). -/
def Obligations.GovernorAndSupply : Prop :=
  ∀ s : State,
    (s.gorse = false → exec .governorCompute s = .next s)
    ∧ (s.gorse = true → Completes .governorCompute s fun t =>
      (∀ n : Fin 2,
        let c := s.cur n
        let l := s.link n
        let limit := s.pmbusLimit n
        let junction := junctionLimit limit s.tsens.jdFloor s.tsens.tj.toInt
        let top := c.tempMax.toInt
        let qui : Int := c.frameQui
        let span := l.tMax - l.tDerate
        let derate := if l.descriptor = [] ∨ c.tempMax = 0x8000 ∨ top < l.tDerate then limit.toNat
          else if l.tMax ≤ top then c.frameQui / 1000000
          else ((qui * span + (1000000 * (limit.toNat : Int) - qui) * (l.tMax - top)) / (1000000 * span)).toNat
        let budget := min limit.toNat (min junction derate)
        (c.frameG = none → t.cur n = c)
        ∧ (∀ g : U16, c.frameG = some g →
          let room := budget * 1000000 - c.frameQui
          let target := if c.frameSum = 0 then 0x8000 else min 0x8000 (g.toNat * room / c.frameSum)
          let new := if target < g.toNat then target else min target (g.toNat + s.diagCfg.govRise.toNat)
          let capped := if s.raised (unitTile n) 0x0F 2 then min new 0x4000 else new
          t.cur n = { c with
            pmbusLimit := limit, derateLimit := w32 derate, budget := w32 budget, govNext := w16 capped, govFresh := true }))
      ∧ t.links = s.links ∧ t.banks = s.banks ∧ t.mem = s.mem ∧ t.safety = s.safety ∧ t.faults = s.faults)
    ∧ (∀ n : Fin 2,
      ((s.cur n).govAge < 3 → exec (.governorScaleMissing n) s = .next s)
      ∧ (3 ≤ (s.cur n).govAge → exec (.governorScaleMissing n) s =
          .next (report 0x1B 0x0B (w8 n.val) 2 { half := BitVec.ofNat 2 (2 ^ n.val) } s)))
    ∧ (∀ (n : Fin 2) (limit status : Option U16),
      (s.power.pmbAddr[n] = 0 ∨ s.safety.power ∉ [.run, .idle] → exec (.pmbusPoll n ⟨limit, status⟩) s = .next s)
      ∧ (s.power.pmbAddr[n] ≠ 0 → s.safety.power ∈ [.run, .idle] → Completes (.pmbusPoll n ⟨limit, status⟩) s fun t =>
        let before := if limit.isSome then 0 else satInc8 s.power.pmbFails[n]
        let after := if status.isSome then 0 else satInc8 before
        let lost := (limit = none ∧ 3 ≤ satInc8 s.power.pmbFails[n]) ∨ (status = none ∧ 3 ≤ after)
        let errors := natOfBool limit.isNone + natOfBool status.isNone
        let found := ∃ w, status = some w ∧ w ≠ 0 ∧ (w ≠ s.power.pmbStatus[n] ∨ s.power.pmbSeen[n] = false)
        t.power.pmbFails[n] = after ∧ t.power.pmbErrCount = satAdd s.power.pmbErrCount errors
        ∧ t.power.pmbStatus[n] = status.getD s.power.pmbStatus[n]
        ∧ (t.cur n).pmbusGood = (if lost then none else match limit with
            | some w => some (linear11 w)
            | none => (s.cur n).pmbusGood)
        ∧ (t.cur n).pmbusLimit = ((t.cur n).pmbusGood).getD s.diagCfg.pmbusDefault
        ∧ (errors = 0 → ¬found → t.faults = s.faults)
        ∧ (errors ≠ 0 ∨ found → ∃ x ∈ t.faults.pending, x.unit = 0x6A ∧ (0x6A, 0x1F, w8 n.val, 1) ∈ x.causes)
        ∧ (∀ m, m ≠ n → t.cur m = s.cur m) ∧ t.links = s.links ∧ t.safety = s.safety ∧ t.banks = s.banks ∧ t.mem = s.mem))

/-- TEMP_MISSING, CUR_FAIL_LIMIT_REACHED and UNDERRUN_LIMIT_REACHED (R214, R210, R156): 8 frames without TEMP take both
temperatures as T_MAX and report once per episode; failing comparisons raise class 2 with the cap and a scan of every unfenced
sector, and class 3 once that is in force and the scan has ended; a layer that underruns too long is fenced. Frame slot 67 compares the road light of every zone with its cap and floor and the
stray light with its budget (R203, R220 to R223, Table 10-6): the runs go on or start afresh, and a run of its limit is reported,
in SERVICE with the clamp. Two reports at 8 frames are the model's reading (log entry 14), and
the TAG of the DIAG_SCAN it sends is the model's choice (log entry 115). -/
def Obligations.LimitsReached : Prop :=
  ∀ s : State,
    (∀ n : Fin 2,
      let c := s.cur n
      let l := s.link n
      let top : U16 := BitVec.ofInt 16 l.tMax
      let rep := report (unitTile n) 0x10 0xFF 2 {}
      (c.tempRun < 8 → exec (.tempMissing n) s = .next s)
      ∧ (8 ≤ c.tempRun → (s.tileDiag n).buildWait = false → l.descriptor ≠ [] → top ≠ 0x8000 → l.tDerate ≤ l.tMax →
        exec (.tempMissing n) s = .next ((if c.maxEpisode then id else rep) ((if c.tempEpisode then id else rep)
          (s.modCur n fun c => { c with tempMax := top, tempMean := top, tempEpisode := true, maxEpisode := true })))))
    ∧ (∀ n : Fin 2,
      let c := s.cur n
      let l := s.link n
      let u := unitTile n
      let free := l.allSectors &&& ~~~(s.fencedSectors n)
      let cleared := s.modCur n fun c => { c with limitRun := 0 }
      (c.limitRun < s.diagCfg.curFailLimit.toNat → exec (.curFailLimitReached n) s = .next s)
      ∧ (s.diagCfg.curFailLimit.toNat ≤ c.limitRun → s.raised u 0x0F 2 = false → free ≠ 0 →
        exec (.curFailLimitReached n) s = .next
          (((report u 0x0F 0xFF 2 { half := BitVec.ofNat 2 (2 ^ n.val) } cleared).modLink n fun l => { l with
            cmds := l.cmds ++ [⟨4, l.cmdTag, bytes16 free ++ [7]⟩]
            cmdTag := if l.cmdTag = 0xFFFF then 1 else l.cmdTag + 1 }).modDiag n fun d =>
              { d with scanTag := some l.cmdTag, scanRun := true }))
      ∧ (s.diagCfg.curFailLimit.toNat ≤ c.limitRun → s.raised u 0x0F 2 = true → s.raised u 0x0F 3 = false →
        (s.tileDiag n).scanRun = false → exec (.curFailLimitReached n) s = .next (report u 0x0F 0xFF 3 {} cleared))
      ∧ (s.diagCfg.curFailLimit.toNat ≤ c.limitRun → s.raised u 0x0F 2 = true →
        (s.raised u 0x0F 3 = true ∨ (s.tileDiag n).scanRun = true) → exec (.curFailLimitReached n) s = .next s))
    ∧ (∀ n : Fin 8,
      let l := s.layer n
      let limit := s.frame.underrunLimit.toNat ≤ l.underrunRun + natOfBool l.underrunThisFrame
      (s.isEssential n = false → s.fencedMask.getLsbD n.val = false → limit → exec (.underrunLimitReached n) s =
        .next (report (unitLayer n) 0x02 (w8 n.val) 2 { layers := w8 (2 ^ n.val) } s))
      ∧ (s.isEssential n = true ∨ s.fencedMask.getLsbD n.val = true ∨ ¬limit →
        exec (.underrunLimitReached n) s = .next s))
    ∧ (∀ (z : Fin 32) (obs : SlotObs), s.frame.running = true → s.frame.fresh = false → (∀ n, (s.link n).echo = none) →
      z.val < zoneCount s.zoneSet → (s.safety.power = .run ∨ s.safety.power = .idle) →
      (s.safety.lamp = .start → s.safety.hedgeLatched = true ∨ ∀ n, (s.link n).band = none) →
      Completes (.frameSlotStart 67 obs) s fun t =>
        let r := zoneAt s.zoneSet z.val
        let light := s.guard.road[z].toNat + s.guard.stray[z].toNat
        let applies := (r.sward = true ∧ s.guard.lastSource = .sward) ∨ (r.hedgerow = true ∧ s.guard.lastSource = .hedgerow)
        let capMade := r.capOn = true ∧ applies
        let capBad := capMade ∧ r.cap.toNat < light
        let floorMade := r.floorOn = true ∧ applies ∧ ¬(s.guard.sawSward = true ∧ s.guard.sawHedgerow = true)
          ∧ ∀ n, r.onTile n = true → (s.link n).isUp = true
        let floorBad := floorMade ∧ s.guard.road[z] < r.floor
        let strayBad := r.strayOn = true ∧ r.strayCap < s.guard.stray[z]
        let caps := if capBad then s.guard.capRun[z] + 1 else 0
        let floors := if floorBad then s.guard.floorRun[z] + 1 else 0
        let raised (unit cause : Byte) (cls : List Nat) := ∃ x ∈ t.faults.pending, x.unit = unit
          ∧ ∃ c ∈ x.causes, c.2.1 = cause ∧ c.2.2.1 = w8 z.val ∧ c.2.2.2 ∈ cls
        t.guard.straySum = s.guard.stray ∧ (t.guard.strayFail.getLsbD z.val = true ↔ strayBad)
        ∧ (strayBad → ∀ n : Fin 2, s.straySectorsOf z n ≠ 0 →
            ∃ x ∈ t.faults.pending, x.unit = unitTile n ∧ ∃ c ∈ x.causes, c.2.1 = 0x0E ∧ c.2.2.2 = 2)
        ∧ (s.comparesRoad = false → t.guard.zoneSum = s.guard.zoneSum ∧ t.guard.capRun = s.guard.capRun
            ∧ t.guard.floorRun = s.guard.floorRun)
        ∧ (s.comparesRoad = true →
          t.guard.zoneSum = s.guard.road
          ∧ (t.guard.capFail.getLsbD z.val = true ↔ capBad) ∧ (t.guard.floorFail.getLsbD z.val = true ↔ floorBad)
          ∧ t.guard.capRun[z] = (if capMade then caps else s.guard.capRun[z])
          ∧ t.guard.floorRun[z] = (if floorMade then floors else s.guard.floorRun[z])
          ∧ (capBad → r.capFrames ≤ caps →
            (s.grade = .service → raised 0x41 0x11 [2, 3] ∧ ∀ n, r.onTile n = true → (t.guard.clampG[n]).toNat ≤
              min s.guard.clampG[n].toNat (clampValue (s.cur n).govScale.toNat r.cap.toNat s.guard.stray[z].toNat
                s.guard.road[z].toNat s.guard.clampMargin.toNat))
            ∧ (s.grade = .hedgerow → raised 0x41 0x11 [4]) ∧ (s.grade = .test → raised 0x41 0x11 [1]))
          ∧ (floorBad → r.floorFrames ≤ floors →
            (s.grade = .service → raised 0x41 0x12 [3]) ∧ (s.grade = .hedgerow → raised 0x41 0x12 [4])
            ∧ (s.grade = .test → raised 0x41 0x12 [1])))
        ∧ t.mem = s.mem ∧ t.banks = s.banks ∧ t.layers.map Layer.committed = s.layers.map Layer.committed)

/-! ### the frame, its ticket and the time base (chapters 7 and 14) -/

/-- FRAME_SLOT_START (R141 to R144, R171, R241): the clock stands at the slot's edge; a link that takes SYNC gets one whose LATCH
names the band and subframe that the slot latches where the light path has that band complete, and 0 otherwise. That a PRBS
session without a loop stops SYNC too is the model's choice (log entry 120). A slot that renders
gives every lit tile the band of the source that the gate takes: zero codes in the dark; for Sward the codes of chapters 2 to 5,
stages 8 to 12 for each emitter and 0 for a dark, out-of-canvas or fenced pixel (R38, R69 to R91); for Hedgerow the decoded band
with fenced sectors at 0 (R235). The guard adds the band's light to every zone (R218 to R220), and with no layer in the picture
Sward's codes are all 0. -/
def Obligations.FrameSlots : Prop :=
  (∀ (j : Fin 68) (obs : SlotObs) (s : State),
    (s.frame.running = false ∨ s.frame.fresh = true → exec (.frameSlotStart j obs) s = .next s)
    ∧ (s.frame.running = true → s.frame.fresh = false → s.safety.parkDue = false → s.tsens.resumeDue = false →
        (∀ n, (s.link n).resumeAt = none) →
      Completes (.frameSlotStart j obs) s fun t =>
        ((∀ n, (s.link n).echo = none) → t.clock = max s.clock (s.slotEdge j.val)) ∧ t.frame.slot = j.val ∧ t.frame.number = s.frame.number
        ∧ t.frame.divSeen = s.frame.frameDiv ∧ t.frame.divWrites = [] ∧ t.frame.divUsed = s.frame.divUsed
        ∧ (∀ n : Fin 2, s.syncs n = true →
            (∀ b sub, latchOf j.val = some (b, sub) → s.latches n b sub = true →
              (t.link n).sync = some ⟨w8 j.val, w8 (128 + 64 * natOfBool sub + b), s.frame.number⟩)
            ∧ ((∀ b sub, latchOf j.val = some (b, sub) → s.latches n b sub = false) →
              (t.link n).sync = some ⟨w8 j.val, 0, s.frame.number⟩))
        ∧ (∀ n : Fin 2, s.syncs n = false → (t.link n).sync = (s.link n).sync)
        ∧ (s.frame.rendering = true → s.gateSource = .dark →
            ∀ b sub, renderOf j.val = some (b, sub) → ∀ n : Fin 2, (s.link n).isUp = true →
              ∃ p, (t.link n).band = some p ∧ p.band = BitVec.ofNat 5 b ∧ p.sub = sub ∧ p.frame = s.frame.number
                ∧ p.source = .dark ∧ ∀ c ∈ p.codes, c = 0)
        ∧ t.banks = s.banks ∧ t.pack = s.pack ∧ t.mem.fm = s.mem.fm))
  ∧ (∀ (j : Fin 68) (s : State) (b : Nat) (sub : Bool), s.rendersClear → renderOf j.val = some (b, sub) →
    Completes (.frameSlotStart j clearSlot) s fun t =>
      let g := s.gated j
      let codes (n : Fin 2) : List Byte := ((t.link n).band.map Band.codes).getD []
      let sent (n : Fin 2) (src : Source) := ∃ p, (t.link n).band = some p ∧ p.band = BitVec.ofNat 5 b ∧ p.sub = sub
        ∧ p.frame = s.frame.number ∧ p.source = src
      t.safety.mux = s.gateSource
      ∧ (∀ n : Fin 2, (s.link n).isUp = true → (s.link n).lit = true → s.gateSource = .sward → s.swardOn = true →
          (s.link n).denied = false →
        let kind := (s.link n).kind
        sent n .sward ∧ codes n = (g.renderBand 0 [] n b sub).codes
        ∧ (∀ x y e, x < gridX kind → y / bandRows kind = b → e < emitters kind →
          let code := (codes n).getD (bandIndex kind x y * emitters kind + e) 0
          match g.direction n x y with
          | .dark => code = 0
          | .out => code = 0
          | .lit az el =>
            let d := (g.compose 0 (emitters kind) az el).getD e 0
            let w := g.calWord n x y e
            let limit := if w % 16 = 0 then 65535 else 69360
            let q := ((mul16 d (g.stampFactor b az el) * (w / 16) + 1024) / 2048 * g.govInUse n + 16384) / 32768
            let drive := min q limit
            let high := min (drive / 256) 255
            let dither := ditherBit s.frame.ditherUsed s.frame.number.toNat x y (drive % 16)
            code = if s.inFencedSector n x y = true ∨ 2 < w % 16 then 0
              else if sub then w8 (drive / 16 - 16 * high + dither) else w8 high)
        ∧ ((∀ k, s.layerOn 0 k = false) → ∀ c ∈ codes n, c = 0))
      ∧ (∀ n : Fin 2, (s.link n).isUp = true → (s.link n).lit = true → s.gateSource = .hedgerow → s.tsens.stopped = false →
        sent n .hedgerow ∧ codes n = s.fenceCodes n b (if s.hedge.verified
          then hedgeCodes s.hedge.image [] n.val b (bandCodes (s.link n).kind) sub
          else List.replicate (bandCodes (s.link n).kind) 0))
      ∧ (∀ n : Fin 2, (s.link n).isUp = true → (s.link n).lit = false → sent n .dark ∧ ∀ c ∈ codes n, c = 0)
      ∧ (∀ n : Fin 2, (s.link n).isUp = false → (t.link n).band = (s.link n).band)
      ∧ (∀ z : Fin 32, z.val < zoneCount s.zoneSet →
        let r := zoneAt s.zoneSet z.val
        let light (n : Fin 2) := if (s.link n).isUp = true ∧ r.onTile n = true
          then s.zoneLight r (s.bandLight [] n b sub (codes n)) else 0
        let base := if b = 0 ∧ sub = false then 0 else s.guard.road[z].toNat
        t.guard.road[z] = w64 (min (base + light 0 + light 1) (2 ^ 64 - 1)))
      ∧ t.guard.lastSource = s.gateSource)

/-- The ticket close (R11, R58, R65, R66, R95, R146) takes what stands as its command comes, which is what stood before its edge. The
frame number advances; every READY snapshot outside a group becomes committed with its tag, a group does so together or not at all
(R57), and a layer without a READY snapshot keeps its committed configuration and its buffer, as does every staging configuration;
a buffer that is given back is released with the number of the frame before; FLIP_TIME is the first light of the frame.
The box set TICKET takes LIVE, and RETAIN is empty. LEVEL_APPLIED moves toward the effective target
(R36). The source is selected by the lamp state, the demands and what stands against Sward (R63, R222, R242, R243, Table 7-4); dark
tiles wait for RUN (R236). What SERVICE and TEST do without a zone set is the model's choice (log entry 118).
Where a command that the spec dates falls due on the closing edge or later, the ticket closes first and the command then finds
what it leaves; the TICKET_CLOSE that follows is only ticked off. That this is how commands and closes meet is the model's choice
(log entry 6). -/
def Obligations.TicketHandOver : Prop :=
  (∀ (c : Instr) (d : Nat) (s u : State), s.dateOf c = some d → s.reachesClose d = true → s.frame.closesTaken = 0 →
    exec .ticketClose s = .next u → u.closeTaken.inTicket c → exec c s = exec c u.closeTaken)
  ∧ ∀ s : State,
    (s.frame.closesTaken ≠ 0 →
      exec .ticketClose s = .next { s with frame := { s.frame with closesTaken := s.frame.closesTaken - 1 } })
    ∧ (s.frame.closesTaken = 0 → s.frame.running = false → exec .ticketClose s = .next s)
    ∧ (s.frame.closesTaken = 0 → s.frame.running = true → s.frame.fresh = false → s.frame.nextNumber = none →
        (s.bank 2).pending = false → (s.bank 3).pending = false →
        (∀ p c, ((s.port p).service = some c → c.awaits ≠ .long .activate)) →
      Completes .ticketClose s fun t =>
        let together (p : Snapshot) := p.group = 0 ∨ ∀ k : Fin 8, inMask p.group k = true →
          (s.layer k).groupMask = p.group ∧ (s.layer k).ready = true
        let taken (n : Fin 8) (p : Snapshot) := (s.layer n).pending = some p ∧ (s.layer n).ready = true ∧ together p
        t.frame.number = s.frame.number + 1 ∧ t.frame.slot = 0 ∧ t.frame.divUsed = s.frame.divSeen
        ∧ t.frame.closeAt = edgeOf (s.frame.gridTime + periodTu s.frame.divUsed) ∧ t.clock = max s.clock t.frame.closeAt
        ∧ t.frame.gate = none
        ∧ (∀ (n : Fin 8) (p : Snapshot), taken n p →
            (t.layer n).committed = p.config ∧ (t.layer n).pending = none ∧ (t.layer n).ready = false
            ∧ (t.layer n).lastTag = p.tag ∧ (t.layer n).hasBuffer = p.config.enable
            ∧ (t.layer n).frameOfEffect = s.frame.number + 1 ∧ (t.layer n).flipTime = t.frame.firstLight
            ∧ (p.config.enable = true → ∃ l, (t.layer n).lease = some l ∧ l.addr = p.config.bufAddr
                ∧ l.length = p.config.rangeLen ∧ l.tag = p.tag)
            ∧ (p.config.enable = false → (t.layer n).lease = none)
            ∧ (∀ l, (s.layer n).lease = some l → p.config.enable = false ∨ l.addr ≠ p.config.bufAddr →
                (t.layer n).releasedAddr = l.addr ∧ (t.layer n).releasedTag = l.tag
                ∧ (t.layer n).releasedLast = s.frame.number))
        ∧ (∀ m : Byte, m ≠ 0 → (∃ n p, taken n p ∧ p.group = m) → (∀ n p, taken n p → p.group = 0 ∨ p.group = m) →
            t.group = { mask := m, result := 0 })
        ∧ (∀ n : Fin 8, (∀ p, ¬taken n p) →
            (t.layer n).committed = (s.layer n).committed ∧ (t.layer n).lease = (s.layer n).lease
            ∧ (t.layer n).hasBuffer = (s.layer n).hasBuffer ∧ (t.layer n).pending = (s.layer n).pending
            ∧ (t.layer n).notReadyCount = (if (s.layer n).pending.isSome ∧ (s.layer n).ready = false
                then satInc (s.layer n).notReadyCount else (s.layer n).notReadyCount))
        ∧ (∀ n : Fin 8, (t.layer n).staging = (s.layer n).staging ∧ (t.layer n).check = (s.layer n).check)
        ∧ t.stamp.ticket = s.stamp.live ∧ t.stamp.live = s.stamp.live ∧ (∀ i : Fin 64, t.stamp.retain[i] = none)
        ∧ (let w := s.warp
           let stale := w.levelTimeout ≠ 0 ∧ w.levelTimeout ≤ t.age16 w.levelAt
           let step := (if stale then w.levelStaleValue else w.level).toInt - w.levelApplied.toInt
           let slew : Int := w.levelSlew.toNat
           t.warp.levelApplied = BitVec.ofInt 16 (w.levelApplied.toInt +
             if w.levelSlew = 0 then step else max (-slew) (min slew step))
           ∧ (t.warp.levelEpisode = true ↔ w.levelEpisode = true ∨ (stale ∧ w.levelAt.isSome = true)))
        ∧ t.frame.ditherUsed = s.frame.ditherMode ∧ t.frame.aimAzUsed = s.warp.aimAz ∧ t.frame.aimElUsed = s.warp.aimEl
        ∧ t.frame.boxFrameUsed = s.stamp.boxFrame ∧ t.frame.tbLockedSeen = s.tb.locked
        ∧ (let zones := (t.bank 6).activeBank.isSome = true
           let sound := (∀ n, t.isEssential n = true → t.validBuf n = true)
             ∧ ∀ n : Fin 2, (s.link n).isUp = true → t.meshValid n = true ∧ (t.bank (calPair n)).activeBank.isSome = true
           let held : Source := if s.hedge.verified then .hedgerow else .dark
           let picks (src : Source) (l : LampState) := t.frame.selection = src ∧ t.safety.mux = src ∧ t.safety.lamp = l
           t.safety.muxNext = none
           ∧ (s.safety.mux = .dark ∧ s.allRun = false → picks .dark s.safety.lamp)
           ∧ (¬(s.safety.mux = .dark ∧ s.allRun = false) →
              match s.safety.lamp with
              | .off | .parked | .limp => picks .dark s.safety.lamp
              | .start => if s.swardOn = true ∧ t.safety.demand = 0 ∧ zones ∧ sound then picks .sward .service else picks held .start
              | .recovery => picks held .recovery
              | .test => picks (if s.safety.testSource = 0 then .dark
                  else if s.safety.testSource = 1 then (if zones then .sward else .dark) else .hedgerow) .test
              | _ => if t.safety.demand = 0 ∧ zones ∧ sound then picks .sward .service else picks .hedgerow .fallback))
        ∧ t.mem = s.mem)

/-- FSYNC and the time base (R151, R300, R301). An edge in FSYNC mode counts when it is the first or one frame period after the
last, within 1 %, and high long enough; else it is counted as rejected; three periods without one are reported. A Sync of a clock
that goes before the device's own, and before the one it follows, gives the offset: far outside the tolerance it steps an unlocked count and takes a lock away,
otherwise the count is steered and goes on without a step, and four in a row within the tolerance give the lock; three intervals
without a Sync take it away. As best master the device sends its own Syncs, 2^TB_LOG_SYNC s apart, and is locked. The sign of the
step, the steering, the ties of equal priorities and the clock identity are the model's (log entries 7, 28 and 29). -/
def Obligations.TimeBase : Prop :=
  (∀ (high : Nat) (s : State),
    (s.frame.running = false ∨ s.frame.alignUsed ≠ 2 → exec (.fsyncEdge high) s = .next s)
    ∧ (s.frame.running = true → s.frame.alignUsed = 2 →
      let period := s.frame.divUsed.toNat * 21250000
      let good := 200 ≤ high ∧ ∀ e, s.frame.fsyncAt = some e →
        100 * ((s.clock : Int) * 255 - e * 255 - period).natAbs ≤ period
      (good → exec (.fsyncEdge high) s = .next { s with frame := { s.frame with
        fsyncAt := some s.clock, fsyncSeen := true } })
      ∧ (¬good → exec (.fsyncEdge high) s = .next { s with frame := { s.frame with
        fsyncRejected := satInc s.frame.fsyncRejected } })))
  ∧ (∀ (e : Nat) (s : State), s.frame.running = true → s.frame.alignUsed = 2 → s.frame.fsyncAt = some e → s.inTicket .fsyncLoss →
    let s1 := s.at_ (edgeOf (e * 255 + 3 * periodTu s.frame.divUsed))
    exec .fsyncLoss s = .next (report1 0x1C 0x25 0xFF { s1 with frame := { s1.frame with
      fsyncSeen := false, fsyncAt := none } }))
  ∧ (∀ (gm : U64) (prio : Byte) (k offset : Int) (s : State),
    let own := s.tb.priority1 ≠ 255 ∧ (s.tb.priority1 < prio ∨ s.tb.priority1 = prio ∧ Config.masterTie gm = true)
    let tol := s.tb.lockTol.toNat
    let run := if offset.natAbs ≤ tol then (if s.tb.isGrandmaster then 0 else s.tb.lockRun) + 1 else 0
    let locked := s.tb.locked = true ∧ s.tb.isGrandmaster = false
    let worse := s.tb.isGrandmaster = false ∧ s.tb.syncAt.isSome = true ∧ s.tb.gmIdentity ≠ gm
      ∧ (s.tb.gmPriority < prio ∨ s.tb.gmPriority = prio ∧ Config.masterFirst s.tb.gmIdentity gm = true)
    (s.tbRuns = false ∨ own ∨ worse → exec (.timeBaseSync ⟨gm, prio⟩ k offset) s = .next s)
    ∧ (s.tbRuns = true → ¬own → ¬worse → Completes (.timeBaseSync ⟨gm, prio⟩ k offset) s fun t =>
      t.tb.isGrandmaster = false ∧ t.tb.gmIdentity = gm ∧ t.tb.gmPriority = prio ∧ t.tb.intervalLog2 = k
      ∧ t.tb.offset = satI32 offset ∧ t.tb.syncAt = some s.clock ∧ t.tb.lockRun = run
      ∧ (¬locked → t.tb.locked = decide (4 ≤ run))
      ∧ (locked → t.tb.locked = decide (offset.natAbs ≤ 4 * tol))
      ∧ (¬locked → 4 * tol < offset.natAbs → t.tbAt s.clock = s.tbAt s.clock + offset)
      ∧ (locked ∨ offset.natAbs ≤ 4 * tol → t.tbAt s.clock = s.tbAt s.clock)
      ∧ t.clock = s.clock ∧ t.banks = s.banks ∧ t.mem = s.mem ∧ t.layers = s.layers ∧ t.safety = s.safety
      ∧ t.faults = s.faults))
  ∧ (∀ (e : Nat) (s : State), s.tb.syncAt = some e → s.tb.isGrandmaster = false → s.inTicket .timeBaseUnlockTimeout →
    Completes .timeBaseUnlockTimeout s fun t =>
      t.tb = { s.tb with locked := false, lockRun := 0, syncAt := none }
      ∧ t.clock = max s.clock (e + 3 * logSeconds s.tb.intervalLog2)
      ∧ t.banks = s.banks ∧ t.mem = s.mem ∧ t.layers = s.layers ∧ t.safety = s.safety ∧ t.faults = s.faults)
  ∧ (∀ s : State,
    let own := s.tb.priority1 < s.tb.gmPriority ∨ s.tb.priority1 = s.tb.gmPriority ∧ Config.masterTie s.tb.gmIdentity = true
    let best := s.tb.priority1 ≠ 255 ∧ (s.tb.isGrandmaster = true ∨ s.tb.syncAt = none ∨ own)
    let due := match s.tb.isGrandmaster, s.tb.sentAt with
      | true, some e => e + logSeconds s.tb.logSync.toInt
      | _, _ => s.clock
    (s.tbRuns = true → best → s.inTicket .grandmasterSyncSend → Completes .grandmasterSyncSend s fun t =>
      t.tb = { s.tb with
        locked := true, everLocked := true, isGrandmaster := true, gmIdentity := Config.clockIdentity s.cairn.mac
        gmPriority := s.tb.priority1, syncAt := none, syncsSent := s.tb.syncsSent + 1, sentAt := some t.clock }
      ∧ t.clock = max s.clock due ∧ t.banks = s.banks ∧ t.mem = s.mem ∧ t.layers = s.layers ∧ t.safety = s.safety
      ∧ t.faults = s.faults)
    ∧ (s.tbRuns = false ∨ ¬best → exec .grandmasterSyncSend s = .next s))

/-! ### lamp, tests, twin telegrams and the password (chapter 11) -/

/-- LAMP_CMD in power state RUN (R241, R242, R402, Table 11-3): each code acts from the lamp states that its row names and is
refused with STATE_CONFLICT in the others; TEST and RECOVERY need the unlock. FALLBACK sets the host's demand and SERVICE
withdraws it; lighting returns the lanes to L0 and sends RUN to every tile once the lanes of both are there (R183); PARKED
selects no source and has PARK sent. That SERVICE acts on the write is the model's reading (log entry 71). -/
def Obligations.LampCommands : Prop :=
  ∀ (r : Requester) (s : State), s.safety.power = .run →
    let q (k : Nat) := writeOf r 0x6000 3 1 k
    let demand := s.safety.demand &&& 5
    let frame (t : State) := t.layers = s.layers ∧ t.banks = s.banks ∧ t.mem = s.mem ∧ t.pack = s.pack ∧ t.frame = s.frame
      ∧ t.power = s.power ∧ t.aon = s.aon
    let goes (c : Instr) (k : Nat) (l : LampState) (d : BitVec 3) (p : State → Prop) : Prop :=
      Completes c s fun t => t.wroteDone (q k) ∧ t.safety.lamp = l ∧ t.safety.demand = d ∧ frame t ∧ p t
    let lit (t : State) :=
      (s.lanesNear → ∀ n : Fin 2, (s.link n).isUp = true → s.listWhole n = true → (s.link n).running = false →
        (t.link n).running = true ∧ (t.link n).fwdPs = 0 ∧ (t.link n).retPs = 0
        ∧ ((s.link n).awake = true → (t.link n).cmds = (s.link n).cmds ++ [⟨2, (s.link n).cmdTag, []⟩]))
      ∧ (¬s.lanesNear → ∀ n : Fin 2, ((t.link n).running = true → (s.link n).running = true)
        ∧ ((s.link n).isUp = true → (t.link n).fwdPs = 0 ∧ (t.link n).retPs = 0))
    let dark (t : State) := t.links = s.links ∧ t.safety.mux = s.safety.mux
    (s.accepts (q 0) = true →
      (s.safety.lamp = .parked → goes (.lampCmdOff r) 0 .off s.safety.demand fun t => dark t ∧ t.access.holder = none)
      ∧ (s.safety.lamp ≠ .parked → Refuses (.lampCmdOff r) (q 0) .stateConflict s))
    ∧ (s.accepts (q 2) = true →
      (s.safety.lamp = .fallback → goes (.lampCmdService r) 2 .fallback demand fun t => dark t)
      ∧ (s.safety.lamp = .parked → goes (.lampCmdService r) 2 (if demand = 0 then .service else .fallback) demand fun t =>
          lit t ∧ t.access.holder = none)
      ∧ (s.safety.lamp ∉ [.fallback, .parked] → Refuses (.lampCmdService r) (q 2) .stateConflict s))
    ∧ (s.accepts (q 3) = true →
      (s.safety.lamp = .service → goes (.lampCmdFallback r) 3 .fallback (s.safety.demand ||| 2) fun t => dark t
          ∧ (s.safety.mux ≠ .dark → t.safety.muxNext = some .hedgerow))
      ∧ (s.safety.lamp = .parked → goes (.lampCmdFallback r) 3 .fallback (s.safety.demand ||| 2) fun t =>
          lit t ∧ t.access.holder = none)
      ∧ (s.safety.lamp ∉ [.service, .parked] → Refuses (.lampCmdFallback r) (q 3) .stateConflict s))
    ∧ (s.accepts (q 5) = true →
      (s.safety.lamp ∈ [.service, .fallback, .test, .recovery, .off] →
        goes (.lampCmdParked r) 5 .parked demand fun t => dark t ∧ t.safety.muxNext = some .dark ∧ t.safety.parkDue = true)
      ∧ (s.safety.lamp ∉ [.service, .fallback, .test, .recovery, .off] →
        Refuses (.lampCmdParked r) (q 5) .stateConflict s))
    ∧ (s.accepts (q 6) = true →
      (s.holds r = false → Refuses (.lampCmdTest r) (q 6) .accessDenied s)
      ∧ (s.holds r = true → s.safety.lamp = .parked → goes (.lampCmdTest r) 6 .test s.safety.demand fun t =>
          dark t ∧ t.safety.testSource = 0 ∧ t.access.holder = none)
      ∧ (s.holds r = true → s.safety.lamp ≠ .parked → Refuses (.lampCmdTest r) (q 6) .stateConflict s))
    ∧ (s.accepts (q 7) = true →
      (s.holds r = false → Refuses (.lampCmdRecovery r) (q 7) .accessDenied s)
      ∧ (s.holds r = true → s.safety.lamp = .parked → goes (.lampCmdRecovery r) 7 .recovery s.safety.demand fun t =>
          (s.hedge.verified = true → lit t) ∧ (s.hedge.verified = false → dark t) ∧ t.access.holder = none)
      ∧ (s.holds r = true → s.safety.lamp ≠ .parked → Refuses (.lampCmdRecovery r) (q 7) .stateConflict s))

/-- TEST_SOURCE, TEST_CTRL and the PRBS checkers (R184, R185, R243): TEST_SOURCE is taken in lamp state TEST outside a session and
refused elsewhere; a session starts with dark tiles that are parked, clears the PRBS results and sends its CMD, and ends with a
zero. A checker locks after 64 bits that the pattern foretells, which shows in PRBS_LOCK, and from then on counts in PRBS_ERR every
bit that differs. Which bit it is, when a session ends and the register before the lock are the model's reading (log entries 46, 47
and 118). -/
def Obligations.TestSessions : Prop :=
  ∀ (r : Requester) (s : State),
    (∀ v : Byte,
      let q := writeOf r 0x6000 5 1 v.toNat
      let store := s.hedge.verified = true ∧ s.hedge.checkOk = true
      s.accepts q = true →
      (s.safety.lamp ≠ .test → Refuses (.testSource r v) q .stateConflict s)
      ∧ (s.safety.lamp = .test → 2 < v.toNat → Refuses (.testSource r v) q .valueRange s)
      ∧ (s.safety.lamp = .test → v = 0 → Writes (.testSource r v) q s { s with safety := { s.safety with
          testSource := 0, muxNext := some .dark, parkDue := true } })
      ∧ (v = 1 ∨ v = 2 → s.safety.testRunning = true → Refuses (.testSource r v) q .stateConflict s)
      ∧ (v = 2 → ¬store → Refuses (.testSource r v) q .stateConflict s)
      ∧ (s.safety.lamp = .test → s.safety.testRunning = false → v = 1 ∨ v = 2 ∧ store →
        (s.safety.testSource = 0 → Completes (.testSource r v) s fun t => t.wroteDone q ∧ t.safety.testSource = v
          ∧ t.safety.parkDue = false ∧ t.safety.mux = s.safety.mux
          ∧ (s.lanesNear → ∀ n : Fin 2, s.mayRun n = true → (t.link n).running = true
              ∧ (t.link n).cmds = (s.link n).cmds ++ [⟨2, (s.link n).cmdTag, []⟩])
          ∧ t.layers = s.layers ∧ t.banks = s.banks ∧ t.mem = s.mem ∧ t.faults = s.faults)
        ∧ (s.safety.testSource ≠ 0 → Writes (.testSource r v) q s { s with safety := { s.safety with
            testSource := v
            muxNext := if v = 2 ∧ s.safety.testSource = 1 ∧ s.safety.mux ≠ .dark then some .hedgerow
              else s.safety.muxNext } })))
    ∧ (∀ v : U32,
      let q := writeOf r 0x4860 1 4 v.toNat
      let w := v &&& 0xFF0000FF
      let starts := fld w 0 8 ≠ 0
      let target := if starts then testLink w else if s.safety.testRunning then testLink s.safety.testCtrl else none
      let next : Safety := { s.safety with
        testCtrl := w, testRunning := decide starts
        prbsErr := if starts then 0 else s.safety.prbsErr, prbsLock := if starts then 0 else s.safety.prbsLock
        checkers := if starts then .replicate 8 {} else s.safety.checkers }
      s.accepts q = true → s.blockStopped 2 = false → s.blockStopped 7 = false →
      (s.safety.lamp ≠ .test ∨ s.safety.testSource ≠ 0 → Refuses (.testCtrl r v) q .stateConflict s)
      ∧ (∀ n, testLink w = some n → starts → s.tileParked n = false → Refuses (.testCtrl r v) q .stateConflict s)
      ∧ (s.safety.lamp = .test → s.safety.testSource = 0 → (starts → ∀ n, testLink w = some n → s.tileParked n = true) →
        (testCtrlOk w = false → Refuses (.testCtrl r v) q .valueRange s)
        ∧ (testCtrlOk w = true → target = none → Writes (.testCtrl r v) q s { s with safety := next })
        ∧ (∀ n, testCtrlOk w = true → target = some n →
          Completes (.testCtrl r v) s fun t => t.wroteDone q ∧ t.safety = next
            ∧ (∃ p, p.length = 3 ∧ (t.link n).cmds = (s.link n).cmds ++ [⟨9, (s.link n).cmdTag, p⟩])
            ∧ (∀ m, m ≠ n → t.link m = s.link m) ∧ t.layers = s.layers ∧ t.banks = s.banks ∧ t.mem = s.mem)))
    ∧ (∀ (lane : Fin 8) (bits : List Bool),
      let c := s.safety.checkers[lane]
      let mode := fld s.safety.testCtrl 0 4
      let made := prbsBits mode c.reg bits.length
      let bit := w8 (2 ^ lane.val)
      (s.checkerLane lane = false → exec (.prbsCheckerLock ⟨lane, bits⟩) s = .next s)
      ∧ (s.checkerLane lane = true → Completes (.prbsCheckerLock ⟨lane, bits⟩) s fun t =>
        t = { s with safety := { s.safety with
          prbsLock := t.safety.prbsLock, prbsErr := t.safety.prbsErr, checkers := t.safety.checkers } }
        ∧ (∀ k, k ≠ lane → t.safety.checkers[k] = s.safety.checkers[k])
        ∧ (c.locked = true → t.safety.prbsLock = s.safety.prbsLock ||| bit
            ∧ t.safety.prbsErr = satAdd s.safety.prbsErr ((bits.zip made).filter fun x => x.1 != x.2).length)
        ∧ (c.locked = false → bits = made → 64 ≤ c.run + bits.length →
            t.safety.prbsLock = s.safety.prbsLock ||| bit ∧ t.safety.prbsErr = s.safety.prbsErr)
        ∧ (c.locked = false → c.run + bits.length < 64 →
            t.safety.prbsLock = s.safety.prbsLock ∧ t.safety.prbsErr = s.safety.prbsErr)))

/-- The twin comparator (R249 to R254). T1S takes a copy for the device's MAC address or for broadcast and drops one whose head breaks
R286, counting it in OA_DROPPED; a copy for another node is ignored (R283); one that fails R249 is dropped and counted; the first copy
of a SEQ opens the window; an equal copy on the other carrier confirms the telegram and a different one is a mismatch, a window that
ends alone leaves it unconfirmed; GLARE_SAFE in any copy that counts demands FALLBACK, and a confirmed NORMAL withdraws that; without a
confirmed telegram for TWIN_TIMEOUT the forcing of R253 is raised once. A copy through the Svarn-H tunnel counts in TWIN_DROPPED, and in
OA_DROPPED as its FUNC has it (R248, R286), where it is for this node. -/
def Obligations.TwinComparator : Prop :=
  (∀ (c : Carrier) (x : TwinCopy) (s : State),
    let b := x.bytes
    let taken := s.twinRuns = true ∧ (c = .t1s → s.ownMac x.head.toMac = true)
    let mine := s.addressed x.dest = true
    let headBad := c = .t1s ∧ (x.head.version ≠ 1 ∨ x.reservedSet = true ∨ x.head.overlong = true)
    let dropped (t : State) : State := { t with twin := { t.twin with dropped := satInc t.twin.dropped } }
    let seq := u16At b 2
    let glare := byteAt b 1 = 1
    let demand (yes : Prop) (t : State) := (yes → t.safety.demand = s.safety.demand ||| 4
        ∧ (s.safety.lamp = .service → t.safety.lamp = .fallback) ∧ (s.safety.lamp ≠ .service → t.safety.lamp = s.safety.lamp))
      ∧ (¬yes → t.safety.lamp = s.safety.lamp)
    let frame (t : State) := t.layers = s.layers ∧ t.banks = s.banks ∧ t.mem = s.mem ∧ t.links = s.links ∧ t.clock = s.clock
    (¬taken → exec (.twinTelegram c x) s = .next s)
    ∧ (taken → ¬mine → exec (.twinTelegram c x) s = .next (countRx c s))
    ∧ (taken → mine → headBad → exec (.twinTelegram c x) s = .next
        ((countRx c s).modPort c fun p => { p with dropped := satInc p.dropped }))
    ∧ (taken → mine → ¬headBad → s.twinOk c b = false → exec (.twinTelegram c x) s = .next (dropped (countRx c s)))
    ∧ (taken → mine → ¬headBad → s.twinOk c b = true → s.twin.modeUsed = 0 → s.twinDecided seq = false →
      (s.twin.open_ = none → Completes (.twinTelegram c x) s fun t =>
        t.twin.open_ = some ⟨seq, b, c, s.clock⟩ ∧ t.twin.confirmed = s.twin.confirmed ∧ t.safety = s.safety
        ∧ t.faults = s.faults ∧ frame t)
      ∧ (∀ w, s.twin.open_ = some w → w.seq = seq → w.carrier ≠ c → w.bytes.take 12 = b.take 12 →
        Completes (.twinTelegram c x) s fun t =>
          t.twin.open_ = none ∧ t.twin.confirmed = satInc s.twin.confirmed ∧ t.twin.decided = seq
          ∧ t.twin.supervisedFrom = some s.clock ∧ t.twin.timedOut = false ∧ demand glare t
          ∧ (¬glare → t.safety.demand = s.safety.demand &&& 3) ∧ frame t)
      ∧ (∀ w, s.twin.open_ = some w → w.seq = seq → w.carrier ≠ c → w.bytes.take 12 ≠ b.take 12 →
        Completes (.twinTelegram c x) s fun t =>
          t.twin.open_ = none ∧ t.twin.mismatch = satInc s.twin.mismatch ∧ t.twin.decided = seq
          ∧ t.twin.confirmed = s.twin.confirmed ∧ demand (glare ∨ byteAt w.bytes 1 = 1) t
          ∧ (¬(glare ∨ byteAt w.bytes 1 = 1) → t.safety.demand = s.safety.demand) ∧ frame t)))
  ∧ (∀ (p : Packet) (dest src : BitVec 10) (body : List Byte) (s : State), body.length = 16 →
    p.payload = [1, 1] ++ leBytes 2 dest.toNat ++ leBytes 2 src.toNat ++ [16, 0] ++ body →
    packetWhole p = true → p.kind = 4 → p.flags = 0 → p.seq = 0 → p.info = 0 → p.a = 0 → p.b = 0 → p.gap = [] →
    s.twinRuns = true → s.net.romOnly = false → s.svhReceives = true →
    (s.addressed dest = false → exec (.objPacket p) s = .next s)
    ∧ (s.addressed dest = true → exec (.objPacket p) s = .next
        (({ s with twin := { s.twin with dropped := satInc s.twin.dropped } } : State).modPort .svh fun q =>
          { q with dropped := satInc q.dropped })))
  ∧ (∀ (w : TwinWindow) (s : State), s.twin.open_ = some w → s.inTicket .twinWindowExpiry →
    Completes .twinWindowExpiry s fun t =>
      t.clock = max s.clock (w.openedAt + 800 * s.twin.window.toNat) ∧ t.twin.open_ = none
      ∧ t.twin.unconfirmed = satInc s.twin.unconfirmed ∧ t.twin.decided = w.seq ∧ t.twin.confirmed = s.twin.confirmed
      ∧ t.safety.demand = (if byteAt w.bytes 1 = 1 then s.safety.demand ||| 4 else s.safety.demand)
      ∧ t.layers = s.layers ∧ t.banks = s.banks ∧ t.mem = s.mem ∧ t.links = s.links)
  ∧ (∀ (e : Nat) (s : State), s.twin.supervisedFrom = some e → s.safety.serviceSeen = true → s.twin.modeUsed = 0 →
    (s.twin.timedOut = true → exec .twinTimeout s = .next s)
    ∧ (s.twin.timedOut = false → s.inTicket .twinTimeout →
      let s1 := s.at_ (e + 800000 * s.twin.timeout.toNat)
      exec .twinTimeout s = .next (report 0x48 0x16 0xFF 2 { twin := true } { s1 with twin := { s1.twin with timedOut := true } })))

/-- The password (R255 to R258): UNLOCK in its lockout is refused; held by another it is refused without counting; a wrong one is
ACCESS_DENIED in every lamp state, counted, and the fifth starts the lockout; outside PARKED or too short it is refused; the right
one gives the requester the unlock, and the first one is stored as the password. LOCK returns it, PW_NEW makes the next
generation, UNLOCK_IDLE and the 60 s of the lockout end them. The order of UNLOCK's first checks is the model's reading (log
entries 87 and 88). -/
def Obligations.PasswordUnlock : Prop :=
  ∀ (r : Requester) (pw : List Byte) (s : State), s.cairn.failing = false →
    let node := (r.carrier, r.src)
    let newSalt := bytes64 s.cairn.serial ++ bytes32 (s.access.generation + 1) ++ [0, 0, 0, 0]
    let right := sha256 (s.access.salt ++ pw) = s.access.hash
    let frame (t : State) := t.safety = s.safety ∧ t.layers = s.layers ∧ t.banks = s.banks ∧ t.mem = s.mem ∧ t.faults = s.faults
    let qu := writeBytes r 0x6020 1 pw
    let ql := writeOf r 0x6020 2 1 1
    let qn := writeBytes r 0x6020 3 pw
    (pw.length ≤ 32 → s.accepts qu = true →
      (s.access.lockoutFrom.isSome = true → Completes (.unlock r pw) s fun t => t.aborted qu .accessDenied ∧ frame t
        ∧ t.access = { s.access with logCount := s.access.logCount + 1, log := t.access.log })
      ∧ (s.access.lockoutFrom = none →
        (s.access.holder ≠ none → s.access.holder ≠ some node → Refuses (.unlock r pw) qu .stateConflict s)
        ∧ (s.access.holder = none ∨ s.access.holder = some node →
          let wrong := 8 ≤ pw.length ∧ s.access.hash ≠ [] ∧ ¬right
          (wrong → s.access.fails.toNat < 4 → Completes (.unlock r pw) s fun t => t.aborted qu .accessDenied ∧ frame t
            ∧ t.access = { s.access with
                fails := s.access.fails + 1, failsStored := s.access.fails + 1, lockoutStored := false
                logCount := s.access.logCount + 1, log := t.access.log })
          ∧ (wrong → s.access.fails = 4 → Completes (.unlock r pw) s fun t => t.aborted qu .accessDenied ∧ frame t
            ∧ t.access = { s.access with
                fails := 5, failsStored := 5, lockoutFrom := some s.clock, lockoutStored := true
                logCount := s.access.logCount + 2, log := t.access.log })
          ∧ (¬wrong → s.safety.lamp ≠ .parked → Refuses (.unlock r pw) qu .stateConflict s)
          ∧ (s.safety.lamp = .parked → pw.length < 8 → Refuses (.unlock r pw) qu .valueRange s)
          ∧ (s.safety.lamp = .parked → 8 ≤ pw.length → s.access.hash ≠ [] → right →
            Completes (.unlock r pw) s fun t => t.wroteDone qu ∧ frame t
              ∧ t.access = { s.access with
                  holder := some node, fails := 0, failsStored := 0, lockoutStored := false, lastEffective := s.clock
                  logCount := s.access.logCount + 1, log := t.access.log })
          ∧ (s.safety.lamp = .parked → 8 ≤ pw.length → s.access.hash = [] →
            Completes (.unlock r pw) s fun t => t.wroteDone qu ∧ frame t
              ∧ t.access = { s.access with
                  holder := some node, fails := 0, failsStored := 0, lockoutStored := false, lastEffective := s.clock
                  generation := s.access.generation + 1, salt := newSalt, hash := sha256 (newSalt ++ pw)
                  logCount := s.access.logCount + 2, log := t.access.log }))))
    ∧ (s.accepts ql = true →
      (s.holds r = false → Refuses (.lock r) ql .accessDenied s)
      ∧ (s.holds r = true → Completes (.lock r) s fun t => t.wroteDone ql ∧ frame t
        ∧ t.access = { s.access with holder := none, logCount := s.access.logCount + 1, log := t.access.log }))
    ∧ (pw.length ≤ 32 → s.accepts qn = true →
      (s.safety.lamp ≠ .parked ∨ s.holds r = false → Refuses (.pwNew r pw) qn .accessDenied s)
      ∧ (s.safety.lamp = .parked → s.holds r = true → pw.length < 8 → Refuses (.pwNew r pw) qn .valueRange s)
      ∧ (s.safety.lamp = .parked → s.holds r = true → 8 ≤ pw.length →
        Completes (.pwNew r pw) s fun t => t.wroteDone qn ∧ frame t
          ∧ t.access = { s.access with
              generation := s.access.generation + 1, salt := newSalt, hash := sha256 (newSalt ++ pw), lastEffective := s.clock
              logCount := s.access.logCount + 1, log := t.access.log }))
    ∧ (s.netRuns = true → s.access.holder.isSome = true → s.inTicket .unlockIdleExpiry →
      let s1 := s.at_ (s.access.lastEffective + 800000000 * s.access.idle.toNat)
      exec .unlockIdleExpiry s = .next { s1 with access := { s1.access with holder := none } })
    ∧ (∀ e, s.netRuns = true → s.access.lockoutFrom = some e → s.inTicket .lockoutEnd →
      let s1 := s.at_ (e + 48000000000)
      exec .lockoutEnd s = .next { s1 with access := { s1.access with
        lockoutFrom := none, fails := 0, failsStored := 0, lockoutStored := false } })

/-! ### faults and field memory (chapters 10 and 12) -/

/-- The collector (R263, R264, R267, R280): a report with no record of its kind makes one, in force from class 2, with the next
SEQ, and holds its own cause whatever its class; a repetition adds to COUNT, takes the higher class and withdraws CLEAR_REQ; class 3 demands FALLBACK and class 4 sets the
fell latch and LIMP. A parity error of its RAM is class 4, unit 0x02. That a repetition issues its reaction again is the
model's reading (log entry 13). -/
def Obligations.FaultReports : Prop :=
  ∀ s : State,
    (s.collects = false ∨ s.faults.pending = [] → exec (.faultReportAccept false) s = .next s)
    ∧ (s.collects = true → s.faults.pending = [] → exec (.faultReportAccept true) s = .next (report 0x02 0x23 0xFF 4 {} s))
    ∧ (∀ rep : Report, s.collects = true → s.faults.pending = [rep] → rep.cls ≤ 4 →
      (s.faults.queue = [] → Completes (.faultReportAccept false) s fun t =>
        (∃ x, t.faults.queue = [x] ∧ x.seq = s.faults.nextSeq ∧ x.unit = rep.unit ∧ x.cause = rep.cause
          ∧ x.index = rep.index ∧ x.cls = rep.cls ∧ x.inForce = decide (2 ≤ rep.cls) ∧ x.frame = rep.frame
          ∧ x.slot = rep.slot ∧ x.count = w16 (min rep.count 65535) ∧ x.clearReq = false ∧ x.acked = false
          ∧ ((rep.unit, rep.cause, rep.index, rep.cls) ∈ rep.causes →
              ∃ h ∈ x.held, h.unit = rep.unit ∧ h.cause = rep.cause ∧ h.index = rep.index))
        ∧ t.faults.nextSeq = s.faults.nextSeq + 1
        ∧ (rep.cls < 3 → t.safety = s.safety ∧ t.aon = s.aon)
        ∧ (rep.cls = 3 → t.safety.demand = s.safety.demand ||| 1 ∧ t.aon.fell = s.aon.fell
            ∧ (s.safety.lamp = .service → t.safety.lamp = .fallback)
            ∧ (s.safety.lamp ≠ .service → t.safety.lamp = s.safety.lamp))
        ∧ (rep.cls = 4 → t.safety.lamp = .limp ∧ t.aon.fell = true ∧ t.safety.demand = s.safety.demand)
        ∧ t.layers = s.layers ∧ t.banks = s.banks ∧ t.mem = s.mem ∧ t.links = s.links)
      ∧ (∀ x : Record, s.faults.queue = [x] → x.unit = rep.unit → x.cause = rep.cause → x.index = rep.index → rep.cls ≤ 2 →
        x.cls ≤ 2 → s.cairn.failing = false → Completes (.faultReportAccept false) s fun t =>
          (∃ y, t.faults.queue = [y] ∧ y.seq = x.seq ∧ y.unit = x.unit ∧ y.cause = x.cause ∧ y.index = x.index
            ∧ y.cls = max x.cls rep.cls ∧ y.count = w16 (min (x.count.toNat + rep.count) 65535) ∧ y.clearReq = false
            ∧ y.inForce = (x.inForce || decide (2 ≤ rep.cls)) ∧ y.raised = (x.raised || decide (x.cls < rep.cls)))
          ∧ t.faults.pending = [] ∧ t.faults.nextSeq = s.faults.nextSeq ∧ t.safety = s.safety ∧ t.aon = s.aon
          ∧ t.layers = s.layers ∧ t.banks = s.banks ∧ t.mem = s.mem ∧ t.links = s.links))

/-- FAULT_ACK and FAULT_CLEAR (R269, R276 to R278): an acknowledgement takes every record up to SEQ that is not in force out of
the queue and marks the others; a clear asks for the lift of a record in force that its rule lets the host lift, is refused with
STATE_CONFLICT for class 4, a latched record and one that only a reset lifts, and with VALUE_RANGE where there is nothing to
lift. At a ticket close the records lift whose conditions their class and their strictest cause name (R276, R277): the reaction ends,
an acknowledged record leaves the queue, and with the last class 3 record the collector's demand ends. -/
def Obligations.AckAndClear : Prop :=
  (∀ (r : Requester) (seq : U16) (s : State),
    (let q := writeOf r 0x6800 5 2 seq.toNat
     let base := s.faults.nextSeq - 64
     let covered (x : Record) : Bool := decide ((x.seq - base).toNat ≤ (seq - base).toNat)
     let kept := (s.faults.queue.filter fun x => !covered x || x.inForce).map fun x =>
       if covered x then { x with acked := true } else x
     s.accepts q = true → Writes (.faultAck r seq) q s { s with faults := { s.faults with
       queue := kept, first := if kept = [] then none else s.faults.first } })
    ∧ (let q := writeOf r 0x6800 6 2 seq.toNat
       s.accepts q = true →
       ((∀ x ∈ s.faults.queue, x.seq ≠ seq) → Refuses (.faultClear r seq) q .valueRange s)
       ∧ (∀ x : Record, s.faults.queue.find? (fun y => y.seq == seq) = some x →
         let fixed := x.cls = 4 ∨ x.latched = true ∨ (x.inForce = true ∧ x.lift = .reset)
         (fixed → Refuses (.faultClear r seq) q .stateConflict s)
         ∧ (¬fixed → x.inForce = false ∨ x.cls < 2 → Refuses (.faultClear r seq) q .valueRange s)
         ∧ (¬fixed → x.inForce = true → 2 ≤ x.cls → Writes (.faultClear r seq) q s { s with faults := { s.faults with
             queue := s.faults.queue.map fun y => if y.seq == seq then { x with clearReq := true } else y } }))))
  ∧ (∀ s : State, s.frame.running = true → s.frame.fresh = false → s.frame.closesTaken = 0 →
    (s.faults.queue.map Record.seq).Nodup → (∀ c, (s.port c).queue = []) →
    Completes .ticketClose s fun t =>
      let gone (x : Record) := ∀ h ∈ x.held, s.gone h = true
      let lifts (x : Record) := x.inForce = true ∧ x.latched = false
        ∧ ((x.cls = 2 ∧ x.lift = .auto ∧ gone x ∧ ∀ h ∈ x.held, s.faults.heal.toNat ≤ h.clean)
          ∨ (x.cls = 2 ∧ x.lift = .clear ∧ x.clearReq = true ∧ gone x)
          ∨ (x.cls = 3 ∧ x.lift ≠ .reset ∧ (x.clearReq = true ∨ x.lift = .auto) ∧ gone x
            ∧ (x.sawFallback = false ∨ s.faults.returnFrames.toNat ≤ s.guard.shadowPass.toNat)))
      (∀ x ∈ s.faults.queue,
        (lifts x → x.acked = true → ∀ y ∈ t.faults.queue, y.seq ≠ x.seq)
        ∧ (lifts x → x.acked = false → ({ x with inForce := false, runLeft := 0, scope := {}, held := [] } : Record) ∈ t.faults.queue)
        ∧ (¬lifts x → ({ x with runLeft := x.runLeft - 1 } : Record) ∈ t.faults.queue))
      ∧ t.faults.queue.length ≤ s.faults.queue.length
      ∧ t.safety.demand = (if (∃ x ∈ s.faults.queue, x.inForce = true ∧ x.cls = 3)
          ∧ ∀ x ∈ s.faults.queue, x.inForce = true → x.cls = 3 → lifts x then s.safety.demand &&& 6 else s.safety.demand))

/-- The scrubber, the spares and the store recheck (R234, R273, R274, R330): words found uncorrectable stay marked, are counted in
every pass and reported for their banks; a bank with
FM_CE_LIMIT corrections in a pass is spared where its half's spare is free; the recheck is a job of channel 1, keeps CHECK_OK of a store that passes and reports one
that fails with class 4, with class 1 in TEST. Counts of marked words, codes of LAST_FAIL and FM_SPARE_MAP during a copy are the
model's reading (log entries 67, 80 and 98). -/
def Obligations.MemoryUpkeep : Prop :=
  ∀ s : State,
    (s.aon.held = true ∨ s.safety.power ≠ .run → ∀ a b, exec (.scrubPass a b) s = .next s)
    ∧ (s.aon.held = false → s.safety.power = .run → (∀ x ∈ s.faults.pending, x.unit ≠ 0x20) →
      (∀ ws : List Nat, (∀ w ∈ ws, w < 0x180000) → Completes (.scrubPass [] ws) s fun t =>
        t.mem.bad = s.mem.bad ++ (ws.filter fun w => !s.mem.bad.contains w).dedup
        ∧ t.faults.ueCount = satAdd s.faults.ueCount t.mem.bad.length
        ∧ t.faults.ceCount = satAdd s.faults.ceCount 0 ∧ t.faults.spare = s.faults.spare ∧ t.mem.fm = s.mem.fm
        ∧ (s.faults.queue = [] → ∀ w ∈ t.mem.bad, w < 0x180000 →
            (∃ x ∈ t.faults.queue, x.unit = 0x20 ∧ x.cause = 0x18 ∧ x.index = w8 (w / 32768))
            ∨ ∃ x ∈ t.faults.pending, x.unit = 0x20 ∧ x.cause = 0x18 ∧ x.index = w8 (w / 32768))
        ∧ t.layers = s.layers ∧ t.banks = s.banks ∧ t.safety = s.safety)
      ∧ (∀ (b : Fin 48) (k : Nat), s.mem.bad = [] →
        let half : Fin 2 := if b.val < 24 then 0 else 1
        let counted : State := { s with faults := { s.faults with
          ceCount := satAdd s.faults.ceCount k, ueCount := satAdd s.faults.ueCount 0 } }
        (k < s.faults.ceLimit.toNat → exec (.scrubPass [(b, k)] []) s = .next counted)
        ∧ (s.faults.ceLimit.toNat ≤ k → s.faults.spare[half] ≠ 0xFF →
          exec (.scrubPass [(b, k)] []) s = .next (report1 0x20 0x17 (w8 b.val) counted))
        ∧ (s.faults.ceLimit.toNat ≤ k → s.faults.spare[half] = 0xFF →
          exec (.scrubPass [(b, k)] []) s = .next (report 0x20 0x17 (w8 b.val) 2 {} { counted with
            faults := { counted.faults with
              spare := vput s.faults.spare half (w8 b.val), copying := vput s.faults.copying half true } }))))
    ∧ (∀ k : Fin 2,
      (s.faults.copying[k] = true → exec (.spareCopyEnd k) s = .next { s with faults := { s.faults with
        copying := vput s.faults.copying k false, copied := vput s.faults.copied k true } })
      ∧ (s.faults.copying[k] = false → exec (.spareCopyEnd k) s = .next s))
    ∧ (s.hedge.locked = false → ∀ parity, exec (.hedgeRecheck parity) s = .next s)
    ∧ (s.hedge.locked = true → s.safety.power = .run → ∀ parity : List Nat,
      let crc := crcOf crc64 (s.hedge.image.take (hedgeSize s.hedge.image - 8))
      let cls := if s.safety.lamp = .test then 1 else 4
      Completes (.hedgeRecheck parity) s fun t =>
        t.hedge.crc64 = crc ∧ t.hedge.checkOk = (crc == s.hedge.crc64Ref && parity.isEmpty)
        ∧ t.hedge.image = s.hedge.image ∧ (t.chk 1).done = true ∧ (t.chk 1).err = (if parity = [] then 0 else 4)
        ∧ (parity = [] → (t.chk 1).foldN = s.frame.number ∧ (t.chk 1).result = crc ^^^ (fold32 s.frame.number).setWidth 64)
        ∧ (parity = [] → crc = s.hedge.crc64Ref → t.faults = s.faults ∧ t.hedge.lastFail = s.hedge.lastFail)
        ∧ (parity = [] → crc ≠ s.hedge.crc64Ref →
            t.hedge.lastFail = 5 ∧ t.faults = (report 0x42 0x06 0xFF cls {} s).faults)
        ∧ (parity ≠ [] → t.hedge.lastFail = 0xA ∧ t.faults = (report 0x42 0x09 0xFF cls {} s).faults)
        ∧ t.layers = s.layers ∧ t.banks = s.banks ∧ t.mem = s.mem ∧ t.safety = s.safety)

/-! ### DMA, check units, ADC and temperature (chapters 15 and 16) -/

/-- The DMA engine (R315 to R320): GO starts a channel at its head or queues the head behind a running chain, and is refused with
both in use or for a head outside the host area; STOP ends the chain with error 0x0B in the descriptor, once the packets of its writes have left; a descriptor moves its
source as it stood, writes DONE into its own status and goes on to NEXT, and one that fails its checks moves nothing, is counted,
and with LAST ends the chain. The end of a chain goes on at a pending head, and the finish of a stopped one, which a GO may have
met waiting, starts the next chain there; the finish reaches the layers' gates (R56). Beats, and fetching and moving in one command,
are the model's reading (log entries 26 and 108). -/
def Obligations.DmaChannels : Prop :=
  (∀ (r : Requester) (k : Fin 8) (s : State),
    let q := writeOf r (0x7010 + k.val) 1 4 1
    let c := s.channel k
    let headOk := c.head.toNat % 32 = 0 ∧ c.head.toNat + 32 ≤ tableStart
    s.accepts q = true →
    (s.blockStopped 3 = true ∨ (c.run = true ∧ c.pendingHead ≠ none) → Refuses (.go r k) q .stateConflict s)
    ∧ (s.blockStopped 3 = false → c.run = false ∨ c.pendingHead = none → ¬headOk → Refuses (.go r k) q .valueRange s)
    ∧ (s.blockStopped 3 = false → headOk → c.run = false → Writes (.go r k) q s (s.modChannel k fun c => { c with
        run := true, cur := c.head, chainErr := false, barrierWait := false, finishing := false }))
    ∧ (s.blockStopped 3 = false → headOk → c.run = true → c.pendingHead = none →
        Writes (.go r k) q s (s.modChannel k fun c => { c with pendingHead := some c.head })))
  ∧ (∀ (r : Requester) (k : Fin 8) (moved : Nat) (s : State),
    let q := { writeOf r (0x7010 + k.val) 1 4 2 with moved := some moved }
    let c := s.channel k
    let a := c.cur.toNat
    s.accepts q = true →
    (c.run = false → Writes (.stop r k moved) q s s)
    ∧ (c.run = true → c.finishing = false → Completes (.stop r k moved) s fun t => t.wroteDone q
      ∧ (t.channel k).pendingHead = none
      ∧ (t.unsent k = false → (t.channel k).run = false ∧ (t.channel k).chainCount = satInc c.chainCount)
      ∧ (t.unsent k = true → (t.channel k).run = true ∧ (t.channel k).finishing = true
          ∧ (t.channel k).chainCount = c.chainCount)
      ∧ (moved = 0 → c.barrierWait = false → s.mem.wf = true → s.fetchError k = 0 → s.unsent k = false →
          t.fm (a + 0x14) = 2 ∧ (s.descCheck (descOf (s.fmRead a 32)) = 0 → t.fm (a + 0x15) = 0xB)
          ∧ (∀ x, x < a + 0x14 ∨ a + 0x1C ≤ x → t.fm x = s.fm x))
      ∧ (c.barrierWait = true ∨ moved = 0 ∧ s.fetchError k = 0 → s.unsent k = true →
          t.channel k = { c with
            pendingHead := none, barrierWait := true, finishing := true
            moved := if c.barrierWait then c.moved else 0, moveErr := 0xB }
          ∧ t.mem.fm = s.mem.fm)
      ∧ (∀ j, j ≠ k → t.channel j = s.channel j) ∧ t.banks = s.banks ∧ t.safety = s.safety ∧ t.links = s.links))
  ∧ (∀ (k : Fin 8) (source : FlashRead) (n : Nat) (s : State),
    let c := s.channel k
    let a := c.cur.toNat
    let d := descOf (s.fmRead a 32)
    let finished (err : Bool) (t : State) := (t.channel k).finishing = false ∧ (t.channel k).barrierWait = false
      ∧ (t.channel k).chainCount = satInc c.chainCount ∧ (t.channel k).pendingHead = none
      ∧ (c.pendingHead = none → (t.channel k).run = false)
      ∧ (∀ h, c.pendingHead = some h → (t.channel k).run = true ∧ (t.channel k).cur = h ∧ (t.channel k).chainErr = false)
      ∧ t.layers = (gateEvent 2 (BitVec.ofNat 4 k.val) err s).layers
    (c.run = false → exec (.descriptorWriteBack k source n) s = .next s)
    ∧ (c.run = true → c.barrierWait = true ∨ c.finishing = true → s.unsent k = true →
        exec (.descriptorWriteBack k source n) s = .next s)
    ∧ (c.run = true → c.barrierWait = true → s.unsent k = false → s.mem.wf = true →
      Completes (.descriptorWriteBack k source n) s fun t =>
        t.fm (a + 0x14) = (if c.moveErr = 0 then 1 else 2) ∧ t.fm (a + 0x15) = c.moveErr
        ∧ (∀ i, i < 4 → t.fm (a + 0x18 + i) = (leBytes 4 c.moved).getD i 0)
        ∧ (∀ x, x < a + 0x14 ∨ a + 0x1C ≤ x → t.fm x = s.fm x)
        ∧ (c.finishing = true ∨ d.last = true ∧ c.pendingHead = none → finished (c.chainErr || c.moveErr != 0) t)
        ∧ (c.finishing = false → d.last = true → ∀ h, c.pendingHead = some h →
            (t.channel k).run = true ∧ (t.channel k).cur = h ∧ (t.channel k).pendingHead = none
            ∧ (t.channel k).chainCount = c.chainCount ∧ (t.channel k).barrierWait = false)
        ∧ (c.finishing = false → d.last = false → (t.channel k).run = true ∧ (t.channel k).cur = d.next
            ∧ (t.channel k).barrierWait = false ∧ (t.channel k).pendingHead = c.pendingHead)
        ∧ (∀ j, j ≠ k → t.channel j = s.channel j) ∧ t.banks = s.banks ∧ t.safety = s.safety)
    ∧ (c.run = true → c.barrierWait = false → c.finishing = true → s.unsent k = false →
      Completes (.descriptorWriteBack k source n) s fun t => finished c.chainErr t ∧ t.mem = s.mem
        ∧ (∀ j, j ≠ k → t.channel j = s.channel j) ∧ t.banks = s.banks ∧ t.safety = s.safety)
    ∧ (c.run = true → c.barrierWait = false → c.finishing = false → s.fetchError k = 0 → s.mem.wf = true → s.unsent k = false →
      (s.descCheck d = 0 → d.srcSpace = 0 → d.dstSpace = 0 → d.last = false → d.dst + d.length ≤ tableStart →
        s.badWords d.src d.length = [] → d.dst + d.length ≤ a ∨ a + 32 ≤ d.dst →
        Completes (.descriptorWriteBack k source n) s fun t =>
          (∀ i, i < d.length → t.fm (d.dst + i) = s.fm (d.src + i))
          ∧ t.fm (a + 0x14) = 1 ∧ t.fm (a + 0x15) = 0
          ∧ (∀ x, (x < d.dst ∨ d.dst + d.length ≤ x) → (x < a + 0x14 ∨ a + 0x1C ≤ x) → t.fm x = s.fm x)
          ∧ t.channel k = { c with
              cur := d.next, lastTag := d.tag, barrierWait := false, doneCount := satInc c.doneCount }
          ∧ (∀ j, j ≠ k → t.channel j = s.channel j) ∧ t.mgmt.badTotal = s.mgmt.badTotal ∧ t.banks = s.banks
          ∧ t.safety = s.safety)
      ∧ (s.descCheck d ≠ 0 → d.last = true → c.pendingHead = none →
        Completes (.descriptorWriteBack k source n) s fun t =>
          t.fm (a + 0x14) = 2 ∧ t.fm (a + 0x15) = s.descCheck d
          ∧ (∀ x, x < a + 0x14 ∨ a + 0x1C ≤ x → t.fm x = s.fm x)
          ∧ (t.channel k).run = false ∧ (t.channel k).lastErr = s.descCheck d ∧ (t.channel k).chainErr = true
          ∧ (t.channel k).badCount = satInc c.badCount ∧ (t.channel k).chainCount = satInc c.chainCount
          ∧ t.mgmt.badTotal = satInc s.mgmt.badTotal ∧ (∀ j, j ≠ k → t.channel j = s.channel j)
          ∧ t.banks = s.banks ∧ t.safety = s.safety)))

/-- The check units (R325 to R332): channels 0 to 2 take no command from a carrier; START_MEM and FEED_OPEN sample the set-up of a
free channel, CHK_FEED feeds the register, FEED_CLOSE and the end of a memory job leave the CRC, folded as CHK_CFG says, in CHK_RESULT, an
uncorrectable word, a failing read, a parity error of the store, which raises R234 too, and an ABORT end a job with their errors, and a
mismatch is reported under CMP_IE; ALIVE is taken with every accepted CHK_CTRL and counted as wrong unless it is one more than the
last. The width of the comparison (log entry 106) and that a refused CHK_CTRL leaves ALIVE as it was (log entry 117) are the model's
readings. -/
def Obligations.CheckUnits : Prop :=
  ∀ (k : Fin 8) (s : State),
    let c := s.chk k
    (∀ (r : Requester) (v : Byte),
      let q (action : Nat) := writeOf r (0x7410 + k.val) 1 4 (v.toNat * 2 ^ 8 + action)
      let ok := c.aliveSeen = false ∨ v = c.alive + 1
      let alive (x : Chk) : Chk := { x with
        alive := v, aliveSeen := true, aliveOk := decide ok
        aliveErrCount := if ok then x.aliveErrCount else satInc x.aliveErrCount }
      let started (feed : Bool) (x : Chk) : Chk := { x with
        busy := true, feedOpen := feed, done := false, err := 0, isMatch := false, mismatch := false, jobCfg := x.cfg
        jobAddr := x.addr, jobLen := x.len, jobSpec := x.spec, reg := crcInit x.spec
        jobFold := if x.fold = 1 then s.frame.number else if x.fold = 2 then x.addr else 0 }
      let ended (x : Chk) (crc : U64) : Chk :=
        let compare := fld x.jobCfg 4 2 = 1
        let value := if fld x.jobCfg 6 2 = 0 then crc else crc ^^^ ((fold32 x.jobFold).setWidth 64 &&& x.jobSpec.mask)
        { x with
          busy := false, feedOpen := false, done := true, result := value, foldN := x.jobFold
          isMatch := decide (compare ∧ value = x.expect), mismatch := decide (compare ∧ value ≠ x.expect)
          mismatchCount := if compare ∧ value ≠ x.expect then satInc x.mismatchCount else x.mismatchCount }
      let broken (err : Byte) (x : Chk) : Chk := { x with
        busy := false, feedOpen := false, done := true, err := err, isMatch := false
        mismatch := decide (fld x.jobCfg 4 2 = 1) }
      let told (u : State) : State :=
        if (u.chk k).mismatch = true ∧ c.jobCfg.getLsbD 11 = true then report1 0x59 0x23 0xFF u else u
      (k.val < 3 → ∀ p ∈ [(Instr.startMem r k v, 1), (.feedOpen r k v, 2), (.feedClose r k v, 3), (.checkAbort r k v, 4),
          (.checkAlive (some r) k v, 0)], s.accepts (q p.2) = true → Refuses p.1 (q p.2) .stateConflict s)
      ∧ (3 ≤ k.val → s.blockStopped 4 = true → ∀ p ∈ [(Instr.startMem r k v, 1), (.feedOpen r k v, 2)],
          s.accepts (q p.2) = true → Refuses p.1 (q p.2) .stateConflict s)
      ∧ (3 ≤ k.val → s.accepts (q 1) = true → s.blockStopped 4 = false →
        (c.busy = true → Refuses (.startMem r k v) (q 1) .stateConflict s)
        ∧ (c.busy = false → s.chkRangeOk c = false → Refuses (.startMem r k v) (q 1) .valueRange s)
        ∧ (c.busy = false → s.chkRangeOk c = true →
            Writes (.startMem r k v) (q 1) s (s.modChk k fun x => alive (started false x))))
      ∧ (3 ≤ k.val → s.accepts (q 2) = true → s.blockStopped 4 = false →
        (c.busy = true → Refuses (.feedOpen r k v) (q 2) .stateConflict s)
        ∧ (c.busy = false → c.fold = 2 → Refuses (.feedOpen r k v) (q 2) .valueRange s)
        ∧ (c.busy = false → c.fold ≠ 2 →
            Writes (.feedOpen r k v) (q 2) s (s.modChk k fun x => alive (started true x))))
      ∧ (3 ≤ k.val → s.accepts (q 3) = true →
        (c.feedOpen = false → Refuses (.feedClose r k v) (q 3) .stateConflict s)
        ∧ (c.feedOpen = true → Writes (.feedClose r k v) (q 3) s
            ((told (s.modChk k fun x => ended x (crcFinish x.jobSpec x.reg))).modChk k alive)))
      ∧ (3 ≤ k.val → s.accepts (q 4) = true →
        (c.busy = false → Writes (.checkAbort r k v) (q 4) s (s.modChk k alive))
        ∧ (c.busy = true → Writes (.checkAbort r k v) (q 4) s ((told (s.modChk k (broken 5))).modChk k alive)))
      ∧ (3 ≤ k.val → s.accepts (q 0) = true → Writes (.checkAlive (some r) k v) (q 0) s (s.modChk k alive))
      ∧ (k = 2 → s.gorse = true → exec (.checkAlive none k v) s = .next
          (let t := s.modChk k alive
           if s.safety.aliveOpen then { t with safety := { s.safety with
             aliveWrites := s.safety.aliveWrites + 1, aliveGood := s.safety.aliveGood && decide ok } } else t))
      ∧ (k ≠ 2 ∨ s.gorse = false → exec (.checkAlive none k v) s = .next s)
      ∧ (c.busy = true → c.feedOpen = false →
          let a := c.jobAddr.toNat
          let len := c.jobLen.toNat
          let lost : State := { s with clocks := { s.clocks with flashErr := satInc s.clocks.flashErr } }
          (fld c.jobCfg 8 3 = 0 → s.badIn a len = false → ∀ x, exec (.checkJobEnd k x) s =
            .next (told (s.modChk k fun y => ended y (crcOf y.jobSpec (s.fmRead a len)))))
          ∧ (fld c.jobCfg 8 3 = 0 → s.badIn a len = true → ∀ x, exec (.checkJobEnd k x) s =
            .next (told ((reportBad (s.badWords a len) s).modChk k (broken 1))))
          ∧ (fld c.jobCfg 8 3 = 1 → exec (.checkJobEnd k .ok) s =
            .next (told (s.modChk k fun y => ended y (crcOf y.jobSpec (s.flashRead a len)))))
          ∧ (fld c.jobCfg 8 3 = 1 → exec (.checkJobEnd k .error) s = .next (told (lost.modChk k (broken 2))))
          ∧ (fld c.jobCfg 8 3 = 3 → exec (.checkJobEnd k .error) s = .next (told (s.modChk k (broken 3))))
          ∧ (fld c.jobCfg 8 3 = 4 → s.hedge.locked = true → exec (.checkJobEnd k .error) s =
            .next (told ((report 0x42 0x09 0xFF (if s.safety.lamp = .test then 1 else 4) {}
              { s with hedge := { s.hedge with lastFail := 0xA } }).modChk k (broken 4))))))
    ∧ (∀ (r : Requester) (b : List Byte),
      let q := writeBytes r (0x7410 + k.val) 5 b
      s.accepts q = true →
      (b.length ≤ 4096 → k.val < 3 ∨ c.feedOpen = false → Refuses (.chkFeed r k b) q .stateConflict s)
      ∧ (b.length ≤ 4096 → 3 ≤ k.val → c.feedOpen = true → b = [] → Refuses (.chkFeed r k b) q .valueRange s)
      ∧ (b.length ≤ 4096 → 3 ≤ k.val → c.feedOpen = true → b ≠ [] → Writes (.chkFeed r k b) q s
          (s.modChk k fun x => { x with reg := crcFeed x.jobSpec x.reg b })))
    ∧ (c.busy = false ∨ c.feedOpen = true → ∀ x, exec (.checkJobEnd k x) s = .next s)

/-- The ADC (R335, R337 to R341): a regular conversion puts the code of its input, after the scaling of Table 16-1, into the
register of the channel whose turn it is, INT0 first in each round, and three INT0 codes in a row out of range are reported; the
window comparators that watch the channel, or the injected slot, take the code, and a setting of ALARM is reported by REACT (R342); an
ADTRIG edge that INJ_CFG enables, held for two ADC cycles, starts an injected sequence, or is counted as dropped while one runs; the
marker of frame slot 18, and that of slot 52 for subframe L, start one too, take the place of an edge on its own ADC edge, and are dropped behind any other; the end of
a sequence fills its results. Further reports of the reference check, the rounding and the ADC edge of 20 CORE cycles are the
model's reading (log entries 19 and 118). -/
def Obligations.Conversions : Prop :=
  (∀ (microvolts : Nat) (s : State),
    (s.adcRuns = false ∨ s.adc.regRun = false ∨ s.adc.injBusy = true → exec (.regularConversionEnd microvolts) s = .next s)
    ∧ (s.adcRuns = true → s.adc.regRun = true → s.adc.injBusy = false →
      let wraps := s.adc.roundLen.toNat ≤ s.adc.position
      let ch := if s.adc.position = 0 then 20 else slotChannel (s.adc.roundSlot.toList.getD (s.adc.position - 1) 0)
      let full := 1500000 * (if ch = 22 then 2 else if ch = 23 then 4 else 1)
      let code := min 4095 ((8192 * microvolts + full) / (2 * full))
      let good := 2690 ≤ code ∧ code ≤ 2772
      Completes (.regularConversionEnd microvolts) s fun t =>
        (∀ i : Fin 24, t.adc.result[i] = if i.val = ch then w16 code else s.adc.result[i])
        ∧ (s.adc.position = 0 → t.adc.refCode = w16 code ∧ t.adc.refRun = if good then 0 else s.adc.refRun + 1)
        ∧ (s.adc.position = 0 → ¬good → 2 ≤ s.adc.refRun → t.adc.refFault = true)
        ∧ (s.adc.position ≠ 0 ∨ good ∨ s.adc.refRun < 2 → t.adc.refFault = s.adc.refFault)
        ∧ (s.adc.position ≠ 0 → t.adc.refRun = s.adc.refRun)
        ∧ (wraps → t.adc.position = 0 ∧ t.adc.roundCount = s.adc.roundCount + 1)
        ∧ (¬wraps → t.adc.position = s.adc.position + 1 ∧ t.adc.roundCount = s.adc.roundCount)
        ∧ (∀ i : Fin 8, let w := s.adc.wcmp[i]
            (w.watched false ch → WindowTakes w t.adc.wcmp[i] code ∧ AlarmTold w t.adc.wcmp[i] t)
            ∧ (¬w.watched false ch → t.adc.wcmp[i] = w))
        ∧ t.layers = s.layers ∧ t.banks = s.banks ∧ t.mem = s.mem ∧ t.safety = s.safety ∧ t.current = s.current))
  ∧ (∀ (rising : Bool) (n : Nat) (s : State),
    let enabled := s.adcRuns = true ∧ s.adc.injCfg.getLsbD 10 = true
      ∧ s.adc.injCfg.getLsbD (if rising then 12 else 13) = true ∧ 2 ≤ n
    (¬enabled → exec (.adtrigEdge rising n) s = .next s)
    ∧ (enabled → s.adc.injBusy = true → exec (.adtrigEdge rising n) s = .next { s with adc := { s.adc with
        injDropped := satInc s.adc.injDropped } })
    ∧ (enabled → s.adc.injBusy = false → exec (.adtrigEdge rising n) s = .next { s with adc := { s.adc with
        injBusy := true, injSource := 3, injFrom := s.clock
        injAbort := if s.adc.regRun then satInc s.adc.injAbort else s.adc.injAbort } }))
  ∧ (∀ (subL : Bool) (obs : SlotObs) (s : State), s.frame.running = true → s.frame.fresh = false →
    (∀ n, (s.link n).echo = none) → s.adcRuns = true → s.adc.injCfg.getLsbD (if subL then 9 else 8) = true →
    Completes (.frameSlotStart (if subL then 52 else 18) obs) s fun t =>
      let sameEdge := s.adc.injSource = 3 ∧ t.clock / 20 = s.adc.injFrom / 20
      let marker : BitVec 2 := if subL then 2 else 1
      t.adc.injBusy = true
      ∧ (s.adc.injBusy = false → t.adc.injSource = marker ∧ t.adc.injDropped = s.adc.injDropped)
      ∧ (s.adc.injBusy = true → t.adc.injDropped = satInc s.adc.injDropped
          ∧ t.adc.injSource = (if sameEdge then marker else s.adc.injSource)
          ∧ (¬sameEdge → ∀ n, (t.cur n).skipped = true)))
  ∧ (∀ (microvolts : List Nat) (s : State),
    (s.adc.injBusy = false ∨ s.adcRuns = false → exec (.injectedSequenceEnd microvolts) s = .next s)
    ∧ (s.adc.injBusy = true → s.adcRuns = true →
      Completes (.injectedSequenceEnd microvolts) s fun t =>
        t.adc.injBusy = false
        ∧ (∀ k : Fin 4, t.adc.injResult[k] = if k.val < fld s.adc.injCfg 0 3 then
            w32 (2 ^ 31 + s.adc.injSource.toNat * 2 ^ 29
              + adcCode (slotChannel s.adc.injSlot[k]) (microvolts.getD k.val 0)) else s.adc.injResult[k])
        ∧ (∀ (i : Fin 8) (k : Fin 4), let w := s.adc.wcmp[i]
            let code := adcCode (slotChannel s.adc.injSlot[k]) (microvolts.getD k.val 0)
            (w.watched true k.val → k.val < fld s.adc.injCfg 0 3 → WindowTakes w t.adc.wcmp[i] code ∧ AlarmTold w t.adc.wcmp[i] t)
            ∧ (w.cfg.getLsbD 31 = false ∨ w.cfg.getLsbD 30 = false ∨ w.watched true k.val ∧ fld s.adc.injCfg 0 3 ≤ k.val →
                t.adc.wcmp[i] = w))
        ∧ t.adc.result = s.adc.result ∧ (s.adc.injSource = 3 → t.current = s.current)
        ∧ (s.adc.injSource ≠ 3 → s.raised 0x60 0x23 2 = true → ∀ n, (t.cur n).skipped = true)
        ∧ t.layers = s.layers ∧ t.banks = s.banks ∧ t.mem = s.mem ∧ t.safety = s.safety))

/-- TSENS and the thermal shutdown (R344 to R348): a sound reading sets TJ_RAW, the mean of the last eight and the peak; the
second reading in a row at 140 °C or above, or no conversion for 1 ms, takes the tiles into limp, holds the lamp in LIMP and is
reported with class 3, with class 4 after three restarts; 10 s below 115 °C end the hold, in FALLBACK or PARKED, but not a latched
one (R349). VALID and the peak wait for a reading. The moment of TSENS_NO_CONVERSION's shutdown (log entry 18), and that a restart of
a lamp that a reset has taken out of LIMP goes by its present state, START to FALLBACK (log entry 35), are the model's readings. -/
def Obligations.ThermalProtection : Prop :=
  (∀ (raw : Int) (rail : Bool) (s : State), s.tsensRuns = false →
    exec (.tsensReading raw rail) s = .next s ∧ exec .tsensNoConversion s = .next s)
  ∧ (∀ (raw : Int) (s : State), s.tsensRuns = true → s.tsens.broken = false → s.tsens.derating = false →
    s.aon.thermalHold = false → (∀ l, s.tsens.lastRaw = some l → (raw - l).natAbs ≤ 100) → -32768 < raw → raw < 1200 →
    (∀ x ∈ s.tsens.last8, -32768 < x ∧ x < 1200) →
    let last := (raw :: s.tsens.last8).take 8
    exec (.tsensReading raw false) s = .next { s with tsens := { s.tsens with
      raw := BitVec.ofInt 16 raw, tj := BitVec.ofInt 16 (Int.tdiv last.sum last.length), valid := true
      peak := if s.tsens.peak = 0x8000 ∨ s.tsens.peak.toInt < raw then BitVec.ofInt 16 raw else s.tsens.peak
      hotRun := 0, timerFrom := none, last8 := last, lastRaw := some raw, readingAt := s.clock } })
  ∧ (∀ (c : Instr) (s : State), s.tsensRuns = true → s.safety.power = .run → s.aon.thermalHold = false →
    (∃ raw, c = .tsensReading raw false ∧ 1400 ≤ raw ∧ raw < 32768 ∧ 1 ≤ s.tsens.hotRun)
        ∨ c = .tsensNoConversion ∧ s.inTicket c →
    Completes c s fun t =>
      t.aon.thermalHold = true ∧ t.safety.lamp = .limp ∧ t.tsens.stopped = true ∧ t.tsens.lampBefore = s.safety.lamp
      ∧ (∀ n, (t.link n).running = false ∧ (t.link n).lit = false)
      ∧ (∃ x ∈ t.faults.pending, x.unit = 0x61 ∧ (0x61, 0x1E, 0xFF, if s.aon.restarts = 3 then 4 else 3) ∈ x.causes)
      ∧ (c = .tsensNoConversion → t.tsens.valid = s.tsens.valid ∧ (s.tsens.valid = false → t.tsens.peak = s.tsens.peak))
      ∧ t.layers = s.layers ∧ t.banks = s.banks ∧ t.mem = s.mem)
  ∧ (∀ s : State,
    (∀ e, s.tsens.timerFrom = some e → s.aon.thermalHold = true → s.aon.fell = false → s.aon.restarts ≠ 3 →
      (s.safety.power = .run ∨ s.safety.power = .idle) → s.inTicket .thermalRestart →
      Completes .thermalRestart s fun t =>
        t.aon.thermalHold = false ∧ t.aon.restarts = s.aon.restarts + 1 ∧ t.tsens.stopped = false
        ∧ t.clock = max s.clock (e + 8000000000) ∧ t.safety.mux = .dark
        ∧ t.safety.lamp = (if (if s.safety.lamp = .limp then s.tsens.lampBefore else s.safety.lamp) ∈
            [.start, .service, .fallback] then .fallback else .parked)
        ∧ t.layers = s.layers ∧ t.banks = s.banks ∧ t.mem = s.mem ∧ t.links = s.links)
    ∧ (s.tsens.timerFrom = none ∨ s.aon.thermalHold = false ∨ s.aon.fell = true ∨ s.aon.restarts = 3 →
        exec .thermalRestart s = .next s))

/-! ### power states, supplies, clocks, storage and resets (chapters 17 and 18) -/

/-- POWER_CMD and the handshake (R5, R353 to R357): a state below RUN is entered from power state RUN with the lamp PARKED and no
entry in progress, and the write waits for it; each block acknowledges its step or refuses with its code and domain, which rolls
back, is reported with class 1, unit 0x70, the domain as its index, and is answered STATE_CONFLICT, and a step that gives no answer is
refused with code 0x09; with the roll-back the lanes that the handshake idled return (R356). The last step of an entry saves
the retention store for the states that have one, or is refused with 0x0B, answers the command and changes the power state. The
roll-back within the step and the refusal where the lamp has left PARKED are the model's choices (log entries 33 and 105). -/
def Obligations.PowerEntry : Prop :=
  (∀ (r : Requester) (s : State),
    let q (k : Nat) := writeOf r 0x8000 1 1 k
    let free := s.safety.power = .run ∧ s.safety.lamp = .parked ∧ s.power.target = none
    (∀ x ∈ [(Instr.powerCmdIdle r, 1, PowerState.idle), (.powerCmdSleep r, 2, .sleep), (.powerCmdDeep r, 3, .deep),
        (.powerCmdDew r, 4, .dew), (.powerCmdOff r, 5, .off)], s.accepts (q x.2.1) = true →
      (¬free → Refuses x.1 (q x.2.1) .stateConflict s)
      ∧ (free → Completes x.1 s fun t =>
        t.power = { s.power with target := some x.2.2, step := 1, stopped := [] }
        ∧ (t.port r.carrier).service = some { q := q x.2.1, awaits := .power, startedAt := s.clock, boundMs := 0 }
        ∧ t.safety = s.safety ∧ t.layers = s.layers ∧ t.banks = s.banks ∧ t.mem = s.mem ∧ t.links = s.links
        ∧ t.faults = s.faults))
    ∧ (s.accepts (q 0) = true →
      (s.safety.power = .run ∨ s.power.wakeEn.getLsbD 5 = false → Writes (.powerCmdRun r) (q 0) s s)
      ∧ (s.safety.power = .idle → s.power.wakeEn.getLsbD 5 = true → Completes (.powerCmdRun r) s fun t =>
        t.wroteDone (q 0) ∧ t.safety.power = .run ∧ t.power.lastWake = 5 ∧ t.power.wakeCount = satInc s.power.wakeCount
        ∧ t.frame.running = true ∧ t.layers = s.layers ∧ t.banks = s.banks ∧ t.mem = s.mem ∧ t.safety.lamp = s.safety.lamp)))
  ∧ (∀ (saveOk writing : Bool) (s : State), (∀ c, (s.port c).queue = []) → s.safety.power = .run →
    let answer := Instr.handshakeAnswer ⟨saveOk, writing⟩
    let rolledBack (code : Byte) (domain : BitVec 4) (t : State) := t.power.target = none ∧ t.power.step = 0
      ∧ t.power.stopped = [] ∧ t.power.lastRefusal = code ∧ t.power.refusingDomain = domain ∧ t.power.retSaved = s.power.retSaved
      ∧ t.safety = s.safety ∧ t.frame.rendering = true
      ∧ (∀ c v, (s.port c).service = some v → v.awaits = .power → (t.port c).service = none
          ∧ (v.q.r.dest ≠ 0 → (t.port c).last = some (responseTo v.q 0xFF (abortData .stateConflict))))
      ∧ t.faults = (report1 0x70 0x22 (domain.setWidth 8) s).faults
      ∧ (2 ∈ s.power.stopped → ∀ n, (t.link n).state = (s.link n).state
          ∧ ((s.link n).state = .up ∨ (s.link n).state = .down →
              (t.link n).fwdPs = (s.link n).wantFwd ∧ (t.link n).retPs = (s.link n).wantRet)
          ∧ ((s.link n).state ∈ [.training, .failed, .lost] → (s.link n).fwdPs = 1 → (t.link n).fwdPs = 0))
      ∧ (2 ∉ s.power.stopped → t.links = s.links)
      ∧ (s.power.idledTx = true → s.svh.txPs = 1 → t.svh.txPs = 0)
      ∧ t.layers = s.layers ∧ t.banks = s.banks ∧ t.mem = s.mem
    (s.power.target = none ∨ s.power.step < 2 → exec answer s = .next s)
    ∧ (∀ x, s.power.target = some x → 2 ≤ s.power.step →
      (s.safety.lamp ≠ .parked → Completes answer s (rolledBack 1 9))
      ∧ (∀ code domain, s.safety.lamp = .parked → s.stepRefusal writing s.power.step = some (code, domain) →
          Completes answer s (rolledBack code domain))
      ∧ (s.safety.lamp = .parked → s.stepRefusal writing s.power.step = none →
        (s.power.step < lastStep x → Completes answer s fun t =>
          (t.power.target = some x ∧ t.power.step = s.power.step + 1 ∧ t.power.stopped = s.power.stopped ++ [s.power.step])
          ∧ (∀ n, t.link n = if s.power.step = 2 ∧ (s.link n).fwdPs = 0 then { s.link n with fwdPs := 1 } else s.link n)
          ∧ t.svh = { s.svh with txPs := if s.power.step = 7 ∧ s.svh.txPs = 0 then 1 else s.svh.txPs }
          ∧ t.safety = s.safety ∧ t.net = s.net ∧ t.layers = s.layers ∧ t.banks = s.banks ∧ t.mem = s.mem
          ∧ t.faults = s.faults)
        ∧ (s.power.step = lastStep x → x ∈ [.sleep, .deep, .dew] → saveOk = false → Completes answer s (rolledBack 0x0B 1))
        ∧ (s.power.step = lastStep x → x ≠ .run → (x ∈ [.sleep, .deep, .dew] → saveOk = true) → Completes answer s fun t =>
          t.safety.power = x ∧ t.power.target = none ∧ t.power.step = 0 ∧ t.frame.running = false
          ∧ (∀ c v, c ≠ .svh → (s.port c).service = some v → v.awaits = .power → v.q.r.dest ≠ 0 →
              (t.port c).last = some (responseTo v.q 0x82 []))
          ∧ (x ∈ [.sleep, .deep, .dew] → t.power.retSaved = true
            ∧ ∀ b : Fin 4, (t.power.ret[b]).data.length = 4092 ∧ (t.power.ret[b]).crc = crc32cOf (t.power.ret[b]).data)
          ∧ t.mem.flash = s.mem.flash ∧ (x ∈ [.idle, .sleep] → t.banks = s.banks ∧ t.safety.lamp = s.safety.lamp)
          ∧ (x = .idle → t.layers = s.layers ∧ t.mem = s.mem ∧ ∀ n, (t.link n).state = (s.link n).state))))
    ∧ (s.power.target = none → exec .handshakeTimeout s = .next s)
    ∧ (∀ x, s.power.target = some x → Completes .handshakeTimeout s (rolledBack 9 (stepDomain s.power.step))))

/-- The wakes (R343, R360 to R364): a source that is not enabled, or whose condition does not hold, wakes nothing. From IDLE the
frame grid runs again; from SLEEP the layers come back with retention bank 1 and are lost without it, the links train and WAKE_OUT
rises; from DEEP and DEW the block boots and its lamp is LIMP under the fell latch, RECOVERY without Gorse or with a store that
failed a check, and PARKED otherwise (R363); from power OFF it boots as after a reset. A bank
passes where the CRC-32C of its bytes is the one stored. WAKE_ACK lowers WAKE_OUT; a DEW sample compares the input that
DEW_CMP_CFG names with its threshold. What SLEEP keeps and the boot in one step are the model's (log entries 11, 84 and 96). -/
def Obligations.Wakes : Prop :=
  (∀ (source : Fin 7) (decay : List (Fin 4 × Nat × Byte)) (env : BootEnv) (s : State), (∀ c, (s.port c).queue = []) →
    s.aon.held = false →
    let wake := Instr.wakeEvent source decay env
    let ok := s.banksPass decay
    (s.safety.power = .run ∨ s.wakeHolds source = false → exec wake s = .next s)
    ∧ (source ≠ 0 → s.power.wakeEn.getLsbD source.val = false → exec wake s = .next s)
    ∧ (source = 0 → s.safety.power = .idle → Completes wake s fun t =>
      t.safety = { s.safety with power := .run } ∧ t.frame.running = true ∧ t.frame.fresh = true ∧ t.power.lastWake = 0
      ∧ t.adc.dewWoke = false ∧ t.power.wakeCount = satInc s.power.wakeCount ∧ t.layers = s.layers ∧ t.banks = s.banks
      ∧ t.mem = s.mem)
    ∧ (source = 0 → s.safety.power = .sleep →
      (s.power.thermalWake = false → Completes wake s fun t =>
        t.safety.power = .run ∧ t.safety.lamp = s.safety.lamp ∧ t.aon.wakeOut = true ∧ t.power.lastWake = 0
        ∧ t.power.wakeCount = satInc s.power.wakeCount ∧ t.power.retPass = ok ∧ t.power.retFail = ~~~ok
        ∧ t.power.retSaved = false ∧ t.layers = (if ok.getLsbD 1 then s.power.retLayers else .replicate 8 {})
        ∧ (∀ n, (t.link n).state = .training) ∧ t.svh.txPs = 0 ∧ t.svh.rxPs = 0 ∧ t.frame.running = true ∧ t.banks = s.banks
        ∧ t.mem = s.mem)
      ∧ (s.power.thermalWake = true → s.aon.thermalHold = false → Completes wake s fun t =>
        t.safety.power = .run ∧ t.safety.lamp = .limp ∧ t.aon.thermalHold = true ∧ t.aon.wakeOut = true
        ∧ t.aon.tripPeak = s.power.thermalTrip ∧ t.banks = s.banks ∧ t.mem = s.mem))
    ∧ (source = 0 → s.safety.power = .deep ∨ s.safety.power = .dew → Completes wake s fun t =>
        t.safety.power = .run ∧ t.aon.wakeOut = true ∧ t.power.lastWake = 0 ∧ t.aon.fell = s.aon.fell
        ∧ t.safety.lamp = (if s.aon.fell = true then .limp
            else if t.net.romOnly = true ∨ t.hedge.verified = false then .recovery else .parked)
        ∧ t.clocks.lastReset = 7 ∧ t.adc.dewWoke = false ∧ t.net.served = true ∧ t.power.retPass = ok
        ∧ t.mem.flash = s.mem.flash ∧ t.mem.fm = [])
    ∧ (source = 3 → s.safety.power = .dew → s.power.wakeEn.getLsbD 3 = true → s.power.dewConfirm.toNat ≤ s.power.dewRun →
      Completes wake s fun t => t.safety.power = .run ∧ t.power.lastWake = 3 ∧ t.adc.dewWoke = true ∧ t.aon.wakeOut = true)
    ∧ (source = 0 → s.safety.power = .off → Completes wake s fun t =>
        t.safety.power = .run ∧ t.clocks.lastReset = 3 ∧ t.aon.fell = false ∧ t.aon.wakeOut = false ∧ t.power.retPass = 0
        ∧ t.mem.flash = s.mem.flash ∧ t.mem.fm = []))
  ∧ (∀ (b : Fin 4) (s : State), (s.power.ret[b]).data.length = 4092 →
    (s.banksPass []).getLsbD b.val = ((s.power.ret[b]).crc == crc32cOf (s.power.ret[b]).data))
  ∧ (∀ (r : Requester) (s : State), s.takes r 0x8040 3 1 1 = true →
    Writes (.wakeAck r) (writeOf r 0x8040 3 1 1) s { s with aon := { s.aon with wakeOut := false } })
  ∧ (∀ (ain : List Nat) (s : State),
    let cfg := s.adc.dewCfg
    let on := s.aon.held = false ∧ s.safety.power = .dew ∧ cfg.getLsbD 31 = true
    (¬on → exec (.dewSample ain) s = .next s)
    ∧ (on →
      let input := ain.getD (fld cfg 16 5) 0
      let wake := if cfg.getLsbD 30 then decide (1024 * input < 1500000 * fld cfg 0 10)
        else decide (1500000 * fld cfg 0 10 < 1024 * input)
      exec (.dewSample ain) s = .next { s with
        adc := { s.adc with dewLast := wake, dewWoke := s.adc.dewWoke || wake }
        power := { s.power with
          dewSamples := satInc s.power.dewSamples, dewRun := if wake then s.power.dewRun + 1 else 0 } }))

/-- Supplies, clocks and the PLL (R365 to R367, R372 to R374): a second sample in a row below the warning threshold starts a
warning that freezes swaps and is reported, and refuses an entry in progress with code 0x0A (R369); SAG_LIMIT without recovery is
class 3; a window of the clock monitor fails for a domain whose count lies outside 5 % of its nominal value, and a second failing one
in a row is a finding with the class of Table 18-1 (R372); all domains failing together, by the crystal's ratio within 1 %, under
PLL lock make the LPRC suspect, with class 1 and the crystal as the reference from then on (R374); a lost PLL lock sets the fell latch and LIMP, and the record follows when SAFE runs again. Reports in each further window are the model's reading (log entry 77). -/
def Obligations.SuppliesAndClocks : Prop :=
  (∀ (i : Fin 4) (mv : U16) (s : State),
    let x := s.power.supplies[i]
    let warn := #v[745, 745, 1710, 3100][i]
    let recover := #v[755, 755, 1720, 3110][i]
    let taken : Supply := { x with
      mv := mv, sagMin := if mv.toNat < x.sagMin.toNat then mv else x.sagMin
      lowRun := if mv.toNat < warn then x.lowRun + 1 else 0, highRun := if recover ≤ mv.toNat then x.highRun + 1 else 0 }
    let put (y : Supply) : State := { s with power := { s.power with supplies := vput s.power.supplies i y } }
    (s.suppliesRun = false → exec (.supplySample i mv) s = .next s ∧ exec (.longDip i) s = .next s)
    ∧ (s.suppliesRun = true → x.warn = false → ¬(mv.toNat < warn ∧ 1 ≤ x.lowRun) →
        exec (.supplySample i mv) s = .next (put taken))
    ∧ (s.suppliesRun = true → x.warn = false → mv.toNat < warn → 1 ≤ x.lowRun → s.power.target = none →
        exec (.supplySample i mv) s = .next (report1 0x68 0x1C (w8 i.val)
          (let t := put { taken with warn := true, seen := true, sagCount := satInc x.sagCount, dipFrom := s.clock, highRun := 0 }
           { t with power := { t.power with frozen := true } })))
    ∧ (s.suppliesRun = true → s.safety.power = .run → x.warn = false → mv.toNat < warn → 1 ≤ x.lowRun →
      s.power.target.isSome = true → (∀ c, (s.port c).queue = []) →
        Completes (.supplySample i mv) s fun t => t.power.target = none ∧ t.power.step = 0 ∧ t.power.stopped = []
          ∧ t.power.lastRefusal = 0xA ∧ t.power.refusingDomain = 11 ∧ t.power.frozen = true
          ∧ (t.power.supplies[i]).warn = true ∧ (t.power.supplies[i]).sagCount = satInc x.sagCount
          ∧ t.faults = (report1 0x70 0x22 11 (report1 0x68 0x1C (w8 i.val) s)).faults
          ∧ (∀ c v, (s.port c).service = some v → v.awaits = .power → v.q.r.dest ≠ 0 →
              (t.port c).last = some (responseTo v.q 0xFF (abortData .stateConflict)))
          ∧ t.safety = s.safety ∧ t.layers = s.layers ∧ t.banks = s.banks ∧ t.mem = s.mem)
    ∧ (s.suppliesRun = true → x.warn = true → ¬(recover ≤ mv.toNat ∧ 1 ≤ x.highRun) →
        exec (.supplySample i mv) s = .next (put taken))
    ∧ (s.suppliesRun = true → x.warn = true → recover ≤ mv.toNat → 1 ≤ x.highRun →
      (∀ j, j ≠ i → (s.power.supplies[j]).warn = false) →
        Completes (.supplySample i mv) s fun t => (t.power.supplies[i]).warn = false ∧ (t.power.supplies[i]).long = false
          ∧ t.power.freezeLeft = 2 ∧ t.power.frozen = s.power.frozen ∧ (t.power.supplies[i]).sagCount = x.sagCount
          ∧ (∀ p, t.bank p = if (s.bank p).reverify then
              { (s.bank p).setState (s.bank p).inactive .verifying with reverify := false } else s.bank p)
          ∧ t.layers = s.layers ∧ t.mem = s.mem ∧ t.faults = s.faults ∧ t.safety = s.safety)
    ∧ (s.suppliesRun = true → x.warn = true → recover ≤ mv.toNat → 1 ≤ x.highRun → (∃ j, j ≠ i ∧ (s.power.supplies[j]).warn = true) →
        Completes (.supplySample i mv) s fun t => (t.power.supplies[i]).warn = false ∧ (t.power.supplies[i]).long = false
          ∧ t.power.freezeLeft = s.power.freezeLeft ∧ t.banks = s.banks ∧ t.layers = s.layers ∧ t.mem = s.mem
          ∧ t.faults = s.faults ∧ t.safety = s.safety)
    ∧ (s.suppliesRun = true → x.warn = true → x.long = false → s.inTicket (.longDip i) →
      let s1 := (put { x with long := true }).at_ (x.dipFrom + 800 * s.power.sagLimit.toNat)
      exec (.longDip i) s = .next (report 0x68 0x1C (w8 i.val) 3 {} s1))
    ∧ (x.warn = false ∨ x.long = true → exec (.longDip i) s = .next s))
  ∧ (∀ (counts : List U32) (s : State),
    let count (i : Fin 11) : Nat := (counts.getD i.val 0).toNat
    let runs := s.aon.held = false ∧ s.net.served = true ∧ (s.safety.power = .run ∨ s.safety.power = .idle)
    (¬runs → exec (.clockMonitorWindow counts) s = .next s)
    ∧ (runs →
      let nominal (i : Fin 11) : Nat := #v[781250, 390625, 195313, 610352, 610352, 78125, 39063, 195313, 0, 0, 24414][i]
      let cls (i : Fin 11) : Nat := #v[4, 3, 4, 1, 4, 3, 1, 3, 1, 4, 4][i]
      let off (i : Fin 11) : Prop := if s.clocks.lprcSuspect = true then
          i ≠ 10 ∧ ¬(95 * nominal i * count 10 ≤ 100 * count i * 24414 ∧ 100 * count i * 24414 ≤ 105 * nominal i * count 10)
        else ¬(95 * nominal i ≤ 100 * count i ∧ 100 * count i ≤ 105 * nominal i)
      let fails (i : Fin 11) : Prop := s.counted i = true ∧ off i
      let likeCrystal (i : Fin 11) : Prop := 99 * nominal i * count 10 ≤ 100 * count i * 24414
        ∧ 100 * count i * 24414 ≤ 101 * nominal i * count 10
      let common := s.clocks.pllLocked = true ∧ s.clocks.lprcSuspect = false
        ∧ ∀ i, s.counted i = true → off i ∧ likeCrystal i
      let again (i : Fin 11) : Prop := fails i ∧ 1 ≤ s.clocks.failRun[i]
      Completes (.clockMonitorWindow counts) s fun t =>
        (∀ i : Fin 11, (t.clocks.fail.getLsbD i.val = true ↔ fails i)
          ∧ t.clocks.count[i] = if s.counted i then counts.getD i.val 0 else s.clocks.count[i])
        ∧ (common → t.clocks.lprcSuspect = true ∧ t.clocks.findings = satInc s.clocks.findings
            ∧ (∀ i : Fin 11, t.clocks.failRun[i] = 0) ∧ t.faults = (report1 0x69 0x1D 8 s).faults)
        ∧ (¬common → t.clocks.lprcSuspect = s.clocks.lprcSuspect
            ∧ (∀ i : Fin 11, (fails i → t.clocks.failRun[i] = s.clocks.failRun[i] + 1)
                ∧ (¬fails i → t.clocks.failRun[i] = 0)
                ∧ (again i → ∃ x ∈ t.faults.pending, x.unit = 0x69 ∧ (0x69, 0x1D, w8 i.val, cls i) ∈ x.causes))
            ∧ (∀ l : List (Fin 11), l.Nodup → (∀ i, i ∈ l ↔ again i) →
                t.clocks.findings = satAdd s.clocks.findings l.length)
            ∧ ((∀ i, ¬again i) → t.faults = s.faults))
        ∧ t.layers = s.layers ∧ t.banks = s.banks ∧ t.mem = s.mem ∧ t.safety = s.safety))
  ∧ (∀ s : State,
    (s.aon.held = true ∨ s.clocks.pllLocked = false → exec .pllLockLoss s = .next s)
    ∧ (s.aon.held = false → s.clocks.pllLocked = true → Completes .pllLockLoss s fun t =>
      t.aon = { s.aon with fell := true, lockLossDue := true } ∧ t.safety.lamp = .limp ∧ t.clocks.pllLocked = false
      ∧ t.layers = s.layers ∧ t.banks = s.banks ∧ t.mem = s.mem ∧ t.links = s.links)
    ∧ (s.aon.held = false → s.aon.lockLossDue = true → s.clocks.pllLocked = false →
      exec .safeClockReturn s = .next (report 0x69 0x1D 9 4 {} { s with
        aon := { s.aon with lockLossDue := false }, clocks := { s.clocks with pllLocked := true } }))
    ∧ (s.aon.lockLossDue = false → exec .safeClockReturn s = .next s))

/-- NVM_CMD and CALSET_WRITE (R309, R311, R386 to R388): outside PARKED they are refused; STORE takes the values at its start and
its end makes them the snapshot, or keeps the old one; RESTORE_DEFAULTS empties it. CALSET_WRITE is a long operation from its
start on, answered BUSY; a set that fails its checks leaves flash untouched and ends refused, and one that passes is in flash, byte
for byte, once the write has ended. Neither runs while the handshake has stopped Gorse (R355). CALSET_STATUS and the bytes in
between are the model's (log entries 9, 38, 39 and 93). -/
def Obligations.Persistence : Prop :=
  (∀ (r : Requester) (s : State),
    let q (k : Nat) := writeOf r 0x8800 1 1 k
    (s.safety.lamp ≠ .parked → ∀ p ∈ [(Instr.store r, 1), (.restoreDefaults r, 2)], s.accepts (q p.2) = true →
      Refuses p.1 (q p.2) .stateConflict s)
    ∧ (s.safety.lamp = .parked → s.accepts (q 1) = true →
      (s.cairn.writing.isSome = true ∨ s.blockStopped 5 = true → Refuses (.store r) (q 1) .stateConflict s)
      ∧ (s.cairn.writing = none → s.blockStopped 5 = false → Completes (.store r) s fun t =>
        t.cairn = { s.cairn with writing := some s.storeValues }
        ∧ (t.port r.carrier).service = some { q := q 1, awaits := .long .store, startedAt := s.clock, boundMs := 5 }
        ∧ t.safety = s.safety ∧ t.layers = s.layers ∧ t.banks = s.banks ∧ t.mem = s.mem ∧ t.faults = s.faults))
    ∧ (s.safety.lamp = .parked → s.accepts (q 2) = true →
      Writes (.restoreDefaults r) (q 2) s { s with cairn := { s.cairn with snapshot := [] } }))
  ∧ (∀ (ok : Bool) (s : State), (∀ c, (s.port c).queue = []) →
    (s.cairn.writing = none → exec (.storeEnd ok) s = .next s)
    ∧ (∀ v, s.cairn.writing = some v →
      (ok = true → s.cairn.failing = false → Completes (.storeEnd ok) s fun t =>
        t.cairn.writing = none ∧ t.cairn.snapshot = v ∧ t.cairn.storeCount = satInc s.cairn.storeCount
        ∧ t.cairn.storeFailed = false ∧ t.faults = s.faults ∧ t.safety = s.safety ∧ t.layers = s.layers ∧ t.mem = s.mem)
      ∧ (ok = false ∨ s.cairn.failing = true → Completes (.storeEnd ok) s fun t =>
        t.cairn.writing = none ∧ t.cairn.snapshot = s.cairn.snapshot ∧ t.cairn.storeCount = s.cairn.storeCount
        ∧ t.cairn.storeFailed = true ∧ t.cairn.writeErr = satInc s.cairn.writeErr
        ∧ t.faults = (report1 0x21 0x1A 0xFF s).faults ∧ t.safety = s.safety ∧ t.layers = s.layers ∧ t.mem = s.mem)))
  ∧ (∀ (r : Requester) (s : State),
    let q := writeOf r 0x8810 2 1 1
    let m := s.mgmt
    let src := m.calsetSrc.toNat
    let free := s.safety.lamp = .parked ∧ m.calsetWriting = false ∧ s.blockStopped 5 = false
    s.accepts q = true →
    (¬free → Refuses (.calsetWrite r) q .stateConflict s)
    ∧ (free → s.mem.wf = true → Completes (.calsetWrite r) s fun t =>
        (∃ v, (t.port r.carrier).service = some v ∧ v.q = q ∧ v.awaits = .long .calset)
        ∧ (t.port r.carrier).last = some (responseTo q 0xFE (bytes32 (w32 s.calsetBound) ++ [0x10, 0x88, 2, 0]))
        ∧ t.mgmt = { m with
            calsetFailed := false, calsetDigestOk := s.setOk src, calsetChecked := s.setOk src, calsetWriting := true
            calsetFrom := m.calsetSrc, calsetValid := m.calsetValid && !s.setOk src }
        ∧ t.mem.fm = s.mem.fm
        ∧ (s.setOk src = false → t.mem.flash = s.mem.flash ∧ t.faults = (reportBad (s.setBad src) s).faults)
        ∧ (s.setOk src = true → t.flashRead 0xA00FFC 4 = [0xFF, 0xFF, 0xFF, 0xFF])
        ∧ (∀ a, a < 0xA00000 ∨ 0xE10000 ≤ a → cellGet flashReset t.mem.flash a = cellGet flashReset s.mem.flash a)
        ∧ t.safety = s.safety ∧ t.layers = s.layers ∧ t.banks = s.banks))
  ∧ (∀ (done : Bool) (s : State), (∀ c, (s.port c).queue = []) → s.mem.wf = true →
    let m := s.mgmt
    let src := m.calsetFrom.toNat
    let head := s.fmRead src 0x1000
    (m.calsetWriting = false → exec (.calsetWriteEnd done) s = .next s)
    ∧ (m.calsetWriting = true → m.calsetChecked = false → Completes (.calsetWriteEnd done) s fun t =>
      t.mgmt = { m with calsetWriting := false, calsetFailed := true, calsetDigestOk := false }
      ∧ (∀ c v, (s.port c).service = some v → v.awaits = .long .calset → v.q.r.dest ≠ 0 →
          (t.port c).service = none ∧ (t.port c).last = some (responseTo v.q 0xFF (abortData .valueRange)))
      ∧ t.mem = s.mem ∧ t.faults = s.faults ∧ t.safety = s.safety ∧ t.layers = s.layers)
    ∧ (m.calsetWriting = true → m.calsetChecked = true → done = true → s.setOk src = true →
      Completes (.calsetWriteEnd done) s fun t =>
        t.mgmt.calsetWriting = false ∧ t.mgmt.calsetFailed = false ∧ t.mgmt.calsetDigestOk = true
        ∧ t.flashRead 0xA00000 0x1000 = head
        ∧ (∀ n : Fin 2, t.flashRead (0xA01000 + 0x200000 * n.val) (2 * setWords head n) = s.setBytes src head n)
        ∧ (∀ a, a < 0xA00000 ∨ 0xE10000 ≤ a → cellGet flashReset t.mem.flash a = cellGet flashReset s.mem.flash a)
        ∧ t.mem.fm = s.mem.fm ∧ t.safety = s.safety ∧ t.layers = s.layers)
    ∧ (m.calsetWriting = true → m.calsetChecked = true → done = false → Completes (.calsetWriteEnd done) s fun t =>
      t.mgmt.calsetWriting = false ∧ t.mgmt.calsetFailed = true ∧ t.mgmt.calsetDigestOk = false
      ∧ (s.setBad src = [] → t.faults = (report1 0x01 0x1A 0xFF s).faults) ∧ t.mem.fm = s.mem.fm ∧ t.safety = s.safety
      ∧ t.layers = s.layers))

/-- The resets (R375 to R378, R381, R384, R395): PORST_N low for 1 µs or more holds the block in reset, and a shorter pulse is
ignored; its release, with the pin high for 1 µs or more, and every other reset that is taken boots the block into START, RECOVERY or LIMP with flash, the queue of
commands and the clock kept, field memory empty, the cause shown, the state of PD_AON kept by those that keep it and cleared by the
others, and LIMP only under the fell latch. RESET_CMD needs its key and one of four lamp states. The boot in one step, with what
the outside supplies, and the retention store within PD_AON are the model's reading (log entries 11 and 119), as are a supply reset of a
block that is held or that is in DEEP, DEW or OFF (log entry 104) and a release that finds PORST_N not holding the block (log
entry 4). -/
def Obligations.Resets : Prop :=
  (∀ (n : Nat) (s : State), (n < 1000 → exec (.porstNAssert n) s = .next s)
    ∧ (1000 ≤ n → Completes (.porstNAssert n) s fun t =>
      t.aon.held = true ∧ t.aon.porst = true ∧ t.aon.fell = false ∧ t.net.served = false ∧ t.mem.fm = []
      ∧ t.mem.flash = s.mem.flash ∧ (∀ p : Fin 8, (t.bank p).bank0 = .empty ∧ (t.bank p).bank1 = .empty)
      ∧ t.safety.mux = .dark ∧ t.power = {} ∧ t.pending = s.pending))
  ∧ (∀ (env : BootEnv) (s : State),
    let booted (code : Byte) (t : State) := t.aon.held = false ∧ t.net.served = true ∧ t.safety.power = .run
      ∧ t.clocks.lastReset = code ∧ t.aon.source = code ∧ t.frame.running = true ∧ t.mem.fm = []
      ∧ t.mem.flash = s.mem.flash ∧ t.clock = s.clock + env.cycles ∧ t.pending = s.pending
      ∧ t.safety.lamp ∈ [.start, .recovery, .limp] ∧ (t.aon.fell = false → t.safety.lamp ≠ .limp)
      ∧ (t.net.romOnly = true → t.safety.lamp ∈ [.recovery, .limp])
      ∧ (t.hedge.verified = false → t.safety.lamp ∈ [.recovery, .limp])
    let cleared (t : State) := t.aon.fell = false ∧ t.aon.thermalHold = false ∧ t.power.wakeCount = 0
      ∧ t.power.lastWake = 0xF ∧ t.power.retFailCount = 0 ∧ t.power.retSaved = false
    let kept (t : State) := t.aon.fell = s.aon.fell ∧ t.aon.thermalHold = s.aon.thermalHold ∧ t.aon.restarts = s.aon.restarts
      ∧ t.aon.repeats = s.aon.repeats ∧ (s.aon.fell = true → t.safety.lamp = .limp)
      ∧ t.power.wakeCount = s.power.wakeCount ∧ t.power.lastWake = s.power.lastWake
      ∧ t.power.retFailCount = s.power.retFailCount ∧ t.power.ret = s.power.ret
    (s.aon.porst = true → 1000 ≤ env.highNs → Completes (.porstNRelease env) s (fun t => booted 1 t ∧ cleared t))
    ∧ (s.aon.porst = false ∨ env.highNs < 1000 → exec (.porstNRelease env) s = .next s)
    ∧ (s.aon.held = true → Completes (.supplyReset env) s fun t =>
        t.aon.held = true ∧ t.aon.porst = s.aon.porst ∧ t.aon.fell = false ∧ t.aon.thermalHold = false ∧ t.net.served = false
        ∧ t.mem.fm = [] ∧ t.mem.flash = s.mem.flash ∧ t.pending = s.pending)
    ∧ (s.aon.held = false →
      (s.safety.power ∈ [.run, .idle, .sleep] → Completes (.supplyReset env) s fun t => booted 2 t ∧ cleared t)
      ∧ (s.safety.power ∈ [.deep, .dew, .off] → exec (.supplyReset env) s = .next s)
      ∧ (s.gorse = true → Completes (.managementWatchdogExpiry env) s fun t => booted 4 t ∧ kept t)
      ∧ (s.gorse = false → exec (.managementWatchdogExpiry env) s = .next s)
      ∧ (s.aon.pllResets = 0 → Completes (.pllNotLockedReset env) s fun t => booted 6 t ∧ kept t ∧ t.aon.pllResets = 1)
      ∧ (s.aon.pllResets ≠ 0 → Completes (.pllNotLockedReset env) s fun t =>
          t.aon.held = true ∧ t.aon.source = 6 ∧ t.aon.fell = s.aon.fell ∧ t.net.served = false ∧ t.mem.fm = [])
      ∧ Completes (.testReset true env) s (fun t => booted 8 t ∧ kept t))
    ∧ (s.aon.held = true → ∀ x ∈ [Instr.managementWatchdogExpiry env, .pllNotLockedReset env, .testReset true env],
        exec x s = .next s)
    ∧ exec (.testReset false env) s = .next s
    ∧ (∀ (r : Requester) (value : U32),
      let q := { writeOf r 0x8830 1 4 value.toNat with env := some env }
      let states := s.safety.lamp ∈ [.parked, .test, .recovery, .limp]
      s.accepts q = true →
      (¬states → Refuses (.resetCmd r value env) q .stateConflict s)
      ∧ (states → value ≠ 0x5AA5C33C → Refuses (.resetCmd r value env) q .valueRange s)
      ∧ (states → value = 0x5AA5C33C → Completes (.resetCmd r value env) s fun t => booted 5 t ∧ kept t)))
end

