-- ==== Sys2Proof/Laws/State.lean ====
section
/-!
SUPPORT. Laws/State.lean: what each update of State leaves of each field, one lemma per field per update, so that no proof
unfolds a record update; and what a place of a table reads after the update of a place.
-/
namespace Sys2Proof.Machine

/-! ### places of a vector -/

theorem vmod_same {α : Type} {k : Nat} (v : Vector α k) (i : Fin k) (f : α → α) : (vmod v i f)[i] = f v[i] := by
  simp [vmod]

theorem vmod_other {α : Type} {k : Nat} (v : Vector α k) (i j : Fin k) (f : α → α) (h : i ≠ j) :
    (vmod v i f)[j] = v[j] := by
  have h2 : i.val ≠ j.val := fun e => h (Fin.ext e)
  simp [vmod, h2]

/-! ### State.modLayer -/

@[simp] theorem State.modLayer_pending (s : State) (n : Fin 8) (f : Layer → Layer) : (s.modLayer n f).pending = s.pending := rfl
@[simp] theorem State.modLayer_clock (s : State) (n : Fin 8) (f : Layer → Layer) : (s.modLayer n f).clock = s.clock := rfl
@[simp] theorem State.modLayer_freeCount (s : State) (n : Fin 8) (f : Layer → Layer) : (s.modLayer n f).freeCount = s.freeCount := rfl
@[simp] theorem State.modLayer_mem (s : State) (n : Fin 8) (f : Layer → Layer) : (s.modLayer n f).mem = s.mem := rfl
@[simp] theorem State.modLayer_group (s : State) (n : Fin 8) (f : Layer → Layer) : (s.modLayer n f).group = s.group := rfl
@[simp] theorem State.modLayer_essential (s : State) (n : Fin 8) (f : Layer → Layer) : (s.modLayer n f).essential = s.essential := rfl
@[simp] theorem State.modLayer_stamp (s : State) (n : Fin 8) (f : Layer → Layer) : (s.modLayer n f).stamp = s.stamp := rfl
@[simp] theorem State.modLayer_warp (s : State) (n : Fin 8) (f : Layer → Layer) : (s.modLayer n f).warp = s.warp := rfl
@[simp] theorem State.modLayer_banks (s : State) (n : Fin 8) (f : Layer → Layer) : (s.modLayer n f).banks = s.banks := rfl
@[simp] theorem State.modLayer_pack (s : State) (n : Fin 8) (f : Layer → Layer) : (s.modLayer n f).pack = s.pack := rfl
@[simp] theorem State.modLayer_sched (s : State) (n : Fin 8) (f : Layer → Layer) : (s.modLayer n f).sched = s.sched := rfl
@[simp] theorem State.modLayer_frame (s : State) (n : Fin 8) (f : Layer → Layer) : (s.modLayer n f).frame = s.frame := rfl
@[simp] theorem State.modLayer_tb (s : State) (n : Fin 8) (f : Layer → Layer) : (s.modLayer n f).tb = s.tb := rfl
@[simp] theorem State.modLayer_svh (s : State) (n : Fin 8) (f : Layer → Layer) : (s.modLayer n f).svh = s.svh := rfl
@[simp] theorem State.modLayer_links (s : State) (n : Fin 8) (f : Layer → Layer) : (s.modLayer n f).links = s.links := rfl
@[simp] theorem State.modLayer_diag (s : State) (n : Fin 8) (f : Layer → Layer) : (s.modLayer n f).diag = s.diag := rfl
@[simp] theorem State.modLayer_current (s : State) (n : Fin 8) (f : Layer → Layer) : (s.modLayer n f).current = s.current := rfl
@[simp] theorem State.modLayer_diagCfg (s : State) (n : Fin 8) (f : Layer → Layer) : (s.modLayer n f).diagCfg = s.diagCfg := rfl
@[simp] theorem State.modLayer_guard (s : State) (n : Fin 8) (f : Layer → Layer) : (s.modLayer n f).guard = s.guard := rfl
@[simp] theorem State.modLayer_stile (s : State) (n : Fin 8) (f : Layer → Layer) : (s.modLayer n f).stile = s.stile := rfl
@[simp] theorem State.modLayer_hedge (s : State) (n : Fin 8) (f : Layer → Layer) : (s.modLayer n f).hedge = s.hedge := rfl
@[simp] theorem State.modLayer_safety (s : State) (n : Fin 8) (f : Layer → Layer) : (s.modLayer n f).safety = s.safety := rfl
@[simp] theorem State.modLayer_twin (s : State) (n : Fin 8) (f : Layer → Layer) : (s.modLayer n f).twin = s.twin := rfl
@[simp] theorem State.modLayer_access (s : State) (n : Fin 8) (f : Layer → Layer) : (s.modLayer n f).access = s.access := rfl
@[simp] theorem State.modLayer_faults (s : State) (n : Fin 8) (f : Layer → Layer) : (s.modLayer n f).faults = s.faults := rfl
@[simp] theorem State.modLayer_aon (s : State) (n : Fin 8) (f : Layer → Layer) : (s.modLayer n f).aon = s.aon := rfl
@[simp] theorem State.modLayer_net (s : State) (n : Fin 8) (f : Layer → Layer) : (s.modLayer n f).net = s.net := rfl
@[simp] theorem State.modLayer_mgmt (s : State) (n : Fin 8) (f : Layer → Layer) : (s.modLayer n f).mgmt = s.mgmt := rfl
@[simp] theorem State.modLayer_adc (s : State) (n : Fin 8) (f : Layer → Layer) : (s.modLayer n f).adc = s.adc := rfl
@[simp] theorem State.modLayer_tsens (s : State) (n : Fin 8) (f : Layer → Layer) : (s.modLayer n f).tsens = s.tsens := rfl
@[simp] theorem State.modLayer_power (s : State) (n : Fin 8) (f : Layer → Layer) : (s.modLayer n f).power = s.power := rfl
@[simp] theorem State.modLayer_clocks (s : State) (n : Fin 8) (f : Layer → Layer) : (s.modLayer n f).clocks = s.clocks := rfl
@[simp] theorem State.modLayer_cairn (s : State) (n : Fin 8) (f : Layer → Layer) : (s.modLayer n f).cairn = s.cairn := rfl

/-! ### State.modBank -/

@[simp] theorem State.modBank_pending (s : State) (n : Fin 8) (f : BankPair → BankPair) : (s.modBank n f).pending = s.pending := rfl
@[simp] theorem State.modBank_clock (s : State) (n : Fin 8) (f : BankPair → BankPair) : (s.modBank n f).clock = s.clock := rfl
@[simp] theorem State.modBank_freeCount (s : State) (n : Fin 8) (f : BankPair → BankPair) : (s.modBank n f).freeCount = s.freeCount := rfl
@[simp] theorem State.modBank_mem (s : State) (n : Fin 8) (f : BankPair → BankPair) : (s.modBank n f).mem = s.mem := rfl
@[simp] theorem State.modBank_layers (s : State) (n : Fin 8) (f : BankPair → BankPair) : (s.modBank n f).layers = s.layers := rfl
@[simp] theorem State.modBank_group (s : State) (n : Fin 8) (f : BankPair → BankPair) : (s.modBank n f).group = s.group := rfl
@[simp] theorem State.modBank_essential (s : State) (n : Fin 8) (f : BankPair → BankPair) : (s.modBank n f).essential = s.essential := rfl
@[simp] theorem State.modBank_stamp (s : State) (n : Fin 8) (f : BankPair → BankPair) : (s.modBank n f).stamp = s.stamp := rfl
@[simp] theorem State.modBank_warp (s : State) (n : Fin 8) (f : BankPair → BankPair) : (s.modBank n f).warp = s.warp := rfl
@[simp] theorem State.modBank_pack (s : State) (n : Fin 8) (f : BankPair → BankPair) : (s.modBank n f).pack = s.pack := rfl
@[simp] theorem State.modBank_sched (s : State) (n : Fin 8) (f : BankPair → BankPair) : (s.modBank n f).sched = s.sched := rfl
@[simp] theorem State.modBank_frame (s : State) (n : Fin 8) (f : BankPair → BankPair) : (s.modBank n f).frame = s.frame := rfl
@[simp] theorem State.modBank_tb (s : State) (n : Fin 8) (f : BankPair → BankPair) : (s.modBank n f).tb = s.tb := rfl
@[simp] theorem State.modBank_svh (s : State) (n : Fin 8) (f : BankPair → BankPair) : (s.modBank n f).svh = s.svh := rfl
@[simp] theorem State.modBank_links (s : State) (n : Fin 8) (f : BankPair → BankPair) : (s.modBank n f).links = s.links := rfl
@[simp] theorem State.modBank_diag (s : State) (n : Fin 8) (f : BankPair → BankPair) : (s.modBank n f).diag = s.diag := rfl
@[simp] theorem State.modBank_current (s : State) (n : Fin 8) (f : BankPair → BankPair) : (s.modBank n f).current = s.current := rfl
@[simp] theorem State.modBank_diagCfg (s : State) (n : Fin 8) (f : BankPair → BankPair) : (s.modBank n f).diagCfg = s.diagCfg := rfl
@[simp] theorem State.modBank_guard (s : State) (n : Fin 8) (f : BankPair → BankPair) : (s.modBank n f).guard = s.guard := rfl
@[simp] theorem State.modBank_stile (s : State) (n : Fin 8) (f : BankPair → BankPair) : (s.modBank n f).stile = s.stile := rfl
@[simp] theorem State.modBank_hedge (s : State) (n : Fin 8) (f : BankPair → BankPair) : (s.modBank n f).hedge = s.hedge := rfl
@[simp] theorem State.modBank_safety (s : State) (n : Fin 8) (f : BankPair → BankPair) : (s.modBank n f).safety = s.safety := rfl
@[simp] theorem State.modBank_twin (s : State) (n : Fin 8) (f : BankPair → BankPair) : (s.modBank n f).twin = s.twin := rfl
@[simp] theorem State.modBank_access (s : State) (n : Fin 8) (f : BankPair → BankPair) : (s.modBank n f).access = s.access := rfl
@[simp] theorem State.modBank_faults (s : State) (n : Fin 8) (f : BankPair → BankPair) : (s.modBank n f).faults = s.faults := rfl
@[simp] theorem State.modBank_aon (s : State) (n : Fin 8) (f : BankPair → BankPair) : (s.modBank n f).aon = s.aon := rfl
@[simp] theorem State.modBank_net (s : State) (n : Fin 8) (f : BankPair → BankPair) : (s.modBank n f).net = s.net := rfl
@[simp] theorem State.modBank_mgmt (s : State) (n : Fin 8) (f : BankPair → BankPair) : (s.modBank n f).mgmt = s.mgmt := rfl
@[simp] theorem State.modBank_adc (s : State) (n : Fin 8) (f : BankPair → BankPair) : (s.modBank n f).adc = s.adc := rfl
@[simp] theorem State.modBank_tsens (s : State) (n : Fin 8) (f : BankPair → BankPair) : (s.modBank n f).tsens = s.tsens := rfl
@[simp] theorem State.modBank_power (s : State) (n : Fin 8) (f : BankPair → BankPair) : (s.modBank n f).power = s.power := rfl
@[simp] theorem State.modBank_clocks (s : State) (n : Fin 8) (f : BankPair → BankPair) : (s.modBank n f).clocks = s.clocks := rfl
@[simp] theorem State.modBank_cairn (s : State) (n : Fin 8) (f : BankPair → BankPair) : (s.modBank n f).cairn = s.cairn := rfl

/-! ### State.modLink -/

@[simp] theorem State.modLink_pending (s : State) (n : Fin 2) (f : Link → Link) : (s.modLink n f).pending = s.pending := rfl
@[simp] theorem State.modLink_clock (s : State) (n : Fin 2) (f : Link → Link) : (s.modLink n f).clock = s.clock := rfl
@[simp] theorem State.modLink_freeCount (s : State) (n : Fin 2) (f : Link → Link) : (s.modLink n f).freeCount = s.freeCount := rfl
@[simp] theorem State.modLink_mem (s : State) (n : Fin 2) (f : Link → Link) : (s.modLink n f).mem = s.mem := rfl
@[simp] theorem State.modLink_layers (s : State) (n : Fin 2) (f : Link → Link) : (s.modLink n f).layers = s.layers := rfl
@[simp] theorem State.modLink_group (s : State) (n : Fin 2) (f : Link → Link) : (s.modLink n f).group = s.group := rfl
@[simp] theorem State.modLink_essential (s : State) (n : Fin 2) (f : Link → Link) : (s.modLink n f).essential = s.essential := rfl
@[simp] theorem State.modLink_stamp (s : State) (n : Fin 2) (f : Link → Link) : (s.modLink n f).stamp = s.stamp := rfl
@[simp] theorem State.modLink_warp (s : State) (n : Fin 2) (f : Link → Link) : (s.modLink n f).warp = s.warp := rfl
@[simp] theorem State.modLink_banks (s : State) (n : Fin 2) (f : Link → Link) : (s.modLink n f).banks = s.banks := rfl
@[simp] theorem State.modLink_pack (s : State) (n : Fin 2) (f : Link → Link) : (s.modLink n f).pack = s.pack := rfl
@[simp] theorem State.modLink_sched (s : State) (n : Fin 2) (f : Link → Link) : (s.modLink n f).sched = s.sched := rfl
@[simp] theorem State.modLink_frame (s : State) (n : Fin 2) (f : Link → Link) : (s.modLink n f).frame = s.frame := rfl
@[simp] theorem State.modLink_tb (s : State) (n : Fin 2) (f : Link → Link) : (s.modLink n f).tb = s.tb := rfl
@[simp] theorem State.modLink_svh (s : State) (n : Fin 2) (f : Link → Link) : (s.modLink n f).svh = s.svh := rfl
@[simp] theorem State.modLink_diag (s : State) (n : Fin 2) (f : Link → Link) : (s.modLink n f).diag = s.diag := rfl
@[simp] theorem State.modLink_current (s : State) (n : Fin 2) (f : Link → Link) : (s.modLink n f).current = s.current := rfl
@[simp] theorem State.modLink_diagCfg (s : State) (n : Fin 2) (f : Link → Link) : (s.modLink n f).diagCfg = s.diagCfg := rfl
@[simp] theorem State.modLink_guard (s : State) (n : Fin 2) (f : Link → Link) : (s.modLink n f).guard = s.guard := rfl
@[simp] theorem State.modLink_stile (s : State) (n : Fin 2) (f : Link → Link) : (s.modLink n f).stile = s.stile := rfl
@[simp] theorem State.modLink_hedge (s : State) (n : Fin 2) (f : Link → Link) : (s.modLink n f).hedge = s.hedge := rfl
@[simp] theorem State.modLink_safety (s : State) (n : Fin 2) (f : Link → Link) : (s.modLink n f).safety = s.safety := rfl
@[simp] theorem State.modLink_twin (s : State) (n : Fin 2) (f : Link → Link) : (s.modLink n f).twin = s.twin := rfl
@[simp] theorem State.modLink_access (s : State) (n : Fin 2) (f : Link → Link) : (s.modLink n f).access = s.access := rfl
@[simp] theorem State.modLink_faults (s : State) (n : Fin 2) (f : Link → Link) : (s.modLink n f).faults = s.faults := rfl
@[simp] theorem State.modLink_aon (s : State) (n : Fin 2) (f : Link → Link) : (s.modLink n f).aon = s.aon := rfl
@[simp] theorem State.modLink_net (s : State) (n : Fin 2) (f : Link → Link) : (s.modLink n f).net = s.net := rfl
@[simp] theorem State.modLink_mgmt (s : State) (n : Fin 2) (f : Link → Link) : (s.modLink n f).mgmt = s.mgmt := rfl
@[simp] theorem State.modLink_adc (s : State) (n : Fin 2) (f : Link → Link) : (s.modLink n f).adc = s.adc := rfl
@[simp] theorem State.modLink_tsens (s : State) (n : Fin 2) (f : Link → Link) : (s.modLink n f).tsens = s.tsens := rfl
@[simp] theorem State.modLink_power (s : State) (n : Fin 2) (f : Link → Link) : (s.modLink n f).power = s.power := rfl
@[simp] theorem State.modLink_clocks (s : State) (n : Fin 2) (f : Link → Link) : (s.modLink n f).clocks = s.clocks := rfl
@[simp] theorem State.modLink_cairn (s : State) (n : Fin 2) (f : Link → Link) : (s.modLink n f).cairn = s.cairn := rfl

/-! ### State.modDiag -/

@[simp] theorem State.modDiag_pending (s : State) (n : Fin 2) (f : Diag → Diag) : (s.modDiag n f).pending = s.pending := rfl
@[simp] theorem State.modDiag_clock (s : State) (n : Fin 2) (f : Diag → Diag) : (s.modDiag n f).clock = s.clock := rfl
@[simp] theorem State.modDiag_freeCount (s : State) (n : Fin 2) (f : Diag → Diag) : (s.modDiag n f).freeCount = s.freeCount := rfl
@[simp] theorem State.modDiag_mem (s : State) (n : Fin 2) (f : Diag → Diag) : (s.modDiag n f).mem = s.mem := rfl
@[simp] theorem State.modDiag_layers (s : State) (n : Fin 2) (f : Diag → Diag) : (s.modDiag n f).layers = s.layers := rfl
@[simp] theorem State.modDiag_group (s : State) (n : Fin 2) (f : Diag → Diag) : (s.modDiag n f).group = s.group := rfl
@[simp] theorem State.modDiag_essential (s : State) (n : Fin 2) (f : Diag → Diag) : (s.modDiag n f).essential = s.essential := rfl
@[simp] theorem State.modDiag_stamp (s : State) (n : Fin 2) (f : Diag → Diag) : (s.modDiag n f).stamp = s.stamp := rfl
@[simp] theorem State.modDiag_warp (s : State) (n : Fin 2) (f : Diag → Diag) : (s.modDiag n f).warp = s.warp := rfl
@[simp] theorem State.modDiag_banks (s : State) (n : Fin 2) (f : Diag → Diag) : (s.modDiag n f).banks = s.banks := rfl
@[simp] theorem State.modDiag_pack (s : State) (n : Fin 2) (f : Diag → Diag) : (s.modDiag n f).pack = s.pack := rfl
@[simp] theorem State.modDiag_sched (s : State) (n : Fin 2) (f : Diag → Diag) : (s.modDiag n f).sched = s.sched := rfl
@[simp] theorem State.modDiag_frame (s : State) (n : Fin 2) (f : Diag → Diag) : (s.modDiag n f).frame = s.frame := rfl
@[simp] theorem State.modDiag_tb (s : State) (n : Fin 2) (f : Diag → Diag) : (s.modDiag n f).tb = s.tb := rfl
@[simp] theorem State.modDiag_svh (s : State) (n : Fin 2) (f : Diag → Diag) : (s.modDiag n f).svh = s.svh := rfl
@[simp] theorem State.modDiag_links (s : State) (n : Fin 2) (f : Diag → Diag) : (s.modDiag n f).links = s.links := rfl
@[simp] theorem State.modDiag_current (s : State) (n : Fin 2) (f : Diag → Diag) : (s.modDiag n f).current = s.current := rfl
@[simp] theorem State.modDiag_diagCfg (s : State) (n : Fin 2) (f : Diag → Diag) : (s.modDiag n f).diagCfg = s.diagCfg := rfl
@[simp] theorem State.modDiag_guard (s : State) (n : Fin 2) (f : Diag → Diag) : (s.modDiag n f).guard = s.guard := rfl
@[simp] theorem State.modDiag_stile (s : State) (n : Fin 2) (f : Diag → Diag) : (s.modDiag n f).stile = s.stile := rfl
@[simp] theorem State.modDiag_hedge (s : State) (n : Fin 2) (f : Diag → Diag) : (s.modDiag n f).hedge = s.hedge := rfl
@[simp] theorem State.modDiag_safety (s : State) (n : Fin 2) (f : Diag → Diag) : (s.modDiag n f).safety = s.safety := rfl
@[simp] theorem State.modDiag_twin (s : State) (n : Fin 2) (f : Diag → Diag) : (s.modDiag n f).twin = s.twin := rfl
@[simp] theorem State.modDiag_access (s : State) (n : Fin 2) (f : Diag → Diag) : (s.modDiag n f).access = s.access := rfl
@[simp] theorem State.modDiag_faults (s : State) (n : Fin 2) (f : Diag → Diag) : (s.modDiag n f).faults = s.faults := rfl
@[simp] theorem State.modDiag_aon (s : State) (n : Fin 2) (f : Diag → Diag) : (s.modDiag n f).aon = s.aon := rfl
@[simp] theorem State.modDiag_net (s : State) (n : Fin 2) (f : Diag → Diag) : (s.modDiag n f).net = s.net := rfl
@[simp] theorem State.modDiag_mgmt (s : State) (n : Fin 2) (f : Diag → Diag) : (s.modDiag n f).mgmt = s.mgmt := rfl
@[simp] theorem State.modDiag_adc (s : State) (n : Fin 2) (f : Diag → Diag) : (s.modDiag n f).adc = s.adc := rfl
@[simp] theorem State.modDiag_tsens (s : State) (n : Fin 2) (f : Diag → Diag) : (s.modDiag n f).tsens = s.tsens := rfl
@[simp] theorem State.modDiag_power (s : State) (n : Fin 2) (f : Diag → Diag) : (s.modDiag n f).power = s.power := rfl
@[simp] theorem State.modDiag_clocks (s : State) (n : Fin 2) (f : Diag → Diag) : (s.modDiag n f).clocks = s.clocks := rfl
@[simp] theorem State.modDiag_cairn (s : State) (n : Fin 2) (f : Diag → Diag) : (s.modDiag n f).cairn = s.cairn := rfl

/-! ### State.modCur -/

@[simp] theorem State.modCur_pending (s : State) (n : Fin 2) (f : Current → Current) : (s.modCur n f).pending = s.pending := rfl
@[simp] theorem State.modCur_clock (s : State) (n : Fin 2) (f : Current → Current) : (s.modCur n f).clock = s.clock := rfl
@[simp] theorem State.modCur_freeCount (s : State) (n : Fin 2) (f : Current → Current) : (s.modCur n f).freeCount = s.freeCount := rfl
@[simp] theorem State.modCur_mem (s : State) (n : Fin 2) (f : Current → Current) : (s.modCur n f).mem = s.mem := rfl
@[simp] theorem State.modCur_layers (s : State) (n : Fin 2) (f : Current → Current) : (s.modCur n f).layers = s.layers := rfl
@[simp] theorem State.modCur_group (s : State) (n : Fin 2) (f : Current → Current) : (s.modCur n f).group = s.group := rfl
@[simp] theorem State.modCur_essential (s : State) (n : Fin 2) (f : Current → Current) : (s.modCur n f).essential = s.essential := rfl
@[simp] theorem State.modCur_stamp (s : State) (n : Fin 2) (f : Current → Current) : (s.modCur n f).stamp = s.stamp := rfl
@[simp] theorem State.modCur_warp (s : State) (n : Fin 2) (f : Current → Current) : (s.modCur n f).warp = s.warp := rfl
@[simp] theorem State.modCur_banks (s : State) (n : Fin 2) (f : Current → Current) : (s.modCur n f).banks = s.banks := rfl
@[simp] theorem State.modCur_pack (s : State) (n : Fin 2) (f : Current → Current) : (s.modCur n f).pack = s.pack := rfl
@[simp] theorem State.modCur_sched (s : State) (n : Fin 2) (f : Current → Current) : (s.modCur n f).sched = s.sched := rfl
@[simp] theorem State.modCur_frame (s : State) (n : Fin 2) (f : Current → Current) : (s.modCur n f).frame = s.frame := rfl
@[simp] theorem State.modCur_tb (s : State) (n : Fin 2) (f : Current → Current) : (s.modCur n f).tb = s.tb := rfl
@[simp] theorem State.modCur_svh (s : State) (n : Fin 2) (f : Current → Current) : (s.modCur n f).svh = s.svh := rfl
@[simp] theorem State.modCur_links (s : State) (n : Fin 2) (f : Current → Current) : (s.modCur n f).links = s.links := rfl
@[simp] theorem State.modCur_diag (s : State) (n : Fin 2) (f : Current → Current) : (s.modCur n f).diag = s.diag := rfl
@[simp] theorem State.modCur_diagCfg (s : State) (n : Fin 2) (f : Current → Current) : (s.modCur n f).diagCfg = s.diagCfg := rfl
@[simp] theorem State.modCur_guard (s : State) (n : Fin 2) (f : Current → Current) : (s.modCur n f).guard = s.guard := rfl
@[simp] theorem State.modCur_stile (s : State) (n : Fin 2) (f : Current → Current) : (s.modCur n f).stile = s.stile := rfl
@[simp] theorem State.modCur_hedge (s : State) (n : Fin 2) (f : Current → Current) : (s.modCur n f).hedge = s.hedge := rfl
@[simp] theorem State.modCur_safety (s : State) (n : Fin 2) (f : Current → Current) : (s.modCur n f).safety = s.safety := rfl
@[simp] theorem State.modCur_twin (s : State) (n : Fin 2) (f : Current → Current) : (s.modCur n f).twin = s.twin := rfl
@[simp] theorem State.modCur_access (s : State) (n : Fin 2) (f : Current → Current) : (s.modCur n f).access = s.access := rfl
@[simp] theorem State.modCur_faults (s : State) (n : Fin 2) (f : Current → Current) : (s.modCur n f).faults = s.faults := rfl
@[simp] theorem State.modCur_aon (s : State) (n : Fin 2) (f : Current → Current) : (s.modCur n f).aon = s.aon := rfl
@[simp] theorem State.modCur_net (s : State) (n : Fin 2) (f : Current → Current) : (s.modCur n f).net = s.net := rfl
@[simp] theorem State.modCur_mgmt (s : State) (n : Fin 2) (f : Current → Current) : (s.modCur n f).mgmt = s.mgmt := rfl
@[simp] theorem State.modCur_adc (s : State) (n : Fin 2) (f : Current → Current) : (s.modCur n f).adc = s.adc := rfl
@[simp] theorem State.modCur_tsens (s : State) (n : Fin 2) (f : Current → Current) : (s.modCur n f).tsens = s.tsens := rfl
@[simp] theorem State.modCur_power (s : State) (n : Fin 2) (f : Current → Current) : (s.modCur n f).power = s.power := rfl
@[simp] theorem State.modCur_clocks (s : State) (n : Fin 2) (f : Current → Current) : (s.modCur n f).clocks = s.clocks := rfl
@[simp] theorem State.modCur_cairn (s : State) (n : Fin 2) (f : Current → Current) : (s.modCur n f).cairn = s.cairn := rfl

/-! ### State.modChannel -/

@[simp] theorem State.modChannel_pending (s : State) (n : Fin 8) (f : Channel → Channel) : (s.modChannel n f).pending = s.pending := rfl
@[simp] theorem State.modChannel_clock (s : State) (n : Fin 8) (f : Channel → Channel) : (s.modChannel n f).clock = s.clock := rfl
@[simp] theorem State.modChannel_freeCount (s : State) (n : Fin 8) (f : Channel → Channel) : (s.modChannel n f).freeCount = s.freeCount := rfl
@[simp] theorem State.modChannel_mem (s : State) (n : Fin 8) (f : Channel → Channel) : (s.modChannel n f).mem = s.mem := rfl
@[simp] theorem State.modChannel_layers (s : State) (n : Fin 8) (f : Channel → Channel) : (s.modChannel n f).layers = s.layers := rfl
@[simp] theorem State.modChannel_group (s : State) (n : Fin 8) (f : Channel → Channel) : (s.modChannel n f).group = s.group := rfl
@[simp] theorem State.modChannel_essential (s : State) (n : Fin 8) (f : Channel → Channel) : (s.modChannel n f).essential = s.essential := rfl
@[simp] theorem State.modChannel_stamp (s : State) (n : Fin 8) (f : Channel → Channel) : (s.modChannel n f).stamp = s.stamp := rfl
@[simp] theorem State.modChannel_warp (s : State) (n : Fin 8) (f : Channel → Channel) : (s.modChannel n f).warp = s.warp := rfl
@[simp] theorem State.modChannel_banks (s : State) (n : Fin 8) (f : Channel → Channel) : (s.modChannel n f).banks = s.banks := rfl
@[simp] theorem State.modChannel_pack (s : State) (n : Fin 8) (f : Channel → Channel) : (s.modChannel n f).pack = s.pack := rfl
@[simp] theorem State.modChannel_sched (s : State) (n : Fin 8) (f : Channel → Channel) : (s.modChannel n f).sched = s.sched := rfl
@[simp] theorem State.modChannel_frame (s : State) (n : Fin 8) (f : Channel → Channel) : (s.modChannel n f).frame = s.frame := rfl
@[simp] theorem State.modChannel_tb (s : State) (n : Fin 8) (f : Channel → Channel) : (s.modChannel n f).tb = s.tb := rfl
@[simp] theorem State.modChannel_svh (s : State) (n : Fin 8) (f : Channel → Channel) : (s.modChannel n f).svh = s.svh := rfl
@[simp] theorem State.modChannel_links (s : State) (n : Fin 8) (f : Channel → Channel) : (s.modChannel n f).links = s.links := rfl
@[simp] theorem State.modChannel_diag (s : State) (n : Fin 8) (f : Channel → Channel) : (s.modChannel n f).diag = s.diag := rfl
@[simp] theorem State.modChannel_current (s : State) (n : Fin 8) (f : Channel → Channel) : (s.modChannel n f).current = s.current := rfl
@[simp] theorem State.modChannel_diagCfg (s : State) (n : Fin 8) (f : Channel → Channel) : (s.modChannel n f).diagCfg = s.diagCfg := rfl
@[simp] theorem State.modChannel_guard (s : State) (n : Fin 8) (f : Channel → Channel) : (s.modChannel n f).guard = s.guard := rfl
@[simp] theorem State.modChannel_stile (s : State) (n : Fin 8) (f : Channel → Channel) : (s.modChannel n f).stile = s.stile := rfl
@[simp] theorem State.modChannel_hedge (s : State) (n : Fin 8) (f : Channel → Channel) : (s.modChannel n f).hedge = s.hedge := rfl
@[simp] theorem State.modChannel_safety (s : State) (n : Fin 8) (f : Channel → Channel) : (s.modChannel n f).safety = s.safety := rfl
@[simp] theorem State.modChannel_twin (s : State) (n : Fin 8) (f : Channel → Channel) : (s.modChannel n f).twin = s.twin := rfl
@[simp] theorem State.modChannel_access (s : State) (n : Fin 8) (f : Channel → Channel) : (s.modChannel n f).access = s.access := rfl
@[simp] theorem State.modChannel_faults (s : State) (n : Fin 8) (f : Channel → Channel) : (s.modChannel n f).faults = s.faults := rfl
@[simp] theorem State.modChannel_aon (s : State) (n : Fin 8) (f : Channel → Channel) : (s.modChannel n f).aon = s.aon := rfl
@[simp] theorem State.modChannel_net (s : State) (n : Fin 8) (f : Channel → Channel) : (s.modChannel n f).net = s.net := rfl
@[simp] theorem State.modChannel_adc (s : State) (n : Fin 8) (f : Channel → Channel) : (s.modChannel n f).adc = s.adc := rfl
@[simp] theorem State.modChannel_tsens (s : State) (n : Fin 8) (f : Channel → Channel) : (s.modChannel n f).tsens = s.tsens := rfl
@[simp] theorem State.modChannel_power (s : State) (n : Fin 8) (f : Channel → Channel) : (s.modChannel n f).power = s.power := rfl
@[simp] theorem State.modChannel_clocks (s : State) (n : Fin 8) (f : Channel → Channel) : (s.modChannel n f).clocks = s.clocks := rfl
@[simp] theorem State.modChannel_cairn (s : State) (n : Fin 8) (f : Channel → Channel) : (s.modChannel n f).cairn = s.cairn := rfl

/-! ### State.modChk -/

@[simp] theorem State.modChk_pending (s : State) (n : Fin 8) (f : Chk → Chk) : (s.modChk n f).pending = s.pending := rfl
@[simp] theorem State.modChk_clock (s : State) (n : Fin 8) (f : Chk → Chk) : (s.modChk n f).clock = s.clock := rfl
@[simp] theorem State.modChk_freeCount (s : State) (n : Fin 8) (f : Chk → Chk) : (s.modChk n f).freeCount = s.freeCount := rfl
@[simp] theorem State.modChk_mem (s : State) (n : Fin 8) (f : Chk → Chk) : (s.modChk n f).mem = s.mem := rfl
@[simp] theorem State.modChk_layers (s : State) (n : Fin 8) (f : Chk → Chk) : (s.modChk n f).layers = s.layers := rfl
@[simp] theorem State.modChk_group (s : State) (n : Fin 8) (f : Chk → Chk) : (s.modChk n f).group = s.group := rfl
@[simp] theorem State.modChk_essential (s : State) (n : Fin 8) (f : Chk → Chk) : (s.modChk n f).essential = s.essential := rfl
@[simp] theorem State.modChk_stamp (s : State) (n : Fin 8) (f : Chk → Chk) : (s.modChk n f).stamp = s.stamp := rfl
@[simp] theorem State.modChk_warp (s : State) (n : Fin 8) (f : Chk → Chk) : (s.modChk n f).warp = s.warp := rfl
@[simp] theorem State.modChk_banks (s : State) (n : Fin 8) (f : Chk → Chk) : (s.modChk n f).banks = s.banks := rfl
@[simp] theorem State.modChk_pack (s : State) (n : Fin 8) (f : Chk → Chk) : (s.modChk n f).pack = s.pack := rfl
@[simp] theorem State.modChk_sched (s : State) (n : Fin 8) (f : Chk → Chk) : (s.modChk n f).sched = s.sched := rfl
@[simp] theorem State.modChk_frame (s : State) (n : Fin 8) (f : Chk → Chk) : (s.modChk n f).frame = s.frame := rfl
@[simp] theorem State.modChk_tb (s : State) (n : Fin 8) (f : Chk → Chk) : (s.modChk n f).tb = s.tb := rfl
@[simp] theorem State.modChk_svh (s : State) (n : Fin 8) (f : Chk → Chk) : (s.modChk n f).svh = s.svh := rfl
@[simp] theorem State.modChk_links (s : State) (n : Fin 8) (f : Chk → Chk) : (s.modChk n f).links = s.links := rfl
@[simp] theorem State.modChk_diag (s : State) (n : Fin 8) (f : Chk → Chk) : (s.modChk n f).diag = s.diag := rfl
@[simp] theorem State.modChk_current (s : State) (n : Fin 8) (f : Chk → Chk) : (s.modChk n f).current = s.current := rfl
@[simp] theorem State.modChk_diagCfg (s : State) (n : Fin 8) (f : Chk → Chk) : (s.modChk n f).diagCfg = s.diagCfg := rfl
@[simp] theorem State.modChk_guard (s : State) (n : Fin 8) (f : Chk → Chk) : (s.modChk n f).guard = s.guard := rfl
@[simp] theorem State.modChk_stile (s : State) (n : Fin 8) (f : Chk → Chk) : (s.modChk n f).stile = s.stile := rfl
@[simp] theorem State.modChk_hedge (s : State) (n : Fin 8) (f : Chk → Chk) : (s.modChk n f).hedge = s.hedge := rfl
@[simp] theorem State.modChk_safety (s : State) (n : Fin 8) (f : Chk → Chk) : (s.modChk n f).safety = s.safety := rfl
@[simp] theorem State.modChk_twin (s : State) (n : Fin 8) (f : Chk → Chk) : (s.modChk n f).twin = s.twin := rfl
@[simp] theorem State.modChk_access (s : State) (n : Fin 8) (f : Chk → Chk) : (s.modChk n f).access = s.access := rfl
@[simp] theorem State.modChk_faults (s : State) (n : Fin 8) (f : Chk → Chk) : (s.modChk n f).faults = s.faults := rfl
@[simp] theorem State.modChk_aon (s : State) (n : Fin 8) (f : Chk → Chk) : (s.modChk n f).aon = s.aon := rfl
@[simp] theorem State.modChk_net (s : State) (n : Fin 8) (f : Chk → Chk) : (s.modChk n f).net = s.net := rfl
@[simp] theorem State.modChk_adc (s : State) (n : Fin 8) (f : Chk → Chk) : (s.modChk n f).adc = s.adc := rfl
@[simp] theorem State.modChk_tsens (s : State) (n : Fin 8) (f : Chk → Chk) : (s.modChk n f).tsens = s.tsens := rfl
@[simp] theorem State.modChk_power (s : State) (n : Fin 8) (f : Chk → Chk) : (s.modChk n f).power = s.power := rfl
@[simp] theorem State.modChk_clocks (s : State) (n : Fin 8) (f : Chk → Chk) : (s.modChk n f).clocks = s.clocks := rfl
@[simp] theorem State.modChk_cairn (s : State) (n : Fin 8) (f : Chk → Chk) : (s.modChk n f).cairn = s.cairn := rfl

/-! ### State.modWindow -/

@[simp] theorem State.modWindow_pending (s : State) (n : Fin 16) (f : Window → Window) : (s.modWindow n f).pending = s.pending := rfl
@[simp] theorem State.modWindow_clock (s : State) (n : Fin 16) (f : Window → Window) : (s.modWindow n f).clock = s.clock := rfl
@[simp] theorem State.modWindow_freeCount (s : State) (n : Fin 16) (f : Window → Window) : (s.modWindow n f).freeCount = s.freeCount := rfl
@[simp] theorem State.modWindow_mem (s : State) (n : Fin 16) (f : Window → Window) : (s.modWindow n f).mem = s.mem := rfl
@[simp] theorem State.modWindow_layers (s : State) (n : Fin 16) (f : Window → Window) : (s.modWindow n f).layers = s.layers := rfl
@[simp] theorem State.modWindow_group (s : State) (n : Fin 16) (f : Window → Window) : (s.modWindow n f).group = s.group := rfl
@[simp] theorem State.modWindow_essential (s : State) (n : Fin 16) (f : Window → Window) : (s.modWindow n f).essential = s.essential := rfl
@[simp] theorem State.modWindow_stamp (s : State) (n : Fin 16) (f : Window → Window) : (s.modWindow n f).stamp = s.stamp := rfl
@[simp] theorem State.modWindow_warp (s : State) (n : Fin 16) (f : Window → Window) : (s.modWindow n f).warp = s.warp := rfl
@[simp] theorem State.modWindow_banks (s : State) (n : Fin 16) (f : Window → Window) : (s.modWindow n f).banks = s.banks := rfl
@[simp] theorem State.modWindow_pack (s : State) (n : Fin 16) (f : Window → Window) : (s.modWindow n f).pack = s.pack := rfl
@[simp] theorem State.modWindow_sched (s : State) (n : Fin 16) (f : Window → Window) : (s.modWindow n f).sched = s.sched := rfl
@[simp] theorem State.modWindow_frame (s : State) (n : Fin 16) (f : Window → Window) : (s.modWindow n f).frame = s.frame := rfl
@[simp] theorem State.modWindow_tb (s : State) (n : Fin 16) (f : Window → Window) : (s.modWindow n f).tb = s.tb := rfl
@[simp] theorem State.modWindow_links (s : State) (n : Fin 16) (f : Window → Window) : (s.modWindow n f).links = s.links := rfl
@[simp] theorem State.modWindow_diag (s : State) (n : Fin 16) (f : Window → Window) : (s.modWindow n f).diag = s.diag := rfl
@[simp] theorem State.modWindow_current (s : State) (n : Fin 16) (f : Window → Window) : (s.modWindow n f).current = s.current := rfl
@[simp] theorem State.modWindow_diagCfg (s : State) (n : Fin 16) (f : Window → Window) : (s.modWindow n f).diagCfg = s.diagCfg := rfl
@[simp] theorem State.modWindow_guard (s : State) (n : Fin 16) (f : Window → Window) : (s.modWindow n f).guard = s.guard := rfl
@[simp] theorem State.modWindow_stile (s : State) (n : Fin 16) (f : Window → Window) : (s.modWindow n f).stile = s.stile := rfl
@[simp] theorem State.modWindow_hedge (s : State) (n : Fin 16) (f : Window → Window) : (s.modWindow n f).hedge = s.hedge := rfl
@[simp] theorem State.modWindow_safety (s : State) (n : Fin 16) (f : Window → Window) : (s.modWindow n f).safety = s.safety := rfl
@[simp] theorem State.modWindow_twin (s : State) (n : Fin 16) (f : Window → Window) : (s.modWindow n f).twin = s.twin := rfl
@[simp] theorem State.modWindow_access (s : State) (n : Fin 16) (f : Window → Window) : (s.modWindow n f).access = s.access := rfl
@[simp] theorem State.modWindow_faults (s : State) (n : Fin 16) (f : Window → Window) : (s.modWindow n f).faults = s.faults := rfl
@[simp] theorem State.modWindow_aon (s : State) (n : Fin 16) (f : Window → Window) : (s.modWindow n f).aon = s.aon := rfl
@[simp] theorem State.modWindow_net (s : State) (n : Fin 16) (f : Window → Window) : (s.modWindow n f).net = s.net := rfl
@[simp] theorem State.modWindow_mgmt (s : State) (n : Fin 16) (f : Window → Window) : (s.modWindow n f).mgmt = s.mgmt := rfl
@[simp] theorem State.modWindow_adc (s : State) (n : Fin 16) (f : Window → Window) : (s.modWindow n f).adc = s.adc := rfl
@[simp] theorem State.modWindow_tsens (s : State) (n : Fin 16) (f : Window → Window) : (s.modWindow n f).tsens = s.tsens := rfl
@[simp] theorem State.modWindow_power (s : State) (n : Fin 16) (f : Window → Window) : (s.modWindow n f).power = s.power := rfl
@[simp] theorem State.modWindow_clocks (s : State) (n : Fin 16) (f : Window → Window) : (s.modWindow n f).clocks = s.clocks := rfl
@[simp] theorem State.modWindow_cairn (s : State) (n : Fin 16) (f : Window → Window) : (s.modWindow n f).cairn = s.cairn := rfl

/-! ### State.modSupply -/

@[simp] theorem State.modSupply_pending (s : State) (n : Fin 4) (f : Supply → Supply) : (s.modSupply n f).pending = s.pending := rfl
@[simp] theorem State.modSupply_clock (s : State) (n : Fin 4) (f : Supply → Supply) : (s.modSupply n f).clock = s.clock := rfl
@[simp] theorem State.modSupply_freeCount (s : State) (n : Fin 4) (f : Supply → Supply) : (s.modSupply n f).freeCount = s.freeCount := rfl
@[simp] theorem State.modSupply_mem (s : State) (n : Fin 4) (f : Supply → Supply) : (s.modSupply n f).mem = s.mem := rfl
@[simp] theorem State.modSupply_layers (s : State) (n : Fin 4) (f : Supply → Supply) : (s.modSupply n f).layers = s.layers := rfl
@[simp] theorem State.modSupply_group (s : State) (n : Fin 4) (f : Supply → Supply) : (s.modSupply n f).group = s.group := rfl
@[simp] theorem State.modSupply_essential (s : State) (n : Fin 4) (f : Supply → Supply) : (s.modSupply n f).essential = s.essential := rfl
@[simp] theorem State.modSupply_stamp (s : State) (n : Fin 4) (f : Supply → Supply) : (s.modSupply n f).stamp = s.stamp := rfl
@[simp] theorem State.modSupply_warp (s : State) (n : Fin 4) (f : Supply → Supply) : (s.modSupply n f).warp = s.warp := rfl
@[simp] theorem State.modSupply_banks (s : State) (n : Fin 4) (f : Supply → Supply) : (s.modSupply n f).banks = s.banks := rfl
@[simp] theorem State.modSupply_pack (s : State) (n : Fin 4) (f : Supply → Supply) : (s.modSupply n f).pack = s.pack := rfl
@[simp] theorem State.modSupply_sched (s : State) (n : Fin 4) (f : Supply → Supply) : (s.modSupply n f).sched = s.sched := rfl
@[simp] theorem State.modSupply_frame (s : State) (n : Fin 4) (f : Supply → Supply) : (s.modSupply n f).frame = s.frame := rfl
@[simp] theorem State.modSupply_tb (s : State) (n : Fin 4) (f : Supply → Supply) : (s.modSupply n f).tb = s.tb := rfl
@[simp] theorem State.modSupply_svh (s : State) (n : Fin 4) (f : Supply → Supply) : (s.modSupply n f).svh = s.svh := rfl
@[simp] theorem State.modSupply_links (s : State) (n : Fin 4) (f : Supply → Supply) : (s.modSupply n f).links = s.links := rfl
@[simp] theorem State.modSupply_diag (s : State) (n : Fin 4) (f : Supply → Supply) : (s.modSupply n f).diag = s.diag := rfl
@[simp] theorem State.modSupply_current (s : State) (n : Fin 4) (f : Supply → Supply) : (s.modSupply n f).current = s.current := rfl
@[simp] theorem State.modSupply_diagCfg (s : State) (n : Fin 4) (f : Supply → Supply) : (s.modSupply n f).diagCfg = s.diagCfg := rfl
@[simp] theorem State.modSupply_guard (s : State) (n : Fin 4) (f : Supply → Supply) : (s.modSupply n f).guard = s.guard := rfl
@[simp] theorem State.modSupply_stile (s : State) (n : Fin 4) (f : Supply → Supply) : (s.modSupply n f).stile = s.stile := rfl
@[simp] theorem State.modSupply_hedge (s : State) (n : Fin 4) (f : Supply → Supply) : (s.modSupply n f).hedge = s.hedge := rfl
@[simp] theorem State.modSupply_safety (s : State) (n : Fin 4) (f : Supply → Supply) : (s.modSupply n f).safety = s.safety := rfl
@[simp] theorem State.modSupply_twin (s : State) (n : Fin 4) (f : Supply → Supply) : (s.modSupply n f).twin = s.twin := rfl
@[simp] theorem State.modSupply_access (s : State) (n : Fin 4) (f : Supply → Supply) : (s.modSupply n f).access = s.access := rfl
@[simp] theorem State.modSupply_faults (s : State) (n : Fin 4) (f : Supply → Supply) : (s.modSupply n f).faults = s.faults := rfl
@[simp] theorem State.modSupply_aon (s : State) (n : Fin 4) (f : Supply → Supply) : (s.modSupply n f).aon = s.aon := rfl
@[simp] theorem State.modSupply_net (s : State) (n : Fin 4) (f : Supply → Supply) : (s.modSupply n f).net = s.net := rfl
@[simp] theorem State.modSupply_mgmt (s : State) (n : Fin 4) (f : Supply → Supply) : (s.modSupply n f).mgmt = s.mgmt := rfl
@[simp] theorem State.modSupply_adc (s : State) (n : Fin 4) (f : Supply → Supply) : (s.modSupply n f).adc = s.adc := rfl
@[simp] theorem State.modSupply_tsens (s : State) (n : Fin 4) (f : Supply → Supply) : (s.modSupply n f).tsens = s.tsens := rfl
@[simp] theorem State.modSupply_clocks (s : State) (n : Fin 4) (f : Supply → Supply) : (s.modSupply n f).clocks = s.clocks := rfl
@[simp] theorem State.modSupply_cairn (s : State) (n : Fin 4) (f : Supply → Supply) : (s.modSupply n f).cairn = s.cairn := rfl

/-! ### State.at_ -/

@[simp] theorem State.at_pending (s : State) (due : Nat) : (s.at_ due).pending = s.pending := rfl
@[simp] theorem State.at_freeCount (s : State) (due : Nat) : (s.at_ due).freeCount = s.freeCount := rfl
@[simp] theorem State.at_mem (s : State) (due : Nat) : (s.at_ due).mem = s.mem := rfl
@[simp] theorem State.at_layers (s : State) (due : Nat) : (s.at_ due).layers = s.layers := rfl
@[simp] theorem State.at_group (s : State) (due : Nat) : (s.at_ due).group = s.group := rfl
@[simp] theorem State.at_essential (s : State) (due : Nat) : (s.at_ due).essential = s.essential := rfl
@[simp] theorem State.at_stamp (s : State) (due : Nat) : (s.at_ due).stamp = s.stamp := rfl
@[simp] theorem State.at_warp (s : State) (due : Nat) : (s.at_ due).warp = s.warp := rfl
@[simp] theorem State.at_banks (s : State) (due : Nat) : (s.at_ due).banks = s.banks := rfl
@[simp] theorem State.at_pack (s : State) (due : Nat) : (s.at_ due).pack = s.pack := rfl
@[simp] theorem State.at_sched (s : State) (due : Nat) : (s.at_ due).sched = s.sched := rfl
@[simp] theorem State.at_tb (s : State) (due : Nat) : (s.at_ due).tb = s.tb := rfl
@[simp] theorem State.at_svh (s : State) (due : Nat) : (s.at_ due).svh = s.svh := rfl
@[simp] theorem State.at_links (s : State) (due : Nat) : (s.at_ due).links = s.links := rfl
@[simp] theorem State.at_diag (s : State) (due : Nat) : (s.at_ due).diag = s.diag := rfl
@[simp] theorem State.at_current (s : State) (due : Nat) : (s.at_ due).current = s.current := rfl
@[simp] theorem State.at_diagCfg (s : State) (due : Nat) : (s.at_ due).diagCfg = s.diagCfg := rfl
@[simp] theorem State.at_guard (s : State) (due : Nat) : (s.at_ due).guard = s.guard := rfl
@[simp] theorem State.at_stile (s : State) (due : Nat) : (s.at_ due).stile = s.stile := rfl
@[simp] theorem State.at_hedge (s : State) (due : Nat) : (s.at_ due).hedge = s.hedge := rfl
@[simp] theorem State.at_safety (s : State) (due : Nat) : (s.at_ due).safety = s.safety := rfl
@[simp] theorem State.at_twin (s : State) (due : Nat) : (s.at_ due).twin = s.twin := rfl
@[simp] theorem State.at_access (s : State) (due : Nat) : (s.at_ due).access = s.access := rfl
@[simp] theorem State.at_faults (s : State) (due : Nat) : (s.at_ due).faults = s.faults := rfl
@[simp] theorem State.at_aon (s : State) (due : Nat) : (s.at_ due).aon = s.aon := rfl
@[simp] theorem State.at_net (s : State) (due : Nat) : (s.at_ due).net = s.net := rfl
@[simp] theorem State.at_mgmt (s : State) (due : Nat) : (s.at_ due).mgmt = s.mgmt := rfl
@[simp] theorem State.at_adc (s : State) (due : Nat) : (s.at_ due).adc = s.adc := rfl
@[simp] theorem State.at_tsens (s : State) (due : Nat) : (s.at_ due).tsens = s.tsens := rfl
@[simp] theorem State.at_power (s : State) (due : Nat) : (s.at_ due).power = s.power := rfl
@[simp] theorem State.at_clocks (s : State) (due : Nat) : (s.at_ due).clocks = s.clocks := rfl
@[simp] theorem State.at_cairn (s : State) (due : Nat) : (s.at_ due).cairn = s.cairn := rfl

/-! ### State.modNet -/

@[simp] theorem State.modNet_pending (s : State) (f : Net → Net) : (s.modNet f).pending = s.pending := rfl
@[simp] theorem State.modNet_clock (s : State) (f : Net → Net) : (s.modNet f).clock = s.clock := rfl
@[simp] theorem State.modNet_freeCount (s : State) (f : Net → Net) : (s.modNet f).freeCount = s.freeCount := rfl
@[simp] theorem State.modNet_mem (s : State) (f : Net → Net) : (s.modNet f).mem = s.mem := rfl
@[simp] theorem State.modNet_layers (s : State) (f : Net → Net) : (s.modNet f).layers = s.layers := rfl
@[simp] theorem State.modNet_group (s : State) (f : Net → Net) : (s.modNet f).group = s.group := rfl
@[simp] theorem State.modNet_essential (s : State) (f : Net → Net) : (s.modNet f).essential = s.essential := rfl
@[simp] theorem State.modNet_stamp (s : State) (f : Net → Net) : (s.modNet f).stamp = s.stamp := rfl
@[simp] theorem State.modNet_warp (s : State) (f : Net → Net) : (s.modNet f).warp = s.warp := rfl
@[simp] theorem State.modNet_banks (s : State) (f : Net → Net) : (s.modNet f).banks = s.banks := rfl
@[simp] theorem State.modNet_pack (s : State) (f : Net → Net) : (s.modNet f).pack = s.pack := rfl
@[simp] theorem State.modNet_sched (s : State) (f : Net → Net) : (s.modNet f).sched = s.sched := rfl
@[simp] theorem State.modNet_frame (s : State) (f : Net → Net) : (s.modNet f).frame = s.frame := rfl
@[simp] theorem State.modNet_tb (s : State) (f : Net → Net) : (s.modNet f).tb = s.tb := rfl
@[simp] theorem State.modNet_svh (s : State) (f : Net → Net) : (s.modNet f).svh = s.svh := rfl
@[simp] theorem State.modNet_links (s : State) (f : Net → Net) : (s.modNet f).links = s.links := rfl
@[simp] theorem State.modNet_diag (s : State) (f : Net → Net) : (s.modNet f).diag = s.diag := rfl
@[simp] theorem State.modNet_current (s : State) (f : Net → Net) : (s.modNet f).current = s.current := rfl
@[simp] theorem State.modNet_diagCfg (s : State) (f : Net → Net) : (s.modNet f).diagCfg = s.diagCfg := rfl
@[simp] theorem State.modNet_guard (s : State) (f : Net → Net) : (s.modNet f).guard = s.guard := rfl
@[simp] theorem State.modNet_stile (s : State) (f : Net → Net) : (s.modNet f).stile = s.stile := rfl
@[simp] theorem State.modNet_hedge (s : State) (f : Net → Net) : (s.modNet f).hedge = s.hedge := rfl
@[simp] theorem State.modNet_safety (s : State) (f : Net → Net) : (s.modNet f).safety = s.safety := rfl
@[simp] theorem State.modNet_twin (s : State) (f : Net → Net) : (s.modNet f).twin = s.twin := rfl
@[simp] theorem State.modNet_access (s : State) (f : Net → Net) : (s.modNet f).access = s.access := rfl
@[simp] theorem State.modNet_faults (s : State) (f : Net → Net) : (s.modNet f).faults = s.faults := rfl
@[simp] theorem State.modNet_aon (s : State) (f : Net → Net) : (s.modNet f).aon = s.aon := rfl
@[simp] theorem State.modNet_mgmt (s : State) (f : Net → Net) : (s.modNet f).mgmt = s.mgmt := rfl
@[simp] theorem State.modNet_adc (s : State) (f : Net → Net) : (s.modNet f).adc = s.adc := rfl
@[simp] theorem State.modNet_tsens (s : State) (f : Net → Net) : (s.modNet f).tsens = s.tsens := rfl
@[simp] theorem State.modNet_power (s : State) (f : Net → Net) : (s.modNet f).power = s.power := rfl
@[simp] theorem State.modNet_clocks (s : State) (f : Net → Net) : (s.modNet f).clocks = s.clocks := rfl
@[simp] theorem State.modNet_cairn (s : State) (f : Net → Net) : (s.modNet f).cairn = s.cairn := rfl

/-! ### State.modFrame -/

@[simp] theorem State.modFrame_pending (s : State) (f : Frame → Frame) : (s.modFrame f).pending = s.pending := rfl
@[simp] theorem State.modFrame_clock (s : State) (f : Frame → Frame) : (s.modFrame f).clock = s.clock := rfl
@[simp] theorem State.modFrame_freeCount (s : State) (f : Frame → Frame) : (s.modFrame f).freeCount = s.freeCount := rfl
@[simp] theorem State.modFrame_mem (s : State) (f : Frame → Frame) : (s.modFrame f).mem = s.mem := rfl
@[simp] theorem State.modFrame_layers (s : State) (f : Frame → Frame) : (s.modFrame f).layers = s.layers := rfl
@[simp] theorem State.modFrame_group (s : State) (f : Frame → Frame) : (s.modFrame f).group = s.group := rfl
@[simp] theorem State.modFrame_essential (s : State) (f : Frame → Frame) : (s.modFrame f).essential = s.essential := rfl
@[simp] theorem State.modFrame_stamp (s : State) (f : Frame → Frame) : (s.modFrame f).stamp = s.stamp := rfl
@[simp] theorem State.modFrame_warp (s : State) (f : Frame → Frame) : (s.modFrame f).warp = s.warp := rfl
@[simp] theorem State.modFrame_banks (s : State) (f : Frame → Frame) : (s.modFrame f).banks = s.banks := rfl
@[simp] theorem State.modFrame_pack (s : State) (f : Frame → Frame) : (s.modFrame f).pack = s.pack := rfl
@[simp] theorem State.modFrame_sched (s : State) (f : Frame → Frame) : (s.modFrame f).sched = s.sched := rfl
@[simp] theorem State.modFrame_tb (s : State) (f : Frame → Frame) : (s.modFrame f).tb = s.tb := rfl
@[simp] theorem State.modFrame_svh (s : State) (f : Frame → Frame) : (s.modFrame f).svh = s.svh := rfl
@[simp] theorem State.modFrame_links (s : State) (f : Frame → Frame) : (s.modFrame f).links = s.links := rfl
@[simp] theorem State.modFrame_diag (s : State) (f : Frame → Frame) : (s.modFrame f).diag = s.diag := rfl
@[simp] theorem State.modFrame_current (s : State) (f : Frame → Frame) : (s.modFrame f).current = s.current := rfl
@[simp] theorem State.modFrame_diagCfg (s : State) (f : Frame → Frame) : (s.modFrame f).diagCfg = s.diagCfg := rfl
@[simp] theorem State.modFrame_guard (s : State) (f : Frame → Frame) : (s.modFrame f).guard = s.guard := rfl
@[simp] theorem State.modFrame_stile (s : State) (f : Frame → Frame) : (s.modFrame f).stile = s.stile := rfl
@[simp] theorem State.modFrame_hedge (s : State) (f : Frame → Frame) : (s.modFrame f).hedge = s.hedge := rfl
@[simp] theorem State.modFrame_safety (s : State) (f : Frame → Frame) : (s.modFrame f).safety = s.safety := rfl
@[simp] theorem State.modFrame_twin (s : State) (f : Frame → Frame) : (s.modFrame f).twin = s.twin := rfl
@[simp] theorem State.modFrame_access (s : State) (f : Frame → Frame) : (s.modFrame f).access = s.access := rfl
@[simp] theorem State.modFrame_faults (s : State) (f : Frame → Frame) : (s.modFrame f).faults = s.faults := rfl
@[simp] theorem State.modFrame_aon (s : State) (f : Frame → Frame) : (s.modFrame f).aon = s.aon := rfl
@[simp] theorem State.modFrame_net (s : State) (f : Frame → Frame) : (s.modFrame f).net = s.net := rfl
@[simp] theorem State.modFrame_mgmt (s : State) (f : Frame → Frame) : (s.modFrame f).mgmt = s.mgmt := rfl
@[simp] theorem State.modFrame_adc (s : State) (f : Frame → Frame) : (s.modFrame f).adc = s.adc := rfl
@[simp] theorem State.modFrame_tsens (s : State) (f : Frame → Frame) : (s.modFrame f).tsens = s.tsens := rfl
@[simp] theorem State.modFrame_power (s : State) (f : Frame → Frame) : (s.modFrame f).power = s.power := rfl
@[simp] theorem State.modFrame_clocks (s : State) (f : Frame → Frame) : (s.modFrame f).clocks = s.clocks := rfl
@[simp] theorem State.modFrame_cairn (s : State) (f : Frame → Frame) : (s.modFrame f).cairn = s.cairn := rfl

/-! ### State.modStamp -/

@[simp] theorem State.modStamp_pending (s : State) (f : Stamp → Stamp) : (s.modStamp f).pending = s.pending := rfl
@[simp] theorem State.modStamp_clock (s : State) (f : Stamp → Stamp) : (s.modStamp f).clock = s.clock := rfl
@[simp] theorem State.modStamp_freeCount (s : State) (f : Stamp → Stamp) : (s.modStamp f).freeCount = s.freeCount := rfl
@[simp] theorem State.modStamp_mem (s : State) (f : Stamp → Stamp) : (s.modStamp f).mem = s.mem := rfl
@[simp] theorem State.modStamp_layers (s : State) (f : Stamp → Stamp) : (s.modStamp f).layers = s.layers := rfl
@[simp] theorem State.modStamp_group (s : State) (f : Stamp → Stamp) : (s.modStamp f).group = s.group := rfl
@[simp] theorem State.modStamp_essential (s : State) (f : Stamp → Stamp) : (s.modStamp f).essential = s.essential := rfl
@[simp] theorem State.modStamp_warp (s : State) (f : Stamp → Stamp) : (s.modStamp f).warp = s.warp := rfl
@[simp] theorem State.modStamp_banks (s : State) (f : Stamp → Stamp) : (s.modStamp f).banks = s.banks := rfl
@[simp] theorem State.modStamp_pack (s : State) (f : Stamp → Stamp) : (s.modStamp f).pack = s.pack := rfl
@[simp] theorem State.modStamp_sched (s : State) (f : Stamp → Stamp) : (s.modStamp f).sched = s.sched := rfl
@[simp] theorem State.modStamp_frame (s : State) (f : Stamp → Stamp) : (s.modStamp f).frame = s.frame := rfl
@[simp] theorem State.modStamp_tb (s : State) (f : Stamp → Stamp) : (s.modStamp f).tb = s.tb := rfl
@[simp] theorem State.modStamp_svh (s : State) (f : Stamp → Stamp) : (s.modStamp f).svh = s.svh := rfl
@[simp] theorem State.modStamp_links (s : State) (f : Stamp → Stamp) : (s.modStamp f).links = s.links := rfl
@[simp] theorem State.modStamp_diag (s : State) (f : Stamp → Stamp) : (s.modStamp f).diag = s.diag := rfl
@[simp] theorem State.modStamp_current (s : State) (f : Stamp → Stamp) : (s.modStamp f).current = s.current := rfl
@[simp] theorem State.modStamp_diagCfg (s : State) (f : Stamp → Stamp) : (s.modStamp f).diagCfg = s.diagCfg := rfl
@[simp] theorem State.modStamp_guard (s : State) (f : Stamp → Stamp) : (s.modStamp f).guard = s.guard := rfl
@[simp] theorem State.modStamp_stile (s : State) (f : Stamp → Stamp) : (s.modStamp f).stile = s.stile := rfl
@[simp] theorem State.modStamp_hedge (s : State) (f : Stamp → Stamp) : (s.modStamp f).hedge = s.hedge := rfl
@[simp] theorem State.modStamp_safety (s : State) (f : Stamp → Stamp) : (s.modStamp f).safety = s.safety := rfl
@[simp] theorem State.modStamp_twin (s : State) (f : Stamp → Stamp) : (s.modStamp f).twin = s.twin := rfl
@[simp] theorem State.modStamp_access (s : State) (f : Stamp → Stamp) : (s.modStamp f).access = s.access := rfl
@[simp] theorem State.modStamp_faults (s : State) (f : Stamp → Stamp) : (s.modStamp f).faults = s.faults := rfl
@[simp] theorem State.modStamp_aon (s : State) (f : Stamp → Stamp) : (s.modStamp f).aon = s.aon := rfl
@[simp] theorem State.modStamp_net (s : State) (f : Stamp → Stamp) : (s.modStamp f).net = s.net := rfl
@[simp] theorem State.modStamp_mgmt (s : State) (f : Stamp → Stamp) : (s.modStamp f).mgmt = s.mgmt := rfl
@[simp] theorem State.modStamp_adc (s : State) (f : Stamp → Stamp) : (s.modStamp f).adc = s.adc := rfl
@[simp] theorem State.modStamp_tsens (s : State) (f : Stamp → Stamp) : (s.modStamp f).tsens = s.tsens := rfl
@[simp] theorem State.modStamp_power (s : State) (f : Stamp → Stamp) : (s.modStamp f).power = s.power := rfl
@[simp] theorem State.modStamp_clocks (s : State) (f : Stamp → Stamp) : (s.modStamp f).clocks = s.clocks := rfl
@[simp] theorem State.modStamp_cairn (s : State) (f : Stamp → Stamp) : (s.modStamp f).cairn = s.cairn := rfl

/-! ### State.modWarp -/

@[simp] theorem State.modWarp_pending (s : State) (f : Warp → Warp) : (s.modWarp f).pending = s.pending := rfl
@[simp] theorem State.modWarp_clock (s : State) (f : Warp → Warp) : (s.modWarp f).clock = s.clock := rfl
@[simp] theorem State.modWarp_freeCount (s : State) (f : Warp → Warp) : (s.modWarp f).freeCount = s.freeCount := rfl
@[simp] theorem State.modWarp_mem (s : State) (f : Warp → Warp) : (s.modWarp f).mem = s.mem := rfl
@[simp] theorem State.modWarp_layers (s : State) (f : Warp → Warp) : (s.modWarp f).layers = s.layers := rfl
@[simp] theorem State.modWarp_group (s : State) (f : Warp → Warp) : (s.modWarp f).group = s.group := rfl
@[simp] theorem State.modWarp_essential (s : State) (f : Warp → Warp) : (s.modWarp f).essential = s.essential := rfl
@[simp] theorem State.modWarp_stamp (s : State) (f : Warp → Warp) : (s.modWarp f).stamp = s.stamp := rfl
@[simp] theorem State.modWarp_banks (s : State) (f : Warp → Warp) : (s.modWarp f).banks = s.banks := rfl
@[simp] theorem State.modWarp_pack (s : State) (f : Warp → Warp) : (s.modWarp f).pack = s.pack := rfl
@[simp] theorem State.modWarp_sched (s : State) (f : Warp → Warp) : (s.modWarp f).sched = s.sched := rfl
@[simp] theorem State.modWarp_frame (s : State) (f : Warp → Warp) : (s.modWarp f).frame = s.frame := rfl
@[simp] theorem State.modWarp_tb (s : State) (f : Warp → Warp) : (s.modWarp f).tb = s.tb := rfl
@[simp] theorem State.modWarp_svh (s : State) (f : Warp → Warp) : (s.modWarp f).svh = s.svh := rfl
@[simp] theorem State.modWarp_links (s : State) (f : Warp → Warp) : (s.modWarp f).links = s.links := rfl
@[simp] theorem State.modWarp_diag (s : State) (f : Warp → Warp) : (s.modWarp f).diag = s.diag := rfl
@[simp] theorem State.modWarp_current (s : State) (f : Warp → Warp) : (s.modWarp f).current = s.current := rfl
@[simp] theorem State.modWarp_diagCfg (s : State) (f : Warp → Warp) : (s.modWarp f).diagCfg = s.diagCfg := rfl
@[simp] theorem State.modWarp_guard (s : State) (f : Warp → Warp) : (s.modWarp f).guard = s.guard := rfl
@[simp] theorem State.modWarp_stile (s : State) (f : Warp → Warp) : (s.modWarp f).stile = s.stile := rfl
@[simp] theorem State.modWarp_hedge (s : State) (f : Warp → Warp) : (s.modWarp f).hedge = s.hedge := rfl
@[simp] theorem State.modWarp_safety (s : State) (f : Warp → Warp) : (s.modWarp f).safety = s.safety := rfl
@[simp] theorem State.modWarp_twin (s : State) (f : Warp → Warp) : (s.modWarp f).twin = s.twin := rfl
@[simp] theorem State.modWarp_access (s : State) (f : Warp → Warp) : (s.modWarp f).access = s.access := rfl
@[simp] theorem State.modWarp_faults (s : State) (f : Warp → Warp) : (s.modWarp f).faults = s.faults := rfl
@[simp] theorem State.modWarp_aon (s : State) (f : Warp → Warp) : (s.modWarp f).aon = s.aon := rfl
@[simp] theorem State.modWarp_net (s : State) (f : Warp → Warp) : (s.modWarp f).net = s.net := rfl
@[simp] theorem State.modWarp_mgmt (s : State) (f : Warp → Warp) : (s.modWarp f).mgmt = s.mgmt := rfl
@[simp] theorem State.modWarp_adc (s : State) (f : Warp → Warp) : (s.modWarp f).adc = s.adc := rfl
@[simp] theorem State.modWarp_tsens (s : State) (f : Warp → Warp) : (s.modWarp f).tsens = s.tsens := rfl
@[simp] theorem State.modWarp_power (s : State) (f : Warp → Warp) : (s.modWarp f).power = s.power := rfl
@[simp] theorem State.modWarp_clocks (s : State) (f : Warp → Warp) : (s.modWarp f).clocks = s.clocks := rfl
@[simp] theorem State.modWarp_cairn (s : State) (f : Warp → Warp) : (s.modWarp f).cairn = s.cairn := rfl

/-! ### State.modPack -/

@[simp] theorem State.modPack_pending (s : State) (f : Pack → Pack) : (s.modPack f).pending = s.pending := rfl
@[simp] theorem State.modPack_clock (s : State) (f : Pack → Pack) : (s.modPack f).clock = s.clock := rfl
@[simp] theorem State.modPack_freeCount (s : State) (f : Pack → Pack) : (s.modPack f).freeCount = s.freeCount := rfl
@[simp] theorem State.modPack_mem (s : State) (f : Pack → Pack) : (s.modPack f).mem = s.mem := rfl
@[simp] theorem State.modPack_layers (s : State) (f : Pack → Pack) : (s.modPack f).layers = s.layers := rfl
@[simp] theorem State.modPack_group (s : State) (f : Pack → Pack) : (s.modPack f).group = s.group := rfl
@[simp] theorem State.modPack_essential (s : State) (f : Pack → Pack) : (s.modPack f).essential = s.essential := rfl
@[simp] theorem State.modPack_stamp (s : State) (f : Pack → Pack) : (s.modPack f).stamp = s.stamp := rfl
@[simp] theorem State.modPack_warp (s : State) (f : Pack → Pack) : (s.modPack f).warp = s.warp := rfl
@[simp] theorem State.modPack_banks (s : State) (f : Pack → Pack) : (s.modPack f).banks = s.banks := rfl
@[simp] theorem State.modPack_sched (s : State) (f : Pack → Pack) : (s.modPack f).sched = s.sched := rfl
@[simp] theorem State.modPack_frame (s : State) (f : Pack → Pack) : (s.modPack f).frame = s.frame := rfl
@[simp] theorem State.modPack_tb (s : State) (f : Pack → Pack) : (s.modPack f).tb = s.tb := rfl
@[simp] theorem State.modPack_svh (s : State) (f : Pack → Pack) : (s.modPack f).svh = s.svh := rfl
@[simp] theorem State.modPack_links (s : State) (f : Pack → Pack) : (s.modPack f).links = s.links := rfl
@[simp] theorem State.modPack_diag (s : State) (f : Pack → Pack) : (s.modPack f).diag = s.diag := rfl
@[simp] theorem State.modPack_current (s : State) (f : Pack → Pack) : (s.modPack f).current = s.current := rfl
@[simp] theorem State.modPack_diagCfg (s : State) (f : Pack → Pack) : (s.modPack f).diagCfg = s.diagCfg := rfl
@[simp] theorem State.modPack_guard (s : State) (f : Pack → Pack) : (s.modPack f).guard = s.guard := rfl
@[simp] theorem State.modPack_stile (s : State) (f : Pack → Pack) : (s.modPack f).stile = s.stile := rfl
@[simp] theorem State.modPack_hedge (s : State) (f : Pack → Pack) : (s.modPack f).hedge = s.hedge := rfl
@[simp] theorem State.modPack_safety (s : State) (f : Pack → Pack) : (s.modPack f).safety = s.safety := rfl
@[simp] theorem State.modPack_twin (s : State) (f : Pack → Pack) : (s.modPack f).twin = s.twin := rfl
@[simp] theorem State.modPack_access (s : State) (f : Pack → Pack) : (s.modPack f).access = s.access := rfl
@[simp] theorem State.modPack_faults (s : State) (f : Pack → Pack) : (s.modPack f).faults = s.faults := rfl
@[simp] theorem State.modPack_aon (s : State) (f : Pack → Pack) : (s.modPack f).aon = s.aon := rfl
@[simp] theorem State.modPack_net (s : State) (f : Pack → Pack) : (s.modPack f).net = s.net := rfl
@[simp] theorem State.modPack_mgmt (s : State) (f : Pack → Pack) : (s.modPack f).mgmt = s.mgmt := rfl
@[simp] theorem State.modPack_adc (s : State) (f : Pack → Pack) : (s.modPack f).adc = s.adc := rfl
@[simp] theorem State.modPack_tsens (s : State) (f : Pack → Pack) : (s.modPack f).tsens = s.tsens := rfl
@[simp] theorem State.modPack_power (s : State) (f : Pack → Pack) : (s.modPack f).power = s.power := rfl
@[simp] theorem State.modPack_clocks (s : State) (f : Pack → Pack) : (s.modPack f).clocks = s.clocks := rfl
@[simp] theorem State.modPack_cairn (s : State) (f : Pack → Pack) : (s.modPack f).cairn = s.cairn := rfl

/-! ### State.modCfg -/

@[simp] theorem State.modCfg_pending (s : State) (f : DiagCfg → DiagCfg) : (s.modCfg f).pending = s.pending := rfl
@[simp] theorem State.modCfg_clock (s : State) (f : DiagCfg → DiagCfg) : (s.modCfg f).clock = s.clock := rfl
@[simp] theorem State.modCfg_freeCount (s : State) (f : DiagCfg → DiagCfg) : (s.modCfg f).freeCount = s.freeCount := rfl
@[simp] theorem State.modCfg_mem (s : State) (f : DiagCfg → DiagCfg) : (s.modCfg f).mem = s.mem := rfl
@[simp] theorem State.modCfg_layers (s : State) (f : DiagCfg → DiagCfg) : (s.modCfg f).layers = s.layers := rfl
@[simp] theorem State.modCfg_group (s : State) (f : DiagCfg → DiagCfg) : (s.modCfg f).group = s.group := rfl
@[simp] theorem State.modCfg_essential (s : State) (f : DiagCfg → DiagCfg) : (s.modCfg f).essential = s.essential := rfl
@[simp] theorem State.modCfg_stamp (s : State) (f : DiagCfg → DiagCfg) : (s.modCfg f).stamp = s.stamp := rfl
@[simp] theorem State.modCfg_warp (s : State) (f : DiagCfg → DiagCfg) : (s.modCfg f).warp = s.warp := rfl
@[simp] theorem State.modCfg_banks (s : State) (f : DiagCfg → DiagCfg) : (s.modCfg f).banks = s.banks := rfl
@[simp] theorem State.modCfg_pack (s : State) (f : DiagCfg → DiagCfg) : (s.modCfg f).pack = s.pack := rfl
@[simp] theorem State.modCfg_sched (s : State) (f : DiagCfg → DiagCfg) : (s.modCfg f).sched = s.sched := rfl
@[simp] theorem State.modCfg_frame (s : State) (f : DiagCfg → DiagCfg) : (s.modCfg f).frame = s.frame := rfl
@[simp] theorem State.modCfg_tb (s : State) (f : DiagCfg → DiagCfg) : (s.modCfg f).tb = s.tb := rfl
@[simp] theorem State.modCfg_svh (s : State) (f : DiagCfg → DiagCfg) : (s.modCfg f).svh = s.svh := rfl
@[simp] theorem State.modCfg_links (s : State) (f : DiagCfg → DiagCfg) : (s.modCfg f).links = s.links := rfl
@[simp] theorem State.modCfg_diag (s : State) (f : DiagCfg → DiagCfg) : (s.modCfg f).diag = s.diag := rfl
@[simp] theorem State.modCfg_current (s : State) (f : DiagCfg → DiagCfg) : (s.modCfg f).current = s.current := rfl
@[simp] theorem State.modCfg_guard (s : State) (f : DiagCfg → DiagCfg) : (s.modCfg f).guard = s.guard := rfl
@[simp] theorem State.modCfg_stile (s : State) (f : DiagCfg → DiagCfg) : (s.modCfg f).stile = s.stile := rfl
@[simp] theorem State.modCfg_hedge (s : State) (f : DiagCfg → DiagCfg) : (s.modCfg f).hedge = s.hedge := rfl
@[simp] theorem State.modCfg_safety (s : State) (f : DiagCfg → DiagCfg) : (s.modCfg f).safety = s.safety := rfl
@[simp] theorem State.modCfg_twin (s : State) (f : DiagCfg → DiagCfg) : (s.modCfg f).twin = s.twin := rfl
@[simp] theorem State.modCfg_access (s : State) (f : DiagCfg → DiagCfg) : (s.modCfg f).access = s.access := rfl
@[simp] theorem State.modCfg_faults (s : State) (f : DiagCfg → DiagCfg) : (s.modCfg f).faults = s.faults := rfl
@[simp] theorem State.modCfg_aon (s : State) (f : DiagCfg → DiagCfg) : (s.modCfg f).aon = s.aon := rfl
@[simp] theorem State.modCfg_net (s : State) (f : DiagCfg → DiagCfg) : (s.modCfg f).net = s.net := rfl
@[simp] theorem State.modCfg_mgmt (s : State) (f : DiagCfg → DiagCfg) : (s.modCfg f).mgmt = s.mgmt := rfl
@[simp] theorem State.modCfg_adc (s : State) (f : DiagCfg → DiagCfg) : (s.modCfg f).adc = s.adc := rfl
@[simp] theorem State.modCfg_tsens (s : State) (f : DiagCfg → DiagCfg) : (s.modCfg f).tsens = s.tsens := rfl
@[simp] theorem State.modCfg_power (s : State) (f : DiagCfg → DiagCfg) : (s.modCfg f).power = s.power := rfl
@[simp] theorem State.modCfg_clocks (s : State) (f : DiagCfg → DiagCfg) : (s.modCfg f).clocks = s.clocks := rfl
@[simp] theorem State.modCfg_cairn (s : State) (f : DiagCfg → DiagCfg) : (s.modCfg f).cairn = s.cairn := rfl

/-! ### State.modTwin -/

@[simp] theorem State.modTwin_pending (s : State) (f : Twin → Twin) : (s.modTwin f).pending = s.pending := rfl
@[simp] theorem State.modTwin_clock (s : State) (f : Twin → Twin) : (s.modTwin f).clock = s.clock := rfl
@[simp] theorem State.modTwin_freeCount (s : State) (f : Twin → Twin) : (s.modTwin f).freeCount = s.freeCount := rfl
@[simp] theorem State.modTwin_mem (s : State) (f : Twin → Twin) : (s.modTwin f).mem = s.mem := rfl
@[simp] theorem State.modTwin_layers (s : State) (f : Twin → Twin) : (s.modTwin f).layers = s.layers := rfl
@[simp] theorem State.modTwin_group (s : State) (f : Twin → Twin) : (s.modTwin f).group = s.group := rfl
@[simp] theorem State.modTwin_essential (s : State) (f : Twin → Twin) : (s.modTwin f).essential = s.essential := rfl
@[simp] theorem State.modTwin_stamp (s : State) (f : Twin → Twin) : (s.modTwin f).stamp = s.stamp := rfl
@[simp] theorem State.modTwin_warp (s : State) (f : Twin → Twin) : (s.modTwin f).warp = s.warp := rfl
@[simp] theorem State.modTwin_banks (s : State) (f : Twin → Twin) : (s.modTwin f).banks = s.banks := rfl
@[simp] theorem State.modTwin_pack (s : State) (f : Twin → Twin) : (s.modTwin f).pack = s.pack := rfl
@[simp] theorem State.modTwin_sched (s : State) (f : Twin → Twin) : (s.modTwin f).sched = s.sched := rfl
@[simp] theorem State.modTwin_frame (s : State) (f : Twin → Twin) : (s.modTwin f).frame = s.frame := rfl
@[simp] theorem State.modTwin_tb (s : State) (f : Twin → Twin) : (s.modTwin f).tb = s.tb := rfl
@[simp] theorem State.modTwin_svh (s : State) (f : Twin → Twin) : (s.modTwin f).svh = s.svh := rfl
@[simp] theorem State.modTwin_links (s : State) (f : Twin → Twin) : (s.modTwin f).links = s.links := rfl
@[simp] theorem State.modTwin_diag (s : State) (f : Twin → Twin) : (s.modTwin f).diag = s.diag := rfl
@[simp] theorem State.modTwin_current (s : State) (f : Twin → Twin) : (s.modTwin f).current = s.current := rfl
@[simp] theorem State.modTwin_diagCfg (s : State) (f : Twin → Twin) : (s.modTwin f).diagCfg = s.diagCfg := rfl
@[simp] theorem State.modTwin_guard (s : State) (f : Twin → Twin) : (s.modTwin f).guard = s.guard := rfl
@[simp] theorem State.modTwin_stile (s : State) (f : Twin → Twin) : (s.modTwin f).stile = s.stile := rfl
@[simp] theorem State.modTwin_hedge (s : State) (f : Twin → Twin) : (s.modTwin f).hedge = s.hedge := rfl
@[simp] theorem State.modTwin_safety (s : State) (f : Twin → Twin) : (s.modTwin f).safety = s.safety := rfl
@[simp] theorem State.modTwin_access (s : State) (f : Twin → Twin) : (s.modTwin f).access = s.access := rfl
@[simp] theorem State.modTwin_faults (s : State) (f : Twin → Twin) : (s.modTwin f).faults = s.faults := rfl
@[simp] theorem State.modTwin_aon (s : State) (f : Twin → Twin) : (s.modTwin f).aon = s.aon := rfl
@[simp] theorem State.modTwin_net (s : State) (f : Twin → Twin) : (s.modTwin f).net = s.net := rfl
@[simp] theorem State.modTwin_mgmt (s : State) (f : Twin → Twin) : (s.modTwin f).mgmt = s.mgmt := rfl
@[simp] theorem State.modTwin_adc (s : State) (f : Twin → Twin) : (s.modTwin f).adc = s.adc := rfl
@[simp] theorem State.modTwin_tsens (s : State) (f : Twin → Twin) : (s.modTwin f).tsens = s.tsens := rfl
@[simp] theorem State.modTwin_power (s : State) (f : Twin → Twin) : (s.modTwin f).power = s.power := rfl
@[simp] theorem State.modTwin_clocks (s : State) (f : Twin → Twin) : (s.modTwin f).clocks = s.clocks := rfl
@[simp] theorem State.modTwin_cairn (s : State) (f : Twin → Twin) : (s.modTwin f).cairn = s.cairn := rfl

/-! ### State.modFaults -/

@[simp] theorem State.modFaults_pending (s : State) (f : Faults → Faults) : (s.modFaults f).pending = s.pending := rfl
@[simp] theorem State.modFaults_clock (s : State) (f : Faults → Faults) : (s.modFaults f).clock = s.clock := rfl
@[simp] theorem State.modFaults_freeCount (s : State) (f : Faults → Faults) : (s.modFaults f).freeCount = s.freeCount := rfl
@[simp] theorem State.modFaults_mem (s : State) (f : Faults → Faults) : (s.modFaults f).mem = s.mem := rfl
@[simp] theorem State.modFaults_layers (s : State) (f : Faults → Faults) : (s.modFaults f).layers = s.layers := rfl
@[simp] theorem State.modFaults_group (s : State) (f : Faults → Faults) : (s.modFaults f).group = s.group := rfl
@[simp] theorem State.modFaults_essential (s : State) (f : Faults → Faults) : (s.modFaults f).essential = s.essential := rfl
@[simp] theorem State.modFaults_stamp (s : State) (f : Faults → Faults) : (s.modFaults f).stamp = s.stamp := rfl
@[simp] theorem State.modFaults_warp (s : State) (f : Faults → Faults) : (s.modFaults f).warp = s.warp := rfl
@[simp] theorem State.modFaults_banks (s : State) (f : Faults → Faults) : (s.modFaults f).banks = s.banks := rfl
@[simp] theorem State.modFaults_pack (s : State) (f : Faults → Faults) : (s.modFaults f).pack = s.pack := rfl
@[simp] theorem State.modFaults_sched (s : State) (f : Faults → Faults) : (s.modFaults f).sched = s.sched := rfl
@[simp] theorem State.modFaults_frame (s : State) (f : Faults → Faults) : (s.modFaults f).frame = s.frame := rfl
@[simp] theorem State.modFaults_tb (s : State) (f : Faults → Faults) : (s.modFaults f).tb = s.tb := rfl
@[simp] theorem State.modFaults_svh (s : State) (f : Faults → Faults) : (s.modFaults f).svh = s.svh := rfl
@[simp] theorem State.modFaults_links (s : State) (f : Faults → Faults) : (s.modFaults f).links = s.links := rfl
@[simp] theorem State.modFaults_diag (s : State) (f : Faults → Faults) : (s.modFaults f).diag = s.diag := rfl
@[simp] theorem State.modFaults_current (s : State) (f : Faults → Faults) : (s.modFaults f).current = s.current := rfl
@[simp] theorem State.modFaults_diagCfg (s : State) (f : Faults → Faults) : (s.modFaults f).diagCfg = s.diagCfg := rfl
@[simp] theorem State.modFaults_guard (s : State) (f : Faults → Faults) : (s.modFaults f).guard = s.guard := rfl
@[simp] theorem State.modFaults_stile (s : State) (f : Faults → Faults) : (s.modFaults f).stile = s.stile := rfl
@[simp] theorem State.modFaults_hedge (s : State) (f : Faults → Faults) : (s.modFaults f).hedge = s.hedge := rfl
@[simp] theorem State.modFaults_safety (s : State) (f : Faults → Faults) : (s.modFaults f).safety = s.safety := rfl
@[simp] theorem State.modFaults_twin (s : State) (f : Faults → Faults) : (s.modFaults f).twin = s.twin := rfl
@[simp] theorem State.modFaults_access (s : State) (f : Faults → Faults) : (s.modFaults f).access = s.access := rfl
@[simp] theorem State.modFaults_aon (s : State) (f : Faults → Faults) : (s.modFaults f).aon = s.aon := rfl
@[simp] theorem State.modFaults_net (s : State) (f : Faults → Faults) : (s.modFaults f).net = s.net := rfl
@[simp] theorem State.modFaults_mgmt (s : State) (f : Faults → Faults) : (s.modFaults f).mgmt = s.mgmt := rfl
@[simp] theorem State.modFaults_adc (s : State) (f : Faults → Faults) : (s.modFaults f).adc = s.adc := rfl
@[simp] theorem State.modFaults_tsens (s : State) (f : Faults → Faults) : (s.modFaults f).tsens = s.tsens := rfl
@[simp] theorem State.modFaults_power (s : State) (f : Faults → Faults) : (s.modFaults f).power = s.power := rfl
@[simp] theorem State.modFaults_clocks (s : State) (f : Faults → Faults) : (s.modFaults f).clocks = s.clocks := rfl
@[simp] theorem State.modFaults_cairn (s : State) (f : Faults → Faults) : (s.modFaults f).cairn = s.cairn := rfl

/-! ### State.modAdc -/

@[simp] theorem State.modAdc_pending (s : State) (f : Adc → Adc) : (s.modAdc f).pending = s.pending := rfl
@[simp] theorem State.modAdc_clock (s : State) (f : Adc → Adc) : (s.modAdc f).clock = s.clock := rfl
@[simp] theorem State.modAdc_freeCount (s : State) (f : Adc → Adc) : (s.modAdc f).freeCount = s.freeCount := rfl
@[simp] theorem State.modAdc_mem (s : State) (f : Adc → Adc) : (s.modAdc f).mem = s.mem := rfl
@[simp] theorem State.modAdc_layers (s : State) (f : Adc → Adc) : (s.modAdc f).layers = s.layers := rfl
@[simp] theorem State.modAdc_group (s : State) (f : Adc → Adc) : (s.modAdc f).group = s.group := rfl
@[simp] theorem State.modAdc_essential (s : State) (f : Adc → Adc) : (s.modAdc f).essential = s.essential := rfl
@[simp] theorem State.modAdc_stamp (s : State) (f : Adc → Adc) : (s.modAdc f).stamp = s.stamp := rfl
@[simp] theorem State.modAdc_warp (s : State) (f : Adc → Adc) : (s.modAdc f).warp = s.warp := rfl
@[simp] theorem State.modAdc_banks (s : State) (f : Adc → Adc) : (s.modAdc f).banks = s.banks := rfl
@[simp] theorem State.modAdc_pack (s : State) (f : Adc → Adc) : (s.modAdc f).pack = s.pack := rfl
@[simp] theorem State.modAdc_sched (s : State) (f : Adc → Adc) : (s.modAdc f).sched = s.sched := rfl
@[simp] theorem State.modAdc_frame (s : State) (f : Adc → Adc) : (s.modAdc f).frame = s.frame := rfl
@[simp] theorem State.modAdc_tb (s : State) (f : Adc → Adc) : (s.modAdc f).tb = s.tb := rfl
@[simp] theorem State.modAdc_svh (s : State) (f : Adc → Adc) : (s.modAdc f).svh = s.svh := rfl
@[simp] theorem State.modAdc_links (s : State) (f : Adc → Adc) : (s.modAdc f).links = s.links := rfl
@[simp] theorem State.modAdc_diag (s : State) (f : Adc → Adc) : (s.modAdc f).diag = s.diag := rfl
@[simp] theorem State.modAdc_current (s : State) (f : Adc → Adc) : (s.modAdc f).current = s.current := rfl
@[simp] theorem State.modAdc_diagCfg (s : State) (f : Adc → Adc) : (s.modAdc f).diagCfg = s.diagCfg := rfl
@[simp] theorem State.modAdc_guard (s : State) (f : Adc → Adc) : (s.modAdc f).guard = s.guard := rfl
@[simp] theorem State.modAdc_stile (s : State) (f : Adc → Adc) : (s.modAdc f).stile = s.stile := rfl
@[simp] theorem State.modAdc_hedge (s : State) (f : Adc → Adc) : (s.modAdc f).hedge = s.hedge := rfl
@[simp] theorem State.modAdc_safety (s : State) (f : Adc → Adc) : (s.modAdc f).safety = s.safety := rfl
@[simp] theorem State.modAdc_twin (s : State) (f : Adc → Adc) : (s.modAdc f).twin = s.twin := rfl
@[simp] theorem State.modAdc_access (s : State) (f : Adc → Adc) : (s.modAdc f).access = s.access := rfl
@[simp] theorem State.modAdc_faults (s : State) (f : Adc → Adc) : (s.modAdc f).faults = s.faults := rfl
@[simp] theorem State.modAdc_aon (s : State) (f : Adc → Adc) : (s.modAdc f).aon = s.aon := rfl
@[simp] theorem State.modAdc_net (s : State) (f : Adc → Adc) : (s.modAdc f).net = s.net := rfl
@[simp] theorem State.modAdc_mgmt (s : State) (f : Adc → Adc) : (s.modAdc f).mgmt = s.mgmt := rfl
@[simp] theorem State.modAdc_tsens (s : State) (f : Adc → Adc) : (s.modAdc f).tsens = s.tsens := rfl
@[simp] theorem State.modAdc_power (s : State) (f : Adc → Adc) : (s.modAdc f).power = s.power := rfl
@[simp] theorem State.modAdc_clocks (s : State) (f : Adc → Adc) : (s.modAdc f).clocks = s.clocks := rfl
@[simp] theorem State.modAdc_cairn (s : State) (f : Adc → Adc) : (s.modAdc f).cairn = s.cairn := rfl

/-! ### State.modPower -/

@[simp] theorem State.modPower_pending (s : State) (f : Power → Power) : (s.modPower f).pending = s.pending := rfl
@[simp] theorem State.modPower_clock (s : State) (f : Power → Power) : (s.modPower f).clock = s.clock := rfl
@[simp] theorem State.modPower_freeCount (s : State) (f : Power → Power) : (s.modPower f).freeCount = s.freeCount := rfl
@[simp] theorem State.modPower_mem (s : State) (f : Power → Power) : (s.modPower f).mem = s.mem := rfl
@[simp] theorem State.modPower_layers (s : State) (f : Power → Power) : (s.modPower f).layers = s.layers := rfl
@[simp] theorem State.modPower_group (s : State) (f : Power → Power) : (s.modPower f).group = s.group := rfl
@[simp] theorem State.modPower_essential (s : State) (f : Power → Power) : (s.modPower f).essential = s.essential := rfl
@[simp] theorem State.modPower_stamp (s : State) (f : Power → Power) : (s.modPower f).stamp = s.stamp := rfl
@[simp] theorem State.modPower_warp (s : State) (f : Power → Power) : (s.modPower f).warp = s.warp := rfl
@[simp] theorem State.modPower_banks (s : State) (f : Power → Power) : (s.modPower f).banks = s.banks := rfl
@[simp] theorem State.modPower_pack (s : State) (f : Power → Power) : (s.modPower f).pack = s.pack := rfl
@[simp] theorem State.modPower_sched (s : State) (f : Power → Power) : (s.modPower f).sched = s.sched := rfl
@[simp] theorem State.modPower_frame (s : State) (f : Power → Power) : (s.modPower f).frame = s.frame := rfl
@[simp] theorem State.modPower_tb (s : State) (f : Power → Power) : (s.modPower f).tb = s.tb := rfl
@[simp] theorem State.modPower_svh (s : State) (f : Power → Power) : (s.modPower f).svh = s.svh := rfl
@[simp] theorem State.modPower_links (s : State) (f : Power → Power) : (s.modPower f).links = s.links := rfl
@[simp] theorem State.modPower_diag (s : State) (f : Power → Power) : (s.modPower f).diag = s.diag := rfl
@[simp] theorem State.modPower_current (s : State) (f : Power → Power) : (s.modPower f).current = s.current := rfl
@[simp] theorem State.modPower_diagCfg (s : State) (f : Power → Power) : (s.modPower f).diagCfg = s.diagCfg := rfl
@[simp] theorem State.modPower_guard (s : State) (f : Power → Power) : (s.modPower f).guard = s.guard := rfl
@[simp] theorem State.modPower_stile (s : State) (f : Power → Power) : (s.modPower f).stile = s.stile := rfl
@[simp] theorem State.modPower_hedge (s : State) (f : Power → Power) : (s.modPower f).hedge = s.hedge := rfl
@[simp] theorem State.modPower_safety (s : State) (f : Power → Power) : (s.modPower f).safety = s.safety := rfl
@[simp] theorem State.modPower_twin (s : State) (f : Power → Power) : (s.modPower f).twin = s.twin := rfl
@[simp] theorem State.modPower_access (s : State) (f : Power → Power) : (s.modPower f).access = s.access := rfl
@[simp] theorem State.modPower_faults (s : State) (f : Power → Power) : (s.modPower f).faults = s.faults := rfl
@[simp] theorem State.modPower_aon (s : State) (f : Power → Power) : (s.modPower f).aon = s.aon := rfl
@[simp] theorem State.modPower_net (s : State) (f : Power → Power) : (s.modPower f).net = s.net := rfl
@[simp] theorem State.modPower_mgmt (s : State) (f : Power → Power) : (s.modPower f).mgmt = s.mgmt := rfl
@[simp] theorem State.modPower_adc (s : State) (f : Power → Power) : (s.modPower f).adc = s.adc := rfl
@[simp] theorem State.modPower_tsens (s : State) (f : Power → Power) : (s.modPower f).tsens = s.tsens := rfl
@[simp] theorem State.modPower_clocks (s : State) (f : Power → Power) : (s.modPower f).clocks = s.clocks := rfl
@[simp] theorem State.modPower_cairn (s : State) (f : Power → Power) : (s.modPower f).cairn = s.cairn := rfl

/-! ### State.modClocks -/

@[simp] theorem State.modClocks_pending (s : State) (f : Clocks → Clocks) : (s.modClocks f).pending = s.pending := rfl
@[simp] theorem State.modClocks_clock (s : State) (f : Clocks → Clocks) : (s.modClocks f).clock = s.clock := rfl
@[simp] theorem State.modClocks_freeCount (s : State) (f : Clocks → Clocks) : (s.modClocks f).freeCount = s.freeCount := rfl
@[simp] theorem State.modClocks_mem (s : State) (f : Clocks → Clocks) : (s.modClocks f).mem = s.mem := rfl
@[simp] theorem State.modClocks_layers (s : State) (f : Clocks → Clocks) : (s.modClocks f).layers = s.layers := rfl
@[simp] theorem State.modClocks_group (s : State) (f : Clocks → Clocks) : (s.modClocks f).group = s.group := rfl
@[simp] theorem State.modClocks_essential (s : State) (f : Clocks → Clocks) : (s.modClocks f).essential = s.essential := rfl
@[simp] theorem State.modClocks_stamp (s : State) (f : Clocks → Clocks) : (s.modClocks f).stamp = s.stamp := rfl
@[simp] theorem State.modClocks_warp (s : State) (f : Clocks → Clocks) : (s.modClocks f).warp = s.warp := rfl
@[simp] theorem State.modClocks_banks (s : State) (f : Clocks → Clocks) : (s.modClocks f).banks = s.banks := rfl
@[simp] theorem State.modClocks_pack (s : State) (f : Clocks → Clocks) : (s.modClocks f).pack = s.pack := rfl
@[simp] theorem State.modClocks_sched (s : State) (f : Clocks → Clocks) : (s.modClocks f).sched = s.sched := rfl
@[simp] theorem State.modClocks_frame (s : State) (f : Clocks → Clocks) : (s.modClocks f).frame = s.frame := rfl
@[simp] theorem State.modClocks_tb (s : State) (f : Clocks → Clocks) : (s.modClocks f).tb = s.tb := rfl
@[simp] theorem State.modClocks_svh (s : State) (f : Clocks → Clocks) : (s.modClocks f).svh = s.svh := rfl
@[simp] theorem State.modClocks_links (s : State) (f : Clocks → Clocks) : (s.modClocks f).links = s.links := rfl
@[simp] theorem State.modClocks_diag (s : State) (f : Clocks → Clocks) : (s.modClocks f).diag = s.diag := rfl
@[simp] theorem State.modClocks_current (s : State) (f : Clocks → Clocks) : (s.modClocks f).current = s.current := rfl
@[simp] theorem State.modClocks_diagCfg (s : State) (f : Clocks → Clocks) : (s.modClocks f).diagCfg = s.diagCfg := rfl
@[simp] theorem State.modClocks_guard (s : State) (f : Clocks → Clocks) : (s.modClocks f).guard = s.guard := rfl
@[simp] theorem State.modClocks_stile (s : State) (f : Clocks → Clocks) : (s.modClocks f).stile = s.stile := rfl
@[simp] theorem State.modClocks_hedge (s : State) (f : Clocks → Clocks) : (s.modClocks f).hedge = s.hedge := rfl
@[simp] theorem State.modClocks_safety (s : State) (f : Clocks → Clocks) : (s.modClocks f).safety = s.safety := rfl
@[simp] theorem State.modClocks_twin (s : State) (f : Clocks → Clocks) : (s.modClocks f).twin = s.twin := rfl
@[simp] theorem State.modClocks_access (s : State) (f : Clocks → Clocks) : (s.modClocks f).access = s.access := rfl
@[simp] theorem State.modClocks_faults (s : State) (f : Clocks → Clocks) : (s.modClocks f).faults = s.faults := rfl
@[simp] theorem State.modClocks_aon (s : State) (f : Clocks → Clocks) : (s.modClocks f).aon = s.aon := rfl
@[simp] theorem State.modClocks_net (s : State) (f : Clocks → Clocks) : (s.modClocks f).net = s.net := rfl
@[simp] theorem State.modClocks_mgmt (s : State) (f : Clocks → Clocks) : (s.modClocks f).mgmt = s.mgmt := rfl
@[simp] theorem State.modClocks_adc (s : State) (f : Clocks → Clocks) : (s.modClocks f).adc = s.adc := rfl
@[simp] theorem State.modClocks_tsens (s : State) (f : Clocks → Clocks) : (s.modClocks f).tsens = s.tsens := rfl
@[simp] theorem State.modClocks_power (s : State) (f : Clocks → Clocks) : (s.modClocks f).power = s.power := rfl
@[simp] theorem State.modClocks_cairn (s : State) (f : Clocks → Clocks) : (s.modClocks f).cairn = s.cairn := rfl

/-! ### State.modAccess -/

@[simp] theorem State.modAccess_pending (s : State) (f : Access → Access) : (s.modAccess f).pending = s.pending := rfl
@[simp] theorem State.modAccess_clock (s : State) (f : Access → Access) : (s.modAccess f).clock = s.clock := rfl
@[simp] theorem State.modAccess_freeCount (s : State) (f : Access → Access) : (s.modAccess f).freeCount = s.freeCount := rfl
@[simp] theorem State.modAccess_mem (s : State) (f : Access → Access) : (s.modAccess f).mem = s.mem := rfl
@[simp] theorem State.modAccess_layers (s : State) (f : Access → Access) : (s.modAccess f).layers = s.layers := rfl
@[simp] theorem State.modAccess_group (s : State) (f : Access → Access) : (s.modAccess f).group = s.group := rfl
@[simp] theorem State.modAccess_essential (s : State) (f : Access → Access) : (s.modAccess f).essential = s.essential := rfl
@[simp] theorem State.modAccess_stamp (s : State) (f : Access → Access) : (s.modAccess f).stamp = s.stamp := rfl
@[simp] theorem State.modAccess_warp (s : State) (f : Access → Access) : (s.modAccess f).warp = s.warp := rfl
@[simp] theorem State.modAccess_banks (s : State) (f : Access → Access) : (s.modAccess f).banks = s.banks := rfl
@[simp] theorem State.modAccess_pack (s : State) (f : Access → Access) : (s.modAccess f).pack = s.pack := rfl
@[simp] theorem State.modAccess_sched (s : State) (f : Access → Access) : (s.modAccess f).sched = s.sched := rfl
@[simp] theorem State.modAccess_frame (s : State) (f : Access → Access) : (s.modAccess f).frame = s.frame := rfl
@[simp] theorem State.modAccess_tb (s : State) (f : Access → Access) : (s.modAccess f).tb = s.tb := rfl
@[simp] theorem State.modAccess_svh (s : State) (f : Access → Access) : (s.modAccess f).svh = s.svh := rfl
@[simp] theorem State.modAccess_links (s : State) (f : Access → Access) : (s.modAccess f).links = s.links := rfl
@[simp] theorem State.modAccess_diag (s : State) (f : Access → Access) : (s.modAccess f).diag = s.diag := rfl
@[simp] theorem State.modAccess_current (s : State) (f : Access → Access) : (s.modAccess f).current = s.current := rfl
@[simp] theorem State.modAccess_diagCfg (s : State) (f : Access → Access) : (s.modAccess f).diagCfg = s.diagCfg := rfl
@[simp] theorem State.modAccess_guard (s : State) (f : Access → Access) : (s.modAccess f).guard = s.guard := rfl
@[simp] theorem State.modAccess_stile (s : State) (f : Access → Access) : (s.modAccess f).stile = s.stile := rfl
@[simp] theorem State.modAccess_hedge (s : State) (f : Access → Access) : (s.modAccess f).hedge = s.hedge := rfl
@[simp] theorem State.modAccess_safety (s : State) (f : Access → Access) : (s.modAccess f).safety = s.safety := rfl
@[simp] theorem State.modAccess_twin (s : State) (f : Access → Access) : (s.modAccess f).twin = s.twin := rfl
@[simp] theorem State.modAccess_faults (s : State) (f : Access → Access) : (s.modAccess f).faults = s.faults := rfl
@[simp] theorem State.modAccess_aon (s : State) (f : Access → Access) : (s.modAccess f).aon = s.aon := rfl
@[simp] theorem State.modAccess_net (s : State) (f : Access → Access) : (s.modAccess f).net = s.net := rfl
@[simp] theorem State.modAccess_mgmt (s : State) (f : Access → Access) : (s.modAccess f).mgmt = s.mgmt := rfl
@[simp] theorem State.modAccess_adc (s : State) (f : Access → Access) : (s.modAccess f).adc = s.adc := rfl
@[simp] theorem State.modAccess_tsens (s : State) (f : Access → Access) : (s.modAccess f).tsens = s.tsens := rfl
@[simp] theorem State.modAccess_power (s : State) (f : Access → Access) : (s.modAccess f).power = s.power := rfl
@[simp] theorem State.modAccess_clocks (s : State) (f : Access → Access) : (s.modAccess f).clocks = s.clocks := rfl
@[simp] theorem State.modAccess_cairn (s : State) (f : Access → Access) : (s.modAccess f).cairn = s.cairn := rfl

/-! ### State.modTb -/

@[simp] theorem State.modTb_pending (s : State) (f : TimeBase → TimeBase) : (s.modTb f).pending = s.pending := rfl
@[simp] theorem State.modTb_clock (s : State) (f : TimeBase → TimeBase) : (s.modTb f).clock = s.clock := rfl
@[simp] theorem State.modTb_freeCount (s : State) (f : TimeBase → TimeBase) : (s.modTb f).freeCount = s.freeCount := rfl
@[simp] theorem State.modTb_mem (s : State) (f : TimeBase → TimeBase) : (s.modTb f).mem = s.mem := rfl
@[simp] theorem State.modTb_layers (s : State) (f : TimeBase → TimeBase) : (s.modTb f).layers = s.layers := rfl
@[simp] theorem State.modTb_group (s : State) (f : TimeBase → TimeBase) : (s.modTb f).group = s.group := rfl
@[simp] theorem State.modTb_essential (s : State) (f : TimeBase → TimeBase) : (s.modTb f).essential = s.essential := rfl
@[simp] theorem State.modTb_stamp (s : State) (f : TimeBase → TimeBase) : (s.modTb f).stamp = s.stamp := rfl
@[simp] theorem State.modTb_warp (s : State) (f : TimeBase → TimeBase) : (s.modTb f).warp = s.warp := rfl
@[simp] theorem State.modTb_banks (s : State) (f : TimeBase → TimeBase) : (s.modTb f).banks = s.banks := rfl
@[simp] theorem State.modTb_pack (s : State) (f : TimeBase → TimeBase) : (s.modTb f).pack = s.pack := rfl
@[simp] theorem State.modTb_sched (s : State) (f : TimeBase → TimeBase) : (s.modTb f).sched = s.sched := rfl
@[simp] theorem State.modTb_frame (s : State) (f : TimeBase → TimeBase) : (s.modTb f).frame = s.frame := rfl
@[simp] theorem State.modTb_svh (s : State) (f : TimeBase → TimeBase) : (s.modTb f).svh = s.svh := rfl
@[simp] theorem State.modTb_links (s : State) (f : TimeBase → TimeBase) : (s.modTb f).links = s.links := rfl
@[simp] theorem State.modTb_diag (s : State) (f : TimeBase → TimeBase) : (s.modTb f).diag = s.diag := rfl
@[simp] theorem State.modTb_current (s : State) (f : TimeBase → TimeBase) : (s.modTb f).current = s.current := rfl
@[simp] theorem State.modTb_diagCfg (s : State) (f : TimeBase → TimeBase) : (s.modTb f).diagCfg = s.diagCfg := rfl
@[simp] theorem State.modTb_guard (s : State) (f : TimeBase → TimeBase) : (s.modTb f).guard = s.guard := rfl
@[simp] theorem State.modTb_stile (s : State) (f : TimeBase → TimeBase) : (s.modTb f).stile = s.stile := rfl
@[simp] theorem State.modTb_hedge (s : State) (f : TimeBase → TimeBase) : (s.modTb f).hedge = s.hedge := rfl
@[simp] theorem State.modTb_safety (s : State) (f : TimeBase → TimeBase) : (s.modTb f).safety = s.safety := rfl
@[simp] theorem State.modTb_twin (s : State) (f : TimeBase → TimeBase) : (s.modTb f).twin = s.twin := rfl
@[simp] theorem State.modTb_access (s : State) (f : TimeBase → TimeBase) : (s.modTb f).access = s.access := rfl
@[simp] theorem State.modTb_faults (s : State) (f : TimeBase → TimeBase) : (s.modTb f).faults = s.faults := rfl
@[simp] theorem State.modTb_aon (s : State) (f : TimeBase → TimeBase) : (s.modTb f).aon = s.aon := rfl
@[simp] theorem State.modTb_net (s : State) (f : TimeBase → TimeBase) : (s.modTb f).net = s.net := rfl
@[simp] theorem State.modTb_mgmt (s : State) (f : TimeBase → TimeBase) : (s.modTb f).mgmt = s.mgmt := rfl
@[simp] theorem State.modTb_adc (s : State) (f : TimeBase → TimeBase) : (s.modTb f).adc = s.adc := rfl
@[simp] theorem State.modTb_tsens (s : State) (f : TimeBase → TimeBase) : (s.modTb f).tsens = s.tsens := rfl
@[simp] theorem State.modTb_power (s : State) (f : TimeBase → TimeBase) : (s.modTb f).power = s.power := rfl
@[simp] theorem State.modTb_clocks (s : State) (f : TimeBase → TimeBase) : (s.modTb f).clocks = s.clocks := rfl
@[simp] theorem State.modTb_cairn (s : State) (f : TimeBase → TimeBase) : (s.modTb f).cairn = s.cairn := rfl

/-! ### State.modCairn -/

@[simp] theorem State.modCairn_pending (s : State) (f : Cairn → Cairn) : (s.modCairn f).pending = s.pending := rfl
@[simp] theorem State.modCairn_clock (s : State) (f : Cairn → Cairn) : (s.modCairn f).clock = s.clock := rfl
@[simp] theorem State.modCairn_freeCount (s : State) (f : Cairn → Cairn) : (s.modCairn f).freeCount = s.freeCount := rfl
@[simp] theorem State.modCairn_mem (s : State) (f : Cairn → Cairn) : (s.modCairn f).mem = s.mem := rfl
@[simp] theorem State.modCairn_layers (s : State) (f : Cairn → Cairn) : (s.modCairn f).layers = s.layers := rfl
@[simp] theorem State.modCairn_group (s : State) (f : Cairn → Cairn) : (s.modCairn f).group = s.group := rfl
@[simp] theorem State.modCairn_essential (s : State) (f : Cairn → Cairn) : (s.modCairn f).essential = s.essential := rfl
@[simp] theorem State.modCairn_stamp (s : State) (f : Cairn → Cairn) : (s.modCairn f).stamp = s.stamp := rfl
@[simp] theorem State.modCairn_warp (s : State) (f : Cairn → Cairn) : (s.modCairn f).warp = s.warp := rfl
@[simp] theorem State.modCairn_banks (s : State) (f : Cairn → Cairn) : (s.modCairn f).banks = s.banks := rfl
@[simp] theorem State.modCairn_pack (s : State) (f : Cairn → Cairn) : (s.modCairn f).pack = s.pack := rfl
@[simp] theorem State.modCairn_sched (s : State) (f : Cairn → Cairn) : (s.modCairn f).sched = s.sched := rfl
@[simp] theorem State.modCairn_frame (s : State) (f : Cairn → Cairn) : (s.modCairn f).frame = s.frame := rfl
@[simp] theorem State.modCairn_tb (s : State) (f : Cairn → Cairn) : (s.modCairn f).tb = s.tb := rfl
@[simp] theorem State.modCairn_svh (s : State) (f : Cairn → Cairn) : (s.modCairn f).svh = s.svh := rfl
@[simp] theorem State.modCairn_links (s : State) (f : Cairn → Cairn) : (s.modCairn f).links = s.links := rfl
@[simp] theorem State.modCairn_diag (s : State) (f : Cairn → Cairn) : (s.modCairn f).diag = s.diag := rfl
@[simp] theorem State.modCairn_current (s : State) (f : Cairn → Cairn) : (s.modCairn f).current = s.current := rfl
@[simp] theorem State.modCairn_diagCfg (s : State) (f : Cairn → Cairn) : (s.modCairn f).diagCfg = s.diagCfg := rfl
@[simp] theorem State.modCairn_guard (s : State) (f : Cairn → Cairn) : (s.modCairn f).guard = s.guard := rfl
@[simp] theorem State.modCairn_stile (s : State) (f : Cairn → Cairn) : (s.modCairn f).stile = s.stile := rfl
@[simp] theorem State.modCairn_hedge (s : State) (f : Cairn → Cairn) : (s.modCairn f).hedge = s.hedge := rfl
@[simp] theorem State.modCairn_safety (s : State) (f : Cairn → Cairn) : (s.modCairn f).safety = s.safety := rfl
@[simp] theorem State.modCairn_twin (s : State) (f : Cairn → Cairn) : (s.modCairn f).twin = s.twin := rfl
@[simp] theorem State.modCairn_access (s : State) (f : Cairn → Cairn) : (s.modCairn f).access = s.access := rfl
@[simp] theorem State.modCairn_faults (s : State) (f : Cairn → Cairn) : (s.modCairn f).faults = s.faults := rfl
@[simp] theorem State.modCairn_aon (s : State) (f : Cairn → Cairn) : (s.modCairn f).aon = s.aon := rfl
@[simp] theorem State.modCairn_net (s : State) (f : Cairn → Cairn) : (s.modCairn f).net = s.net := rfl
@[simp] theorem State.modCairn_mgmt (s : State) (f : Cairn → Cairn) : (s.modCairn f).mgmt = s.mgmt := rfl
@[simp] theorem State.modCairn_adc (s : State) (f : Cairn → Cairn) : (s.modCairn f).adc = s.adc := rfl
@[simp] theorem State.modCairn_tsens (s : State) (f : Cairn → Cairn) : (s.modCairn f).tsens = s.tsens := rfl
@[simp] theorem State.modCairn_power (s : State) (f : Cairn → Cairn) : (s.modCairn f).power = s.power := rfl
@[simp] theorem State.modCairn_clocks (s : State) (f : Cairn → Cairn) : (s.modCairn f).clocks = s.clocks := rfl

@[simp] theorem State.modLayer_layer (s : State) (n : Fin 8) (f : Layer → Layer) : (s.modLayer n f).layer n = f (s.layer n) :=
  vmod_same _ n f
theorem State.modLayer_layer_other (s : State) (n m : Fin 8) (f : Layer → Layer) (h : n ≠ m) : (s.modLayer n f).layer m = s.layer m :=
  vmod_other _ n m f h
@[simp] theorem State.modBank_bank (s : State) (n : Fin 8) (f : BankPair → BankPair) : (s.modBank n f).bank n = f (s.bank n) :=
  vmod_same _ n f
theorem State.modBank_bank_other (s : State) (n m : Fin 8) (f : BankPair → BankPair) (h : n ≠ m) : (s.modBank n f).bank m = s.bank m :=
  vmod_other _ n m f h
@[simp] theorem State.modLink_link (s : State) (n : Fin 2) (f : Link → Link) : (s.modLink n f).link n = f (s.link n) :=
  vmod_same _ n f
theorem State.modLink_link_other (s : State) (n m : Fin 2) (f : Link → Link) (h : n ≠ m) : (s.modLink n f).link m = s.link m :=
  vmod_other _ n m f h
@[simp] theorem State.modDiag_tileDiag (s : State) (n : Fin 2) (f : Diag → Diag) : (s.modDiag n f).tileDiag n = f (s.tileDiag n) :=
  vmod_same _ n f
theorem State.modDiag_tileDiag_other (s : State) (n m : Fin 2) (f : Diag → Diag) (h : n ≠ m) : (s.modDiag n f).tileDiag m = s.tileDiag m :=
  vmod_other _ n m f h
@[simp] theorem State.modCur_cur (s : State) (n : Fin 2) (f : Current → Current) : (s.modCur n f).cur n = f (s.cur n) :=
  vmod_same _ n f
theorem State.modCur_cur_other (s : State) (n m : Fin 2) (f : Current → Current) (h : n ≠ m) : (s.modCur n f).cur m = s.cur m :=
  vmod_other _ n m f h
@[simp] theorem State.modChannel_channel (s : State) (n : Fin 8) (f : Channel → Channel) : (s.modChannel n f).channel n = f (s.channel n) :=
  vmod_same _ n f
theorem State.modChannel_channel_other (s : State) (n m : Fin 8) (f : Channel → Channel) (h : n ≠ m) : (s.modChannel n f).channel m = s.channel m :=
  vmod_other _ n m f h
@[simp] theorem State.modChk_chk (s : State) (n : Fin 8) (f : Chk → Chk) : (s.modChk n f).chk n = f (s.chk n) :=
  vmod_same _ n f
theorem State.modChk_chk_other (s : State) (n m : Fin 8) (f : Chk → Chk) (h : n ≠ m) : (s.modChk n f).chk m = s.chk m :=
  vmod_other _ n m f h
@[simp] theorem State.at_frame_running (s : State) (due : Nat) : (s.at_ due).frame.running = s.frame.running := rfl
@[simp] theorem State.at_frame_closed (s : State) (due : Nat) : (s.at_ due).frame.closed = s.frame.closed := rfl
@[simp] theorem State.at_frame_number (s : State) (due : Nat) : (s.at_ due).frame.number = s.frame.number := rfl
@[simp] theorem State.at_frame_frameDiv (s : State) (due : Nat) : (s.at_ due).frame.frameDiv = s.frame.frameDiv := rfl
@[simp] theorem State.at_frame_divUsed (s : State) (due : Nat) : (s.at_ due).frame.divUsed = s.frame.divUsed := rfl
@[simp] theorem State.at_frame_divSeen (s : State) (due : Nat) : (s.at_ due).frame.divSeen = s.frame.divSeen := rfl
@[simp] theorem State.at_frame_divWrites (s : State) (due : Nat) : (s.at_ due).frame.divWrites = s.frame.divWrites := rfl
@[simp] theorem State.at_frame_gridTime (s : State) (due : Nat) : (s.at_ due).frame.gridTime = s.frame.gridTime := rfl
@[simp] theorem State.at_frame_closeAt (s : State) (due : Nat) : (s.at_ due).frame.closeAt = s.frame.closeAt := rfl
@[simp] theorem State.at_frame_slot (s : State) (due : Nat) : (s.at_ due).frame.slot = s.frame.slot := rfl
@[simp] theorem State.at_frame_ticketTime (s : State) (due : Nat) : (s.at_ due).frame.ticketTime = s.frame.ticketTime := rfl
@[simp] theorem State.at_frame_firstLight (s : State) (due : Nat) : (s.at_ due).frame.firstLight = s.frame.firstLight := rfl
@[simp] theorem State.at_frame_alignMode (s : State) (due : Nat) : (s.at_ due).frame.alignMode = s.frame.alignMode := rfl
@[simp] theorem State.at_frame_alignUsed (s : State) (due : Nat) : (s.at_ due).frame.alignUsed = s.frame.alignUsed := rfl
@[simp] theorem State.at_frame_epoch (s : State) (due : Nat) : (s.at_ due).frame.epoch = s.frame.epoch := rfl
@[simp] theorem State.at_frame_epochUsed (s : State) (due : Nat) : (s.at_ due).frame.epochUsed = s.frame.epochUsed := rfl
@[simp] theorem State.at_frame_fsyncOut (s : State) (due : Nat) : (s.at_ due).frame.fsyncOut = s.frame.fsyncOut := rfl
@[simp] theorem State.at_frame_fsyncDelay (s : State) (due : Nat) : (s.at_ due).frame.fsyncDelay = s.frame.fsyncDelay := rfl
@[simp] theorem State.at_frame_phaseSlew (s : State) (due : Nat) : (s.at_ due).frame.phaseSlew = s.frame.phaseSlew := rfl
@[simp] theorem State.at_frame_alignTol (s : State) (due : Nat) : (s.at_ due).frame.alignTol = s.frame.alignTol := rfl
@[simp] theorem State.at_frame_phaseError (s : State) (due : Nat) : (s.at_ due).frame.phaseError = s.frame.phaseError := rfl
@[simp] theorem State.at_frame_aligned (s : State) (due : Nat) : (s.at_ due).frame.aligned = s.frame.aligned := rfl
@[simp] theorem State.at_frame_tbLockedSeen (s : State) (due : Nat) : (s.at_ due).frame.tbLockedSeen = s.frame.tbLockedSeen := rfl
@[simp] theorem State.at_frame_slewing (s : State) (due : Nat) : (s.at_ due).frame.slewing = s.frame.slewing := rfl
@[simp] theorem State.at_frame_relockCount (s : State) (due : Nat) : (s.at_ due).frame.relockCount = s.frame.relockCount := rfl
@[simp] theorem State.at_frame_fsyncRejected (s : State) (due : Nat) : (s.at_ due).frame.fsyncRejected = s.frame.fsyncRejected := rfl
@[simp] theorem State.at_frame_fsyncAt (s : State) (due : Nat) : (s.at_ due).frame.fsyncAt = s.frame.fsyncAt := rfl
@[simp] theorem State.at_frame_fsyncSeen (s : State) (due : Nat) : (s.at_ due).frame.fsyncSeen = s.frame.fsyncSeen := rfl
@[simp] theorem State.at_frame_fsyncShown (s : State) (due : Nat) : (s.at_ due).frame.fsyncShown = s.frame.fsyncShown := rfl
@[simp] theorem State.at_frame_unlockedCycles (s : State) (due : Nat) : (s.at_ due).frame.unlockedCycles = s.frame.unlockedCycles := rfl
@[simp] theorem State.at_frame_unlockedAt (s : State) (due : Nat) : (s.at_ due).frame.unlockedAt = s.frame.unlockedAt := rfl
@[simp] theorem State.at_frame_fsyncPulse (s : State) (due : Nat) : (s.at_ due).frame.fsyncPulse = s.frame.fsyncPulse := rfl
@[simp] theorem State.at_frame_underrunLimit (s : State) (due : Nat) : (s.at_ due).frame.underrunLimit = s.frame.underrunLimit := rfl
@[simp] theorem State.at_frame_ditherMode (s : State) (due : Nat) : (s.at_ due).frame.ditherMode = s.frame.ditherMode := rfl
@[simp] theorem State.at_frame_ditherUsed (s : State) (due : Nat) : (s.at_ due).frame.ditherUsed = s.frame.ditherUsed := rfl
@[simp] theorem State.at_frame_boxFrameUsed (s : State) (due : Nat) : (s.at_ due).frame.boxFrameUsed = s.frame.boxFrameUsed := rfl
@[simp] theorem State.at_frame_aimAzUsed (s : State) (due : Nat) : (s.at_ due).frame.aimAzUsed = s.frame.aimAzUsed := rfl
@[simp] theorem State.at_frame_aimElUsed (s : State) (due : Nat) : (s.at_ due).frame.aimElUsed = s.frame.aimElUsed := rfl
@[simp] theorem State.at_frame_selection (s : State) (due : Nat) : (s.at_ due).frame.selection = s.frame.selection := rfl
@[simp] theorem State.at_frame_rendering (s : State) (due : Nat) : (s.at_ due).frame.rendering = s.frame.rendering := rfl
@[simp] theorem State.at_frame_lateReported (s : State) (due : Nat) : (s.at_ due).frame.lateReported = s.frame.lateReported := rfl
@[simp] theorem State.at_frame_fresh (s : State) (due : Nat) : (s.at_ due).frame.fresh = s.frame.fresh := rfl
@[simp] theorem State.at_frame_jumped (s : State) (due : Nat) : (s.at_ due).frame.jumped = s.frame.jumped := rfl
@[simp] theorem State.at_frame_nextNumber (s : State) (due : Nat) : (s.at_ due).frame.nextNumber = s.frame.nextNumber := rfl
@[simp] theorem State.at_frame_prevNumber (s : State) (due : Nat) : (s.at_ due).frame.prevNumber = s.frame.prevNumber := rfl
@[simp] theorem State.at_frame_closesTaken (s : State) (due : Nat) : (s.at_ due).frame.closesTaken = s.frame.closesTaken := rfl
/-- The clock after `at_`: the date, never before the present. -/
@[simp] theorem State.at_clock (s : State) (due : Nat) : (s.at_ due).clock = max s.clock due := rfl


/-! ### State.modPort -/

@[simp] theorem State.modPort_pending (s : State) (c : Carrier) (f : Port → Port) : (s.modPort c f).pending = s.pending := by cases c <;> rfl
@[simp] theorem State.modPort_clock (s : State) (c : Carrier) (f : Port → Port) : (s.modPort c f).clock = s.clock := by cases c <;> rfl
@[simp] theorem State.modPort_freeCount (s : State) (c : Carrier) (f : Port → Port) : (s.modPort c f).freeCount = s.freeCount := by cases c <;> rfl
@[simp] theorem State.modPort_mem (s : State) (c : Carrier) (f : Port → Port) : (s.modPort c f).mem = s.mem := by cases c <;> rfl
@[simp] theorem State.modPort_layers (s : State) (c : Carrier) (f : Port → Port) : (s.modPort c f).layers = s.layers := by cases c <;> rfl
@[simp] theorem State.modPort_group (s : State) (c : Carrier) (f : Port → Port) : (s.modPort c f).group = s.group := by cases c <;> rfl
@[simp] theorem State.modPort_essential (s : State) (c : Carrier) (f : Port → Port) : (s.modPort c f).essential = s.essential := by cases c <;> rfl
@[simp] theorem State.modPort_stamp (s : State) (c : Carrier) (f : Port → Port) : (s.modPort c f).stamp = s.stamp := by cases c <;> rfl
@[simp] theorem State.modPort_warp (s : State) (c : Carrier) (f : Port → Port) : (s.modPort c f).warp = s.warp := by cases c <;> rfl
@[simp] theorem State.modPort_banks (s : State) (c : Carrier) (f : Port → Port) : (s.modPort c f).banks = s.banks := by cases c <;> rfl
@[simp] theorem State.modPort_pack (s : State) (c : Carrier) (f : Port → Port) : (s.modPort c f).pack = s.pack := by cases c <;> rfl
@[simp] theorem State.modPort_sched (s : State) (c : Carrier) (f : Port → Port) : (s.modPort c f).sched = s.sched := by cases c <;> rfl
@[simp] theorem State.modPort_frame (s : State) (c : Carrier) (f : Port → Port) : (s.modPort c f).frame = s.frame := by cases c <;> rfl
@[simp] theorem State.modPort_tb (s : State) (c : Carrier) (f : Port → Port) : (s.modPort c f).tb = s.tb := by cases c <;> rfl
@[simp] theorem State.modPort_svh (s : State) (c : Carrier) (f : Port → Port) : (s.modPort c f).svh = s.svh := by cases c <;> rfl
@[simp] theorem State.modPort_links (s : State) (c : Carrier) (f : Port → Port) : (s.modPort c f).links = s.links := by cases c <;> rfl
@[simp] theorem State.modPort_diag (s : State) (c : Carrier) (f : Port → Port) : (s.modPort c f).diag = s.diag := by cases c <;> rfl
@[simp] theorem State.modPort_current (s : State) (c : Carrier) (f : Port → Port) : (s.modPort c f).current = s.current := by cases c <;> rfl
@[simp] theorem State.modPort_diagCfg (s : State) (c : Carrier) (f : Port → Port) : (s.modPort c f).diagCfg = s.diagCfg := by cases c <;> rfl
@[simp] theorem State.modPort_guard (s : State) (c : Carrier) (f : Port → Port) : (s.modPort c f).guard = s.guard := by cases c <;> rfl
@[simp] theorem State.modPort_stile (s : State) (c : Carrier) (f : Port → Port) : (s.modPort c f).stile = s.stile := by cases c <;> rfl
@[simp] theorem State.modPort_hedge (s : State) (c : Carrier) (f : Port → Port) : (s.modPort c f).hedge = s.hedge := by cases c <;> rfl
@[simp] theorem State.modPort_safety (s : State) (c : Carrier) (f : Port → Port) : (s.modPort c f).safety = s.safety := by cases c <;> rfl
@[simp] theorem State.modPort_twin (s : State) (c : Carrier) (f : Port → Port) : (s.modPort c f).twin = s.twin := by cases c <;> rfl
@[simp] theorem State.modPort_access (s : State) (c : Carrier) (f : Port → Port) : (s.modPort c f).access = s.access := by cases c <;> rfl
@[simp] theorem State.modPort_faults (s : State) (c : Carrier) (f : Port → Port) : (s.modPort c f).faults = s.faults := by cases c <;> rfl
@[simp] theorem State.modPort_aon (s : State) (c : Carrier) (f : Port → Port) : (s.modPort c f).aon = s.aon := by cases c <;> rfl
@[simp] theorem State.modPort_mgmt (s : State) (c : Carrier) (f : Port → Port) : (s.modPort c f).mgmt = s.mgmt := by cases c <;> rfl
@[simp] theorem State.modPort_adc (s : State) (c : Carrier) (f : Port → Port) : (s.modPort c f).adc = s.adc := by cases c <;> rfl
@[simp] theorem State.modPort_tsens (s : State) (c : Carrier) (f : Port → Port) : (s.modPort c f).tsens = s.tsens := by cases c <;> rfl
@[simp] theorem State.modPort_power (s : State) (c : Carrier) (f : Port → Port) : (s.modPort c f).power = s.power := by cases c <;> rfl
@[simp] theorem State.modPort_clocks (s : State) (c : Carrier) (f : Port → Port) : (s.modPort c f).clocks = s.clocks := by cases c <;> rfl
@[simp] theorem State.modPort_cairn (s : State) (c : Carrier) (f : Port → Port) : (s.modPort c f).cairn = s.cairn := by cases c <;> rfl
@[simp] theorem State.modPort_net_served (s : State) (c : Carrier) (f : Port → Port) : (s.modPort c f).net.served = s.net.served := by cases c <;> rfl
@[simp] theorem State.modPort_net_romOnly (s : State) (c : Carrier) (f : Port → Port) : (s.modPort c f).net.romOnly = s.net.romOnly := by cases c <;> rfl
@[simp] theorem State.modPort_net_nodeId (s : State) (c : Carrier) (f : Port → Port) : (s.modPort c f).net.nodeId = s.net.nodeId := by cases c <;> rfl
@[simp] theorem State.modPort_net_nodeActive (s : State) (c : Carrier) (f : Port → Port) : (s.modPort c f).net.nodeActive = s.net.nodeActive := by cases c <;> rfl
@[simp] theorem State.modPort_net_canNomRate (s : State) (c : Carrier) (f : Port → Port) : (s.modPort c f).net.canNomRate = s.net.canNomRate := by cases c <;> rfl
@[simp] theorem State.modPort_net_canDataRate (s : State) (c : Carrier) (f : Port → Port) : (s.modPort c f).net.canDataRate = s.net.canDataRate := by cases c <;> rfl
@[simp] theorem State.modPort_net_canStatus (s : State) (c : Carrier) (f : Port → Port) : (s.modPort c f).net.canStatus = s.net.canStatus := by cases c <;> rfl
@[simp] theorem State.modPort_net_busOffCount (s : State) (c : Carrier) (f : Port → Port) : (s.modPort c f).net.busOffCount = s.net.busOffCount := by cases c <;> rfl
@[simp] theorem State.modPort_net_plcaEnable (s : State) (c : Carrier) (f : Port → Port) : (s.modPort c f).net.plcaEnable = s.net.plcaEnable := by cases c <;> rfl
@[simp] theorem State.modPort_net_plcaId (s : State) (c : Carrier) (f : Port → Port) : (s.modPort c f).net.plcaId = s.net.plcaId := by cases c <;> rfl
@[simp] theorem State.modPort_net_plcaCount (s : State) (c : Carrier) (f : Port → Port) : (s.modPort c f).net.plcaCount = s.net.plcaCount := by cases c <;> rfl
@[simp] theorem State.modPort_net_t1sStatus (s : State) (c : Carrier) (f : Port → Port) : (s.modPort c f).net.t1sStatus = s.net.t1sStatus := by cases c <;> rfl
@[simp] theorem State.modPort_net_fcsErr (s : State) (c : Carrier) (f : Port → Port) : (s.modPort c f).net.fcsErr = s.net.fcsErr := by cases c <;> rfl
@[simp] theorem State.modPort_net_collisions (s : State) (c : Carrier) (f : Port → Port) : (s.modPort c f).net.collisions = s.net.collisions := by cases c <;> rfl
@[simp] theorem State.modPort_net_segTimeout (s : State) (c : Carrier) (f : Port → Port) : (s.modPort c f).net.segTimeout = s.net.segTimeout := by cases c <;> rfl
@[simp] theorem State.modPort_port (s : State) (c : Carrier) (f : Port → Port) : (s.modPort c f).port c = f (s.port c) := by
  cases c <;> rfl
theorem State.modPort_port_other (s : State) (c d : Carrier) (f : Port → Port) (h : c ≠ d) :
    (s.modPort c f).port d = s.port d := by
  cases c <;> cases d <;> first | rfl | exact absurd rfl h
@[simp] theorem State.modPort_modPort (s : State) (c : Carrier) (f g : Port → Port) :
    (s.modPort c f).modPort c g = s.modPort c fun p => g (f p) := by
  cases c <;> rfl

end Sys2Proof.Machine
end

