-- ==== Sys2Proof/Laws/Ports.lean ====
section
/-!
SUPPORT. Laws/Ports.lean: what the ports can do, once: the state apart from the ports passes through every port operation; a
request that its port executes at once is executed on the noted state; a host command is the execution of its one write; and
the last response that an answer leaves.
-/
namespace Sys2Proof.Machine

/-! ### the quiet state -/

/-- An update of a port that leaves its quiet part alone. -/
theorem State.quiet_modPort (s : State) (c : Carrier) (f : Port → Port) (h : ∀ p, (f p).quiet = p.quiet) :
    (s.modPort c f).quiet = s.quiet := by
  cases c <;> simp [State.quiet, State.modPort, h]

@[simp] theorem countRx_port_service (c d : Carrier) (s : State) : ((countRx c s).port d).service = (s.port d).service := by
  unfold countRx; split <;> cases c <;> cases d <;> rfl

@[simp] theorem noteTid_port_service (q : Request) (d : Carrier) (s : State) :
    ((noteTid q s).port d).service = (s.port d).service := by
  unfold noteTid; split
  · rfl
  · cases q.r.carrier <;> cases d <;> rfl

@[simp] theorem noteTid_port_answered (q : Request) (d : Carrier) (s : State) :
    ((noteTid q s).port d).answered = (s.port d).answered := by
  unfold noteTid; split
  · rfl
  · cases q.r.carrier <;> cases d <;> rfl

@[simp] theorem noteTid_clock (q : Request) (s : State) : (noteTid q s).clock = s.clock := by unfold noteTid; split <;> simp

@[simp] theorem noteTid_power (q : Request) (s : State) : (noteTid q s).safety.power = s.safety.power := by
  unfold noteTid; split <;> simp

@[simp] theorem countRx_port_answered (c d : Carrier) (s : State) : ((countRx c s).port d).answered = (s.port d).answered := by
  unfold countRx; split <;> cases c <;> cases d <;> rfl

@[simp] theorem countRx_port_transfer (c d : Carrier) (s : State) : ((countRx c s).port d).transfer = (s.port d).transfer := by
  unfold countRx; split <;> cases c <;> cases d <;> rfl

/-- Counting a frame leaves the quiet state alone. -/
theorem countRx_quiet (c : Carrier) (s : State) : (countRx c s).quiet = s.quiet := by
  unfold countRx; split
  · rfl
  · exact s.quiet_modPort _ _ fun _ => rfl

theorem noteRequest_quiet (q : Request) (s : State) : (noteRequest q s).quiet = s.quiet :=
  s.quiet_modPort _ _ fun _ => rfl

/-- The TID of an open transfer is no part of the quiet state. -/
theorem noteTid_quiet (q : Request) (s : State) : (noteTid q s).quiet = s.quiet := by
  unfold noteTid
  split
  · rfl
  · refine s.quiet_modPort _ _ fun p => ?_
    cases h : p.transfer with
    | none => simp [Port.quiet, h]
    | some t => by_cases ho : t.owner = q.r.src <;> simp [Port.quiet, h, ho]

/-- Noting a request leaves the quiet state alone. -/
theorem noted_quiet (q : Request) (s : State) : (s.noted q).quiet = s.quiet := by
  rw [State.noted, noteRequest_quiet, noteTid_quiet, countRx_quiet]

theorem sendResponse_quiet (c : Carrier) (x : Response) (s : State) : (sendResponse c x s).quiet = s.quiet := by
  unfold sendResponse
  split
  · exact s.quiet_modPort _ _ fun _ => rfl
  · exact s.quiet_modPort _ _ fun _ => rfl

theorem answer_quiet (q : Request) (cmd : Byte) (data : List Byte) (s : State) : (answer q cmd data s).quiet = s.quiet := by
  unfold answer
  split
  · rfl
  · rw [sendResponse_quiet]; exact s.quiet_modPort _ _ fun _ => rfl

theorem answerDone_quiet (q : Request) (s : State) : (answerDone q s).quiet = s.quiet := answer_quiet _ _ _ _

theorem answerAbort_quiet (q : Request) (a : Abort) (s : State) : (answerAbort q a s).quiet = s.quiet :=
  answer_quiet _ _ _ _

theorem eventNet_quiet (c : Carrier) (code : Byte) (body : List Byte) (s : State) :
    (eventNet c code body s).quiet = s.quiet := by
  unfold eventNet
  split
  · rfl
  · exact s.quiet_modPort _ _ fun _ => rfl

theorem eventSvh_quiet (code : Byte) (body : List Byte) (s : State) : (eventSvh code body s).quiet = s.quiet := by
  unfold eventSvh
  split <;> rfl

/-- Sending an event changes the event queues alone. -/
theorem event_quiet (code : Byte) (body : List Byte) (s : State) : (event code body s).quiet = s.quiet := by
  rw [event, eventNet_quiet, eventNet_quiet, eventSvh_quiet]

/-! ### the last response -/

theorem sendResponse_last (c : Carrier) (x : Response) (s : State) : ((sendResponse c x s).port c).last = some x := by
  unfold sendResponse
  cases c <;> rfl

theorem answer_last (q : Request) (cmd : Byte) (data : List Byte) (s : State) (h : q.silent = false) :
    ((answer q cmd data s).port q.r.carrier).last = some (responseTo q cmd data) := by
  simp only [answer, h, Bool.false_eq_true, if_false]
  exact sendResponse_last _ _ _

theorem answerDone_wroteDone (q : Request) (s : State) (h : q.silent = false) (hc : q.cmd = 2) :
    (answerDone q s).wroteDone q := by
  have := answer_last q (if q.cmd = 6 then 0x86 else 0x82) [] s h
  simpa [State.wroteDone, answerDone, hc] using this

theorem answerAbort_aborted (q : Request) (a : Abort) (s : State) (h : q.silent = false) :
    (answerAbort q a s).aborted q a := answer_last q 0xFF _ s h

/-! ### a request executed at once -/

/-- The state after a command whose pack state is that before it is left as it is. -/
theorem settle_same (before after : State) (h : after.pack.state = before.pack.state) : settle before after = after := by
  simp only [settle, settleBoot, h]
  by_cases hp : before.pack.state = .activating <;> simp [hp]

/-- Neither the repeats of R290 nor those of R293 look at the TID of the transfer. -/
@[simp] theorem noteTid_repeats (q : Request) (s : State) : (noteTid q s).repeats q = s.repeats q := by
  unfold noteTid
  split
  · rfl
  · cases h : (s.port q.r.carrier).transfer with
    | none => simp [State.repeats, h]
    | some t => by_cases ho : t.owner = q.r.src <;> simp [State.repeats, h, ho]

/-- A request that its port executes at once is executed on the noted state. -/
theorem receive_executesNow (q : Request) (s : State) (h : s.executesNow q = true) :
    receive q s = runRequest q (s.noted q) := by
  simp only [State.executesNow, Bool.and_eq_true, Bool.not_eq_true', bne_iff_ne, beq_iff_eq, ne_eq] at h
  obtain ⟨⟨⟨⟨⟨⟨⟨⟨hd, hm⟩, hp⟩, h0⟩, hn⟩, hf⟩, hs⟩, hr⟩, hb⟩ := h
  have hs' : (s.port q.r.carrier).service = none := by simpa using hs
  have hpw : (countRx q.r.carrier s).safety.power = s.safety.power := by unfold countRx; split <;> simp
  have hck : (countRx q.r.carrier s).clock = s.clock := by unfold countRx; split <;> simp
  have hrep : (countRx q.r.carrier s).repeats q = s.repeats q := by simp [State.repeats, hck]
  have hsil : q.silent = false := beq_eq_false_iff_ne.2 h0
  have hl : (s.port q.r.carrier).longService = none := by simp [Port.longService, hs']
  have ha : s.addressed q.r.dest = true := by simp [State.addressed, hn]
  have hl2 : ((countRx q.r.carrier s).port q.r.carrier).longService = none := by simp [Port.longService, hs']
  simp [receive, hd, hm, ha, hf, takeFrame, hl2, acceptRequest, hsil, hrep, hr, hs', hpw, hp, State.noted]

theorem executesNow_silent (q : Request) (s : State) (h : s.executesNow q = true) : q.silent = false := by
  simp only [State.executesNow, Bool.and_eq_true, bne_iff_ne] at h
  exact beq_eq_false_iff_ne.2 h.1.1.1.1.1.2

/-- A write that its port executes at once. -/
theorem takeRequest_write (q : Request) (s : State) (h : s.executesNow q = true) (hc : q.cmd = 2) :
    takeRequest q s = settle s (finishWrite q (executeWrite q (s.noted q))) := by
  have hb : q.protocolBad = false := by
    simp only [State.executesNow, Bool.and_eq_true, Bool.not_eq_true'] at h
    exact h.2
  rw [takeRequest, receive_executesNow q s h]
  simp [runRequest, hc, hb, runWrite]

@[simp] theorem noted_pending (q : Request) (s : State) : (s.noted q).pending = s.pending := by
  unfold State.noted noteRequest noteTid countRx; split <;> split <;> simp
@[simp] theorem noted_clock (q : Request) (s : State) : (s.noted q).clock = s.clock := by
  unfold State.noted noteRequest noteTid countRx; split <;> split <;> simp
@[simp] theorem noted_freeCount (q : Request) (s : State) : (s.noted q).freeCount = s.freeCount := by
  unfold State.noted noteRequest noteTid countRx; split <;> split <;> simp
@[simp] theorem noted_mem (q : Request) (s : State) : (s.noted q).mem = s.mem := by
  unfold State.noted noteRequest noteTid countRx; split <;> split <;> simp
@[simp] theorem noted_layers (q : Request) (s : State) : (s.noted q).layers = s.layers := by
  unfold State.noted noteRequest noteTid countRx; split <;> split <;> simp
@[simp] theorem noted_group (q : Request) (s : State) : (s.noted q).group = s.group := by
  unfold State.noted noteRequest noteTid countRx; split <;> split <;> simp
@[simp] theorem noted_essential (q : Request) (s : State) : (s.noted q).essential = s.essential := by
  unfold State.noted noteRequest noteTid countRx; split <;> split <;> simp
@[simp] theorem noted_stamp (q : Request) (s : State) : (s.noted q).stamp = s.stamp := by
  unfold State.noted noteRequest noteTid countRx; split <;> split <;> simp
@[simp] theorem noted_warp (q : Request) (s : State) : (s.noted q).warp = s.warp := by
  unfold State.noted noteRequest noteTid countRx; split <;> split <;> simp
@[simp] theorem noted_banks (q : Request) (s : State) : (s.noted q).banks = s.banks := by
  unfold State.noted noteRequest noteTid countRx; split <;> split <;> simp
@[simp] theorem noted_pack (q : Request) (s : State) : (s.noted q).pack = s.pack := by
  unfold State.noted noteRequest noteTid countRx; split <;> split <;> simp
@[simp] theorem noted_sched (q : Request) (s : State) : (s.noted q).sched = s.sched := by
  unfold State.noted noteRequest noteTid countRx; split <;> split <;> simp
@[simp] theorem noted_frame (q : Request) (s : State) : (s.noted q).frame = s.frame := by
  unfold State.noted noteRequest noteTid countRx; split <;> split <;> simp
@[simp] theorem noted_tb (q : Request) (s : State) : (s.noted q).tb = s.tb := by
  unfold State.noted noteRequest noteTid countRx; split <;> split <;> simp
@[simp] theorem noted_svh (q : Request) (s : State) : (s.noted q).svh = s.svh := by
  unfold State.noted noteRequest noteTid countRx; split <;> split <;> simp
@[simp] theorem noted_links (q : Request) (s : State) : (s.noted q).links = s.links := by
  unfold State.noted noteRequest noteTid countRx; split <;> split <;> simp
@[simp] theorem noted_diag (q : Request) (s : State) : (s.noted q).diag = s.diag := by
  unfold State.noted noteRequest noteTid countRx; split <;> split <;> simp
@[simp] theorem noted_current (q : Request) (s : State) : (s.noted q).current = s.current := by
  unfold State.noted noteRequest noteTid countRx; split <;> split <;> simp
@[simp] theorem noted_diagCfg (q : Request) (s : State) : (s.noted q).diagCfg = s.diagCfg := by
  unfold State.noted noteRequest noteTid countRx; split <;> split <;> simp
@[simp] theorem noted_guard (q : Request) (s : State) : (s.noted q).guard = s.guard := by
  unfold State.noted noteRequest noteTid countRx; split <;> split <;> simp
@[simp] theorem noted_stile (q : Request) (s : State) : (s.noted q).stile = s.stile := by
  unfold State.noted noteRequest noteTid countRx; split <;> split <;> simp
@[simp] theorem noted_hedge (q : Request) (s : State) : (s.noted q).hedge = s.hedge := by
  unfold State.noted noteRequest noteTid countRx; split <;> split <;> simp
@[simp] theorem noted_safety (q : Request) (s : State) : (s.noted q).safety = s.safety := by
  unfold State.noted noteRequest noteTid countRx; split <;> split <;> simp
@[simp] theorem noted_twin (q : Request) (s : State) : (s.noted q).twin = s.twin := by
  unfold State.noted noteRequest noteTid countRx; split <;> split <;> simp
@[simp] theorem noted_access (q : Request) (s : State) : (s.noted q).access = s.access := by
  unfold State.noted noteRequest noteTid countRx; split <;> split <;> simp
@[simp] theorem noted_faults (q : Request) (s : State) : (s.noted q).faults = s.faults := by
  unfold State.noted noteRequest noteTid countRx; split <;> split <;> simp
@[simp] theorem noted_aon (q : Request) (s : State) : (s.noted q).aon = s.aon := by
  unfold State.noted noteRequest noteTid countRx; split <;> split <;> simp
@[simp] theorem noted_mgmt (q : Request) (s : State) : (s.noted q).mgmt = s.mgmt := by
  unfold State.noted noteRequest noteTid countRx; split <;> split <;> simp
@[simp] theorem noted_adc (q : Request) (s : State) : (s.noted q).adc = s.adc := by
  unfold State.noted noteRequest noteTid countRx; split <;> split <;> simp
@[simp] theorem noted_tsens (q : Request) (s : State) : (s.noted q).tsens = s.tsens := by
  unfold State.noted noteRequest noteTid countRx; split <;> split <;> simp
@[simp] theorem noted_power (q : Request) (s : State) : (s.noted q).power = s.power := by
  unfold State.noted noteRequest noteTid countRx; split <;> split <;> simp
@[simp] theorem noted_clocks (q : Request) (s : State) : (s.noted q).clocks = s.clocks := by
  unfold State.noted noteRequest noteTid countRx; split <;> split <;> simp
@[simp] theorem noted_cairn (q : Request) (s : State) : (s.noted q).cairn = s.cairn := by
  unfold State.noted noteRequest noteTid countRx; split <;> split <;> simp
theorem noted_romOnly (q : Request) (s : State) : (s.noted q).net.romOnly = s.net.romOnly := by
  unfold State.noted noteRequest noteTid countRx; split <;> split <;> simp

/-- A write that passes the checks of index, access code and length goes to its effect. -/
theorem executeWrite_effect (q : Request) (s : State) (row : Row) (m : Nat) (o : Obj) (hrom : s.net.romOnly = false)
    (hr : rowOf q.d.index.toNat = some (row, m)) (ho : objOf q.d.index.toNat q.d.sub.toNat = some o) (ha : o.acc ≠ .ro)
    (hl : if o.ty.isDomain then q.d.data.length ≤ o.ty.size else q.d.data.length = o.ty.size) :
    executeWrite q s = writeEffect q o q.d.index.toNat row.index m q.d.sub.toNat q.d.data s := by
  have hlen : (if o.ty.isDomain = true then decide (o.ty.size < q.d.data.length)
      else decide (q.d.data.length ≠ o.ty.size)) = false := by
    split at hl <;> simp_all
  have hc : s.writeCheck q.d.index.toNat q.d.sub.toNat q.d.data.length = none := by
    simp only [State.writeCheck, State.indexServed, hr, ho, hrom]
    split at hl <;> simp_all
  simp [executeWrite, hc, hr, ho]

theorem leBytes_length (k n : Nat) : (leBytes k n).length = k := by
  induction k generalizing n with
  | zero => rfl
  | succ k ih => simp [leBytes, ih]

theorem le_leBytes (k : Nat) : ∀ n : Nat, n < 256 ^ k → le (leBytes k n) = n := by
  induction k with
  | zero => intro n h; simp at h; simp [leBytes, le, h]
  | succ k ih =>
    intro n h
    have h2 : n / 256 < 256 ^ k := by
      rw [Nat.div_lt_iff_lt_mul (by norm_num)]; rwa [pow_succ] at h
    simp only [leBytes, le, ih _ h2, BitVec.toNat_ofNat]
    omega

/-- A host command that is one write, executed at once: the effect of its object on the noted state, and settled. -/
theorem takeRequest_effect (q : Request) (index sub : Nat) (s : State) (row : Row) (m : Nat) (o : Obj)
    (h : s.executesNow q = true) (hc : q.cmd = 2) (e1 : q.d.index.toNat = index) (e2 : q.d.sub.toNat = sub)
    (hrom : s.net.romOnly = false) (hr : rowOf index = some (row, m)) (ho : objOf index sub = some o) (ha : o.acc ≠ .ro)
    (hl : if o.ty.isDomain then q.d.data.length ≤ o.ty.size else q.d.data.length = o.ty.size) :
    takeRequest q s = settle s (finishWrite q (writeEffect q o index row.index m sub q.d.data (s.noted q))) := by
  subst e1 e2
  rw [takeRequest_write _ s h hc, executeWrite_effect _ _ row m o ((noted_romOnly _ s).trans hrom) hr ho ha hl]

theorem accepts_executesNow (q : Request) (s : State) (h : s.accepts q = true) : s.executesNow q = true := by
  simp only [State.accepts, Bool.and_eq_true] at h; exact h.1

theorem accepts_romOnly (q : Request) (s : State) (h : s.accepts q = true) : s.net.romOnly = false := by
  simp only [State.accepts, Bool.and_eq_true, Bool.not_eq_true'] at h; exact h.2

@[simp] theorem writeOf_r (r : Requester) (index sub size value : Nat) : (writeOf r index sub size value).r = r := rfl
@[simp] theorem writeBytes_r (r : Requester) (index sub : Nat) (b : List Byte) : (writeBytes r index sub b).r = r := rfl

/-- What the dictionary says of an object that a host command writes. -/
def Entry (index sub base m : Nat) (acc : Acc) (ty : Ty) : Prop :=
  ∃ row o, rowOf index = some (row, m) ∧ row.index = base ∧ objOf index sub = some o ∧ o.acc = acc ∧ o.ty = ty

/-- A host command executed at once, with the effect of its object given. -/
theorem takeRequest_entry (q : Request) (index sub base m : Nat) (acc : Acc) (ty : Ty) (s : State) (E : Effect)
    (h : s.accepts q = true) (hc : q.cmd = 2) (e1 : q.d.index.toNat = index) (e2 : q.d.sub.toNat = sub)
    (hent : Entry index sub base m acc ty) (ha : acc ≠ .ro)
    (hl : if ty.isDomain then q.d.data.length ≤ ty.size else q.d.data.length = ty.size)
    (he : ∀ o : Obj, o.acc = acc → writeEffect q o index base m sub q.d.data (s.noted q) = E) :
    takeRequest q s = settle s (finishWrite q E) := by
  obtain ⟨row, o, hr, rfl, ho, rfl, rfl⟩ := hent
  rw [takeRequest_effect q index sub s row m o (accepts_executesNow q s h) hc e1 e2 (accepts_romOnly q s h) hr ho ha hl,
    he o rfl]

/-- The same of a value of a fixed size. -/
theorem hostWrite_entry (r : Requester) (index sub size value base m : Nat) (acc : Acc) (ty : Ty) (s : State) (E : Effect)
    (h : s.takes r index sub size value = true) (hi : index < 65536) (hsub : sub < 256)
    (hent : Entry index sub base m acc ty) (ha : acc ≠ .ro) (hl : ty.isDomain = false) (hz : ty.size = size)
    (he : ∀ o : Obj, o.acc = acc → writeEffect (writeOf r index sub size value) o index base m sub (leBytes size value)
      (s.noted (writeOf r index sub size value)) = E) :
    hostWrite r index sub size value s = .next (settle s (finishWrite (writeOf r index sub size value) E)) :=
  congrArg _ (takeRequest_entry _ index sub base m acc ty s E h rfl (by simp [writeOf, w16]; omega)
    (by simp [writeOf, w8]; omega) hent ha (by simp [hl, hz, writeOf, leBytes_length]) he)

/-- The noted state differs from the state in its ports alone, and in no quiet part of them. -/
theorem noted_eq (q : Request) (s : State) :
    ∃ a b c : Port, s.noted q = { s with net := { s.net with can := a, t1s := b, svh := c } }
      ∧ a.quiet = s.net.can.quiet ∧ b.quiet = s.net.t1s.quiet ∧ c.quiet = s.net.svh.quiet := by
  have hq := noted_quiet q s
  refine ⟨(s.noted q).net.can, (s.noted q).net.t1s, (s.noted q).net.svh, ?_, congrArg (fun t : State => t.net.can) hq,
    congrArg (fun t : State => t.net.t1s) hq, congrArg (fun t : State => t.net.svh) hq⟩
  unfold State.noted noteRequest noteTid countRx
  cases q.r.carrier <;> repeat' split
  all_goals rfl

/-! ### completion of a host command -/

/-- A host command whose effect is done. -/
theorem writes_of_run (c : Instr) (q : Request) (s u : State) (F : State) (h : s.accepts q = true) (hc : q.cmd = 2)
    (hr : exec c s = .next (settle s (finishWrite q (.done F)))) (hp : F.pack.state = s.pack.state)
    (hq : F.quiet = u.quiet) : Writes c q s u := by
  have hs := executesNow_silent q s (accepts_executesNow q s h)
  have hpk : (answerDone q F).pack.state = s.pack.state := by
    have := congrArg (fun t : State => t.pack.state) (answerDone_quiet q F)
    exact (show (answerDone q F).pack.state = F.pack.state from this).trans hp
  refine ⟨_, hr, ?_⟩
  rw [finishWrite, settle_same _ _ hpk]
  exact ⟨answerDone_wroteDone q F hs hc, (answerDone_quiet q F).trans hq⟩

/-- A host command that is refused. -/
theorem refuses_of_run (c : Instr) (q : Request) (a : Abort) (s F : State) (h : s.accepts q = true)
    (hr : exec c s = .next (settle s (finishWrite q (.refused a F)))) (hp : F.pack.state = s.pack.state)
    (hq : F.quiet = s.quiet) : Refuses c q a s := by
  have hs := executesNow_silent q s (accepts_executesNow q s h)
  have hpk : (answerAbort q a F).pack.state = s.pack.state := by
    have := congrArg (fun t : State => t.pack.state) (answerAbort_quiet q a F)
    exact (show (answerAbort q a F).pack.state = F.pack.state from this).trans hp
  refine ⟨_, hr, ?_⟩
  rw [finishWrite, settle_same _ _ hpk]
  exact ⟨answerAbort_aborted q a F hs, (answerAbort_quiet q a F).trans hq⟩

/-! ### requests other than writes -/

/-- An update of one port acts on the quiet part alone where it commutes with it. -/
theorem quiet_congr_port (s s' : State) (c : Carrier) (f : Port → Port) (h : s'.quiet = s.quiet)
   (hf : ∀ p p' : Port, p.quiet = p'.quiet → (f p).quiet = (f p').quiet) :
   (s'.modPort c f).quiet = (s.modPort c f).quiet := by
  have h1 : s'.net.can.quiet = s.net.can.quiet := congrArg (fun t : State => t.net.can) h
  have h2 : s'.net.t1s.quiet = s.net.t1s.quiet := congrArg (fun t : State => t.net.t1s) h
  have h3 : s'.net.svh.quiet = s.net.svh.quiet := congrArg (fun t : State => t.net.svh) h
  have key : ∀ t : State, ∀ c, (t.modPort c f).quiet = match c with
     | .can => { t.quiet with net := { t.quiet.net with can := (f t.net.can).quiet } }
     | .t1s => { t.quiet with net := { t.quiet.net with t1s := (f t.net.t1s).quiet } }
     | .svh => { t.quiet with net := { t.quiet.net with svh := (f t.net.svh).quiet } } := by
    intro t c; cases c <;> rfl
  rw [key, key]
  cases c <;> simp only [h] <;> first | rw [hf _ _ h1] | rw [hf _ _ h2] | rw [hf _ _ h3]

theorem accepts_protocolGood (q : Request) (s : State) (h : s.accepts q = true) : q.protocolBad = false := by
  have := accepts_executesNow q s h
  simp only [State.executesNow, Bool.and_eq_true, Bool.not_eq_true'] at this; exact this.2

/-- A request executed at once, and settled. -/
theorem takeRequest_runs (q : Request) (s : State) (h : s.accepts q = true) :
    takeRequest q s = settle s (runRequest q (s.noted q)) := by
  rw [takeRequest, receive_executesNow q s (accepts_executesNow q s h)]

/-- A request whose execution ends in one answer. -/
theorem completes_of_answer (c : Instr) (q : Request) (s F : State) (cmd : Byte) (b : List Byte) (h : s.accepts q = true)
   (hr : exec c s = .next (settle s (answer q cmd b F))) (hp : F.pack.state = s.pack.state) :
   Completes c s fun t => (t.port q.r.carrier).last = some (responseTo q cmd b) ∧ t.quiet = F.quiet := by
  have hs := executesNow_silent q s (accepts_executesNow q s h)
  have hpk : (answer q cmd b F).pack.state = s.pack.state := by
    have := congrArg (fun t : State => t.pack.state) (answer_quiet q cmd b F)
    exact (show (answer q cmd b F).pack.state = F.pack.state from this).trans hp
  refine ⟨_, hr, ?_⟩
  rw [settle_same _ _ hpk]
  exact ⟨answer_last q cmd b F hs, answer_quiet q cmd b F⟩


/-- The transfer of a port is replaced. -/
theorem transfer_congr (x : Option Transfer) (p p' : Port) (h : p.quiet = p'.quiet) :
    ({p with transfer := x} : Port).quiet = ({p' with transfer := x} : Port).quiet := by
  have : ∀ p : Port, ({p with transfer := x} : Port).quiet
      = {p.quiet with transfer := x.map fun t => { t with tid := 0 } } := fun _ => rfl
  rw [this, this, h]



end Sys2Proof.Machine
end

