-- ==== Sys2Proof/Laws/HostRows.lean ====
section
/-!
SUPPORT. Laws/HostRows.lean: every row that is one write of one object, executed at once: its answer is that of the effect of
the object, on the state with the request noted.
-/
namespace Sys2Proof.Machine

set_option Elab.async false


theorem fin2_val (n : Fin 2) : fin2 n.val = n := Fin.ext (Nat.mod_eq_of_lt n.isLt)
theorem fin8_val (n : Fin 8) : fin8 n.val = n := Fin.ext (Nat.mod_eq_of_lt n.isLt)

theorem entry_8830_1 : Entry 0x8830 1 0x8830 0 .wo (.u32) := ⟨_, _, rfl, rfl, rfl, rfl, rfl⟩
theorem entry_2102_1 (n : Fin 8) : Entry (0x2102 + 16 * n.val) 1 0x2102 n.val .wo (.u32) := by
  fin_cases n <;> exact ⟨_, _, rfl, rfl, rfl, rfl, rfl⟩
theorem entry_2010_1 : Entry 0x2010 1 0x2010 0 .wo (.u32) := ⟨_, _, rfl, rfl, rfl, rfl, rfl⟩
theorem entry_4840_1 (n : Fin 2) : Entry (0x4840 + 8 * n.val) 1 0x4840 n.val .rw (.u32) := by
  fin_cases n <;> exact ⟨_, _, rfl, rfl, rfl, rfl, rfl⟩
theorem entry_4800_1 : Entry 0x4800 1 0x4800 0 .rw (.u32) := ⟨_, _, rfl, rfl, rfl, rfl, rfl⟩
theorem entry_6020_2 : Entry 0x6020 2 0x6020 0 .wo (.bool) := ⟨_, _, rfl, rfl, rfl, rfl, rfl⟩
theorem entry_6000_3 : Entry 0x6000 3 0x6000 0 .wo (.u8) := ⟨_, _, rfl, rfl, rfl, rfl, rfl⟩
theorem entry_6000_5 : Entry 0x6000 5 0x6000 0 .rw (.u8) := ⟨_, _, rfl, rfl, rfl, rfl, rfl⟩
theorem entry_4860_1 : Entry 0x4860 1 0x4860 0 .rw (.u32) := ⟨_, _, rfl, rfl, rfl, rfl, rfl⟩
theorem entry_6800_5 : Entry 0x6800 5 0x6800 0 .wo (.u16) := ⟨_, _, rfl, rfl, rfl, rfl, rfl⟩
theorem entry_6800_6 : Entry 0x6800 6 0x6800 0 .wo (.u16) := ⟨_, _, rfl, rfl, rfl, rfl, rfl⟩
theorem entry_3810_1 (p : Fin 8) : Entry (0x3810 + p.val) 1 0x3810 p.val .wo (.u32) := by
  fin_cases p <;> exact ⟨_, _, rfl, rfl, rfl, rfl, rfl⟩
theorem entry_3800_1 : Entry 0x3800 1 0x3800 0 .wo (.u32) := ⟨_, _, rfl, rfl, rfl, rfl, rfl⟩
theorem entry_3830_1 : Entry 0x3830 1 0x3830 0 .wo (.u32) := ⟨_, _, rfl, rfl, rfl, rfl, rfl⟩
theorem entry_3830_2 : Entry 0x3830 2 0x3830 0 .wo (.bool) := ⟨_, _, rfl, rfl, rfl, rfl, rfl⟩
theorem entry_5010_1 (n : Fin 2) : Entry (0x5010 + n.val) 1 0x5010 n.val .wo (.u32) := by
  fin_cases n <;> exact ⟨_, _, rfl, rfl, rfl, rfl, rfl⟩
theorem entry_7010_1 (k : Fin 8) : Entry (0x7010 + k.val) 1 0x7010 k.val .wo (.u32) := by
  fin_cases k <;> exact ⟨_, _, rfl, rfl, rfl, rfl, rfl⟩
theorem entry_7410_1 (k : Fin 8) : Entry (0x7410 + k.val) 1 0x7410 k.val .wo (.u32) := by
  fin_cases k <;> exact ⟨_, _, rfl, rfl, rfl, rfl, rfl⟩
theorem entry_8000_1 : Entry 0x8000 1 0x8000 0 .wo (.u8) := ⟨_, _, rfl, rfl, rfl, rfl, rfl⟩
theorem entry_8040_3 : Entry 0x8040 3 0x8040 0 .wo (.bool) := ⟨_, _, rfl, rfl, rfl, rfl, rfl⟩
theorem entry_8800_1 : Entry 0x8800 1 0x8800 0 .rwl (.u8) := ⟨_, _, rfl, rfl, rfl, rfl, rfl⟩
theorem entry_8810_2 : Entry 0x8810 2 0x8810 0 .wo (.bool) := ⟨_, _, rfl, rfl, rfl, rfl, rfl⟩
theorem entry_6020_1 : Entry 0x6020 1 0x6020 0 .wo (.domain 32) := ⟨_, _, rfl, rfl, rfl, rfl, rfl⟩
theorem entry_6020_3 : Entry 0x6020 3 0x6020 0 .rwp (.domain 32) := ⟨_, _, rfl, rfl, rfl, rfl, rfl⟩
theorem entry_7410_5 (k : Fin 8) : Entry (0x7410 + k.val) 5 0x7410 k.val .wo (.domain 4096) := by
  fin_cases k <;> exact ⟨_, _, rfl, rfl, rfl, rfl, rfl⟩

theorem run_resetCmd (r : Requester) (value : U32) (env : BootEnv) (s : State)
    (h : s.accepts { writeOf r 0x8830 1 4 value.toNat with env := some env } = true) :
    exec (.resetCmd r value env) s = .next (settle s (finishWrite { writeOf r 0x8830 1 4 value.toNat with env := some env } (resetWrite (w32 (le (leBytes 4 (value.toNat)))) (some env) (s.noted { writeOf r 0x8830 1 4 value.toNat with env := some env })))) := by
  refine congrArg _ (takeRequest_entry _ (0x8830) 1 0x8830 0 .wo .u32 s _ h rfl ?_ rfl (entry_8830_1) (by decide) rfl ?_)
  · simp [writeOf, w16]
  · intro o ho; simp [writeEffect, ho, writeScene, writeControl, writeOf]

theorem run_commit (r : Requester) (n : Fin 8) (tag : U16) (kind num : BitVec 4) (s : State)
    (h : s.takes r (0x2102 + 16 * n.val) 1 4 (commitWord tag.toNat kind.toNat num.toNat 1) = true) :
    exec (.commit r n tag kind num) s = .next (settle s (finishWrite (writeOf r (0x2102 + 16 * n.val) 1 4 (commitWord tag.toNat kind.toNat num.toNat 1)) (commitWrite n (w32 (le (leBytes 4 (commitWord tag.toNat kind.toNat num.toNat 1)))) (s.noted (writeOf r (0x2102 + 16 * n.val) 1 4 (commitWord tag.toNat kind.toNat num.toNat 1)))))) := by
  exact hostWrite_entry r _ 1 4 _ 0x2102 n.val .wo .u32 s _ h (by omega) (by decide) (entry_2102_1 n) (by decide) rfl rfl
    (by intro o ho; simp [writeEffect, ho, writeScene, writeControl, fin8_val])

theorem run_commitCancel (r : Requester) (n : Fin 8) (s : State)
    (h : s.takes r (0x2102 + 16 * n.val) 1 4 (commitWord 0 0 0 2) = true) :
    exec (.commitCancel r n) s = .next (settle s (finishWrite (writeOf r (0x2102 + 16 * n.val) 1 4 (commitWord 0 0 0 2)) (commitWrite n 2 (s.noted (writeOf r (0x2102 + 16 * n.val) 1 4 (commitWord 0 0 0 2)))))) := by
  exact hostWrite_entry r _ 1 4 _ 0x2102 n.val .wo .u32 s _ h (by omega) (by decide) (entry_2102_1 n) (by decide) rfl rfl
    (by intro o ho; simp [writeEffect, ho, writeScene, writeControl, fin8_val, w32, le, leBytes, commitWord])

theorem run_commitDiscard (r : Requester) (n : Fin 8) (s : State)
    (h : s.takes r (0x2102 + 16 * n.val) 1 4 (commitWord 0 0 0 3) = true) :
    exec (.commitDiscard r n) s = .next (settle s (finishWrite (writeOf r (0x2102 + 16 * n.val) 1 4 (commitWord 0 0 0 3)) (commitWrite n 3 (s.noted (writeOf r (0x2102 + 16 * n.val) 1 4 (commitWord 0 0 0 3)))))) := by
  exact hostWrite_entry r _ 1 4 _ 0x2102 n.val .wo .u32 s _ h (by omega) (by decide) (entry_2102_1 n) (by decide) rfl rfl
    (by intro o ho; simp [writeEffect, ho, writeScene, writeControl, fin8_val, w32, le, leBytes, commitWord])

theorem run_groupCommit (r : Requester) (mask : Byte) (kind num : BitVec 4) (tag : U16) (s : State)
    (h : s.takes r 0x2010 1 4 (mask.toNat * 2 ^ 24 + kind.toNat * 2 ^ 20 + num.toNat * 2 ^ 16 + tag.toNat) = true) :
    exec (.groupCommit r mask kind num tag) s = .next (settle s (finishWrite (writeOf r 0x2010 1 4 (mask.toNat * 2 ^ 24 + kind.toNat * 2 ^ 20 + num.toNat * 2 ^ 16 + tag.toNat)) (groupWrite (w32 (le (leBytes 4 (mask.toNat * 2 ^ 24 + kind.toNat * 2 ^ 20 + num.toNat * 2 ^ 16 + tag.toNat)))) (s.noted (writeOf r 0x2010 1 4 (mask.toNat * 2 ^ 24 + kind.toNat * 2 ^ 20 + num.toNat * 2 ^ 16 + tag.toNat)))))) := by
  exact hostWrite_entry r _ 1 4 _ 0x2010 0 .wo .u32 s _ h (by omega) (by decide) (entry_2010_1) (by decide) rfl rfl
    (by intro o ho; simp [writeEffect, ho, writeScene, writeControl])

theorem run_sveRetrain (r : Requester) (n : Fin 2) (f p : BitVec 2) (s : State)
    (h : s.takes r (0x4840 + 8 * n.val) 1 4 (f.toNat * 2 ^ 8 + p.toNat * 2 ^ 4 + 1) = true) :
    exec (.sveRetrain r n f p) s = .next (settle s (finishWrite (writeOf r (0x4840 + 8 * n.val) 1 4 (f.toNat * 2 ^ 8 + p.toNat * 2 ^ 4 + 1)) (sveWrite n (w32 (le (leBytes 4 (f.toNat * 2 ^ 8 + p.toNat * 2 ^ 4 + 1)))) (s.noted (writeOf r (0x4840 + 8 * n.val) 1 4 (f.toNat * 2 ^ 8 + p.toNat * 2 ^ 4 + 1)))))) := by
  exact hostWrite_entry r _ 1 4 _ 0x4840 n.val .rw .u32 s _ h (by omega) (by decide) (entry_4840_1 n) (by decide) rfl rfl
    (by intro o ho; simp [writeEffect, ho, writeScene, writeControl, fin2_val])

theorem run_svhRetrain (r : Requester) (p : BitVec 2) (s : State)
    (h : s.takes r 0x4800 1 4 (p.toNat * 2 ^ 8 + 1) = true) :
    exec (.svhRetrain r p) s = .next (settle s (finishWrite (writeOf r 0x4800 1 4 (p.toNat * 2 ^ 8 + 1)) (svhWrite (w32 (le (leBytes 4 (p.toNat * 2 ^ 8 + 1)))) (s.noted (writeOf r 0x4800 1 4 (p.toNat * 2 ^ 8 + 1)))))) := by
  exact hostWrite_entry r _ 1 4 _ 0x4800 0 .rw .u32 s _ h (by omega) (by decide) (entry_4800_1) (by decide) rfl rfl
    (by intro o ho; simp [writeEffect, ho, writeScene, writeControl])

theorem run_lock (r : Requester) (s : State)
    (h : s.takes r 0x6020 2 1 1 = true) :
    exec (.lock r) s = .next (settle s (finishWrite (writeOf r 0x6020 2 1 1) (lockWrite r [1] (s.noted (writeOf r 0x6020 2 1 1))))) := by
  exact hostWrite_entry r _ 2 1 _ 0x6020 0 .wo .bool s _ h (by omega) (by decide) (entry_6020_2) (by decide) rfl rfl
    (by intro o ho; simp [writeEffect, ho, writeScene, writeControl, leBytes])

theorem run_lampCmdOff (r : Requester) (s : State)
    (h : s.takes r 0x6000 3 1 0 = true) :
    exec (.lampCmdOff r) s = .next (settle s (finishWrite (writeOf r 0x6000 3 1 0) (lampWrite r 0 (s.noted (writeOf r 0x6000 3 1 0))))) := by
  exact hostWrite_entry r _ 3 1 _ 0x6000 0 .wo .u8 s _ h (by omega) (by decide) (entry_6000_3) (by decide) rfl rfl
    (by intro o ho; simp [writeEffect, ho, writeScene, writeControl, w8, le, leBytes])

theorem run_lampCmdService (r : Requester) (s : State)
    (h : s.takes r 0x6000 3 1 2 = true) :
    exec (.lampCmdService r) s = .next (settle s (finishWrite (writeOf r 0x6000 3 1 2) (lampWrite r 2 (s.noted (writeOf r 0x6000 3 1 2))))) := by
  exact hostWrite_entry r _ 3 1 _ 0x6000 0 .wo .u8 s _ h (by omega) (by decide) (entry_6000_3) (by decide) rfl rfl
    (by intro o ho; simp [writeEffect, ho, writeScene, writeControl, w8, le, leBytes])

theorem run_lampCmdFallback (r : Requester) (s : State)
    (h : s.takes r 0x6000 3 1 3 = true) :
    exec (.lampCmdFallback r) s = .next (settle s (finishWrite (writeOf r 0x6000 3 1 3) (lampWrite r 3 (s.noted (writeOf r 0x6000 3 1 3))))) := by
  exact hostWrite_entry r _ 3 1 _ 0x6000 0 .wo .u8 s _ h (by omega) (by decide) (entry_6000_3) (by decide) rfl rfl
    (by intro o ho; simp [writeEffect, ho, writeScene, writeControl, w8, le, leBytes])

theorem run_lampCmdParked (r : Requester) (s : State)
    (h : s.takes r 0x6000 3 1 5 = true) :
    exec (.lampCmdParked r) s = .next (settle s (finishWrite (writeOf r 0x6000 3 1 5) (lampWrite r 5 (s.noted (writeOf r 0x6000 3 1 5))))) := by
  exact hostWrite_entry r _ 3 1 _ 0x6000 0 .wo .u8 s _ h (by omega) (by decide) (entry_6000_3) (by decide) rfl rfl
    (by intro o ho; simp [writeEffect, ho, writeScene, writeControl, w8, le, leBytes])

theorem run_lampCmdTest (r : Requester) (s : State)
    (h : s.takes r 0x6000 3 1 6 = true) :
    exec (.lampCmdTest r) s = .next (settle s (finishWrite (writeOf r 0x6000 3 1 6) (lampWrite r 6 (s.noted (writeOf r 0x6000 3 1 6))))) := by
  exact hostWrite_entry r _ 3 1 _ 0x6000 0 .wo .u8 s _ h (by omega) (by decide) (entry_6000_3) (by decide) rfl rfl
    (by intro o ho; simp [writeEffect, ho, writeScene, writeControl, w8, le, leBytes])

theorem run_lampCmdRecovery (r : Requester) (s : State)
    (h : s.takes r 0x6000 3 1 7 = true) :
    exec (.lampCmdRecovery r) s = .next (settle s (finishWrite (writeOf r 0x6000 3 1 7) (lampWrite r 7 (s.noted (writeOf r 0x6000 3 1 7))))) := by
  exact hostWrite_entry r _ 3 1 _ 0x6000 0 .wo .u8 s _ h (by omega) (by decide) (entry_6000_3) (by decide) rfl rfl
    (by intro o ho; simp [writeEffect, ho, writeScene, writeControl, w8, le, leBytes])

theorem run_testSource (r : Requester) (v : Byte) (s : State)
    (h : s.takes r 0x6000 5 1 v.toNat = true) :
    exec (.testSource r v) s = .next (settle s (finishWrite (writeOf r 0x6000 5 1 v.toNat) (effectOf (s.noted (writeOf r 0x6000 5 1 v.toNat)) (setTestSource (w8 (le (leBytes 1 (v.toNat)))) (s.noted (writeOf r 0x6000 5 1 v.toNat)))))) := by
  exact hostWrite_entry r _ 5 1 _ 0x6000 0 .rw .u8 s _ h (by omega) (by decide) (entry_6000_5) (by decide) rfl rfl
    (by intro o ho; simp [writeEffect, ho, writeScene, writeControl])

theorem run_testCtrl (r : Requester) (v : U32) (s : State)
    (h : s.takes r 0x4860 1 4 v.toNat = true) :
    exec (.testCtrl r v) s = .next (settle s (finishWrite (writeOf r 0x4860 1 4 v.toNat) (testCtrlWrite (w32 (le (leBytes 4 (v.toNat)))) (s.noted (writeOf r 0x4860 1 4 v.toNat))))) := by
  exact hostWrite_entry r _ 1 4 _ 0x4860 0 .rw .u32 s _ h (by omega) (by decide) (entry_4860_1) (by decide) rfl rfl
    (by intro o ho; simp [writeEffect, ho, writeScene, writeControl])

theorem run_faultAck (r : Requester) (q : U16) (s : State)
    (h : s.takes r 0x6800 5 2 q.toNat = true) :
    exec (.faultAck r q) s = .next (settle s (finishWrite (writeOf r 0x6800 5 2 q.toNat) (.done (faultAck (w16 (le (leBytes 2 (q.toNat)))) (s.noted (writeOf r 0x6800 5 2 q.toNat)))))) := by
  exact hostWrite_entry r _ 5 2 _ 0x6800 0 .wo .u16 s _ h (by omega) (by decide) (entry_6800_5) (by decide) rfl rfl
    (by intro o ho; simp [writeEffect, ho, writeScene, writeControl])

theorem run_faultClear (r : Requester) (q : U16) (s : State)
    (h : s.takes r 0x6800 6 2 q.toNat = true) :
    exec (.faultClear r q) s = .next (settle s (finishWrite (writeOf r 0x6800 6 2 q.toNat) (clearWrite (w16 (le (leBytes 2 (q.toNat)))) (s.noted (writeOf r 0x6800 6 2 q.toNat))))) := by
  exact hostWrite_entry r _ 6 2 _ 0x6800 0 .wo .u16 s _ h (by omega) (by decide) (entry_6800_6) (by decide) rfl rfl
    (by intro o ho; simp [writeEffect, ho, writeScene, writeControl])

theorem run_bankOpen (r : Requester) (p : Fin 8) (s : State)
    (h : s.takes r (0x3810 + p.val) 1 4 1 = true) :
    exec (.bankOpen r p) s = .next (settle s (finishWrite (writeOf r (0x3810 + p.val) 1 4 1) (bankWrite p 1 (s.noted (writeOf r (0x3810 + p.val) 1 4 1))))) := by
  exact hostWrite_entry r _ 1 4 _ 0x3810 p.val .wo .u32 s _ h (by omega) (by decide) (entry_3810_1 p) (by decide) rfl rfl
    (by intro o ho; simp [writeEffect, ho, writeScene, writeControl, fin8_val, w32, le, leBytes])

theorem run_swapRequest (r : Requester) (p : Fin 8) (s : State)
    (h : s.takes r (0x3810 + p.val) 1 4 2 = true) :
    exec (.swapRequest r p) s = .next (settle s (finishWrite (writeOf r (0x3810 + p.val) 1 4 2) (bankWrite p 2 (s.noted (writeOf r (0x3810 + p.val) 1 4 2))))) := by
  exact hostWrite_entry r _ 1 4 _ 0x3810 p.val .wo .u32 s _ h (by omega) (by decide) (entry_3810_1 p) (by decide) rfl rfl
    (by intro o ho; simp [writeEffect, ho, writeScene, writeControl, fin8_val, w32, le, leBytes])

theorem run_bankCancel (r : Requester) (p : Fin 8) (s : State)
    (h : s.takes r (0x3810 + p.val) 1 4 3 = true) :
    exec (.bankCancel r p) s = .next (settle s (finishWrite (writeOf r (0x3810 + p.val) 1 4 3) (bankWrite p 3 (s.noted (writeOf r (0x3810 + p.val) 1 4 3))))) := by
  exact hostWrite_entry r _ 1 4 _ 0x3810 p.val .wo .u32 s _ h (by omega) (by decide) (entry_3810_1 p) (by decide) rfl rfl
    (by intro o ho; simp [writeEffect, ho, writeScene, writeControl, fin8_val, w32, le, leBytes])

theorem run_loadFlash (r : Requester) (slot : Byte) (s : State)
    (h : s.takes r 0x3800 1 4 (slot.toNat * 2 ^ 8 + 1) = true) :
    exec (.loadFlash r slot) s = .next (settle s (finishWrite (writeOf r 0x3800 1 4 (slot.toNat * 2 ^ 8 + 1)) (packWrite (w32 (le (leBytes 4 (slot.toNat * 2 ^ 8 + 1)))) (s.noted (writeOf r 0x3800 1 4 (slot.toNat * 2 ^ 8 + 1)))))) := by
  exact hostWrite_entry r _ 1 4 _ 0x3800 0 .wo .u32 s _ h (by omega) (by decide) (entry_3800_1) (by decide) rfl rfl
    (by intro o ho; simp [writeEffect, ho, writeScene, writeControl])

theorem run_openHost (r : Requester) (s : State)
    (h : s.takes r 0x3800 1 4 2 = true) :
    exec (.openHost r) s = .next (settle s (finishWrite (writeOf r 0x3800 1 4 2) (packWrite 2 (s.noted (writeOf r 0x3800 1 4 2))))) := by
  exact hostWrite_entry r _ 1 4 _ 0x3800 0 .wo .u32 s _ h (by omega) (by decide) (entry_3800_1) (by decide) rfl rfl
    (by intro o ho; simp [writeEffect, ho, writeScene, writeControl, w32, le, leBytes])

theorem run_closeHost (r : Requester) (s : State)
    (h : s.takes r 0x3800 1 4 3 = true) :
    exec (.closeHost r) s = .next (settle s (finishWrite (writeOf r 0x3800 1 4 3) (packWrite 3 (s.noted (writeOf r 0x3800 1 4 3))))) := by
  exact hostWrite_entry r _ 1 4 _ 0x3800 0 .wo .u32 s _ h (by omega) (by decide) (entry_3800_1) (by decide) rfl rfl
    (by intro o ho; simp [writeEffect, ho, writeScene, writeControl, w32, le, leBytes])

theorem run_activate (r : Requester) (s : State)
    (h : s.takes r 0x3800 1 4 4 = true) :
    exec (.activate r) s = .next (settle s (finishWrite (writeOf r 0x3800 1 4 4) (packWrite 4 (s.noted (writeOf r 0x3800 1 4 4))))) := by
  exact hostWrite_entry r _ 1 4 _ 0x3800 0 .wo .u32 s _ h (by omega) (by decide) (entry_3800_1) (by decide) rfl rfl
    (by intro o ho; simp [writeEffect, ho, writeScene, writeControl, w32, le, leBytes])

theorem run_packCancel (r : Requester) (s : State)
    (h : s.takes r 0x3800 1 4 5 = true) :
    exec (.packCancel r) s = .next (settle s (finishWrite (writeOf r 0x3800 1 4 5) (packWrite 5 (s.noted (writeOf r 0x3800 1 4 5))))) := by
  exact hostWrite_entry r _ 1 4 _ 0x3800 0 .wo .u32 s _ h (by omega) (by decide) (entry_3800_1) (by decide) rfl rfl
    (by intro o ho; simp [writeEffect, ho, writeScene, writeControl, w32, le, leBytes])

theorem run_schedStart (r : Requester) (frame : U32) (s : State)
    (h : s.takes r 0x3830 1 4 frame.toNat = true) :
    exec (.schedStart r frame) s = .next (settle s (finishWrite (writeOf r 0x3830 1 4 frame.toNat) (schedStartWrite (w32 (le (leBytes 4 (frame.toNat)))) (s.noted (writeOf r 0x3830 1 4 frame.toNat))))) := by
  exact hostWrite_entry r _ 1 4 _ 0x3830 0 .wo .u32 s _ h (by omega) (by decide) (entry_3830_1) (by decide) rfl rfl
    (by intro o ho; simp [writeEffect, ho, writeScene, writeControl])

theorem run_schedStop (r : Requester) (s : State)
    (h : s.takes r 0x3830 2 1 1 = true) :
    exec (.schedStop r) s = .next (settle s (finishWrite (writeOf r 0x3830 2 1 1) (.done (stopSchedule 0 (s.noted (writeOf r 0x3830 2 1 1)))))) := by
  exact hostWrite_entry r _ 2 1 _ 0x3830 0 .wo .bool s _ h (by omega) (by decide) (entry_3830_2) (by decide) rfl rfl
    (by intro o ho; simp [writeEffect, ho, writeScene, writeControl, boolEffect, le, leBytes])

theorem run_fmapCommit (r : Requester) (n : Fin 2) (s : State)
    (h : s.takes r (0x5010 + n.val) 1 4 1 = true) :
    exec (.fmapCommit r n) s = .next (settle s (finishWrite (writeOf r (0x5010 + n.val) 1 4 1) (fmapWrite n 1 (s.noted (writeOf r (0x5010 + n.val) 1 4 1))))) := by
  exact hostWrite_entry r _ 1 4 _ 0x5010 n.val .wo .u32 s _ h (by omega) (by decide) (entry_5010_1 n) (by decide) rfl rfl
    (by intro o ho; simp [writeEffect, ho, writeScene, writeControl, fin2_val, w32, le, leBytes])

theorem run_fmapRetire (r : Requester) (n : Fin 2) (x : BitVec 11) (y : BitVec 9) (e : BitVec 2) (s : State)
    (h : s.takes r (0x5010 + n.val) 1 4 (x.toNat * 2 ^ 21 + y.toNat * 2 ^ 12 + e.toNat * 2 ^ 10 + 2) = true) :
    exec (.fmapRetire r n x y e) s = .next (settle s (finishWrite (writeOf r (0x5010 + n.val) 1 4 (x.toNat * 2 ^ 21 + y.toNat * 2 ^ 12 + e.toNat * 2 ^ 10 + 2)) (fmapWrite n (w32 (le (leBytes 4 (x.toNat * 2 ^ 21 + y.toNat * 2 ^ 12 + e.toNat * 2 ^ 10 + 2)))) (s.noted (writeOf r (0x5010 + n.val) 1 4 (x.toNat * 2 ^ 21 + y.toNat * 2 ^ 12 + e.toNat * 2 ^ 10 + 2)))))) := by
  exact hostWrite_entry r _ 1 4 _ 0x5010 n.val .wo .u32 s _ h (by omega) (by decide) (entry_5010_1 n) (by decide) rfl rfl
    (by intro o ho; simp [writeEffect, ho, writeScene, writeControl, fin2_val])

theorem run_fmapClear (r : Requester) (n : Fin 2) (s : State)
    (h : s.takes r (0x5010 + n.val) 1 4 3 = true) :
    exec (.fmapClear r n) s = .next (settle s (finishWrite (writeOf r (0x5010 + n.val) 1 4 3) (fmapWrite n 3 (s.noted (writeOf r (0x5010 + n.val) 1 4 3))))) := by
  exact hostWrite_entry r _ 1 4 _ 0x5010 n.val .wo .u32 s _ h (by omega) (by decide) (entry_5010_1 n) (by decide) rfl rfl
    (by intro o ho; simp [writeEffect, ho, writeScene, writeControl, fin2_val, w32, le, leBytes])

theorem run_fmapRebuild (r : Requester) (n : Fin 2) (s : State)
    (h : s.takes r (0x5010 + n.val) 1 4 4 = true) :
    exec (.fmapRebuild r n) s = .next (settle s (finishWrite (writeOf r (0x5010 + n.val) 1 4 4) (fmapWrite n 4 (s.noted (writeOf r (0x5010 + n.val) 1 4 4))))) := by
  exact hostWrite_entry r _ 1 4 _ 0x5010 n.val .wo .u32 s _ h (by omega) (by decide) (entry_5010_1 n) (by decide) rfl rfl
    (by intro o ho; simp [writeEffect, ho, writeScene, writeControl, fin2_val, w32, le, leBytes])

theorem run_go (r : Requester) (k : Fin 8) (s : State)
    (h : s.takes r (0x7010 + k.val) 1 4 1 = true) :
    exec (.go r k) s = .next (settle s (finishWrite (writeOf r (0x7010 + k.val) 1 4 1) (effectOf (s.noted (writeOf r (0x7010 + k.val) 1 4 1)) (goChannel k (s.noted (writeOf r (0x7010 + k.val) 1 4 1)))))) := by
  exact hostWrite_entry r _ 1 4 _ 0x7010 k.val .wo .u32 s _ h (by omega) (by decide) (entry_7010_1 k) (by decide) rfl rfl
    (by intro o ho; simp [writeEffect, ho, writeScene, writeControl, fin8_val, chWrite, fld, w32, le, leBytes])

theorem run_stop (r : Requester) (k : Fin 8) (moved : Nat) (s : State)
    (h : s.accepts { writeOf r (0x7010 + k.val) 1 4 2 with moved := some moved } = true) :
    exec (.stop r k moved) s = .next (settle s (finishWrite { writeOf r (0x7010 + k.val) 1 4 2 with moved := some moved } (.done (stopChannel k moved (s.noted { writeOf r (0x7010 + k.val) 1 4 2 with moved := some moved }))))) := by
  refine congrArg _ (takeRequest_entry _ (0x7010 + k.val) 1 0x7010 k.val .wo .u32 s _ h rfl ?_ rfl (entry_7010_1 k) (by decide) rfl ?_)
  · simp [writeOf, w16]; omega
  · intro o ho; simp [writeEffect, ho, writeScene, writeControl, fin8_val, chWrite, fld, w32, le, leBytes, writeOf]

theorem run_startMem (r : Requester) (k : Fin 8) (alive : Byte) (s : State)
    (h : s.takes r (0x7410 + k.val) 1 4 (chkWord alive 1) = true) :
    exec (.startMem r k alive) s = .next (settle s (finishWrite (writeOf r (0x7410 + k.val) 1 4 (chkWord alive 1)) (effectOf (s.noted (writeOf r (0x7410 + k.val) 1 4 (chkWord alive 1))) (chkCtrl k (w32 (le (leBytes 4 (chkWord alive 1)))) (s.noted (writeOf r (0x7410 + k.val) 1 4 (chkWord alive 1))))))) := by
  exact hostWrite_entry r _ 1 4 _ 0x7410 k.val .wo .u32 s _ h (by omega) (by decide) (entry_7410_1 k) (by decide) rfl rfl
    (by intro o ho; simp [writeEffect, ho, writeScene, writeControl, fin8_val, chkWrite])

theorem run_feedOpen (r : Requester) (k : Fin 8) (alive : Byte) (s : State)
    (h : s.takes r (0x7410 + k.val) 1 4 (chkWord alive 2) = true) :
    exec (.feedOpen r k alive) s = .next (settle s (finishWrite (writeOf r (0x7410 + k.val) 1 4 (chkWord alive 2)) (effectOf (s.noted (writeOf r (0x7410 + k.val) 1 4 (chkWord alive 2))) (chkCtrl k (w32 (le (leBytes 4 (chkWord alive 2)))) (s.noted (writeOf r (0x7410 + k.val) 1 4 (chkWord alive 2))))))) := by
  exact hostWrite_entry r _ 1 4 _ 0x7410 k.val .wo .u32 s _ h (by omega) (by decide) (entry_7410_1 k) (by decide) rfl rfl
    (by intro o ho; simp [writeEffect, ho, writeScene, writeControl, fin8_val, chkWrite])

theorem run_feedClose (r : Requester) (k : Fin 8) (alive : Byte) (s : State)
    (h : s.takes r (0x7410 + k.val) 1 4 (chkWord alive 3) = true) :
    exec (.feedClose r k alive) s = .next (settle s (finishWrite (writeOf r (0x7410 + k.val) 1 4 (chkWord alive 3)) (effectOf (s.noted (writeOf r (0x7410 + k.val) 1 4 (chkWord alive 3))) (chkCtrl k (w32 (le (leBytes 4 (chkWord alive 3)))) (s.noted (writeOf r (0x7410 + k.val) 1 4 (chkWord alive 3))))))) := by
  exact hostWrite_entry r _ 1 4 _ 0x7410 k.val .wo .u32 s _ h (by omega) (by decide) (entry_7410_1 k) (by decide) rfl rfl
    (by intro o ho; simp [writeEffect, ho, writeScene, writeControl, fin8_val, chkWrite])

theorem run_checkAbort (r : Requester) (k : Fin 8) (alive : Byte) (s : State)
    (h : s.takes r (0x7410 + k.val) 1 4 (chkWord alive 4) = true) :
    exec (.checkAbort r k alive) s = .next (settle s (finishWrite (writeOf r (0x7410 + k.val) 1 4 (chkWord alive 4)) (effectOf (s.noted (writeOf r (0x7410 + k.val) 1 4 (chkWord alive 4))) (chkCtrl k (w32 (le (leBytes 4 (chkWord alive 4)))) (s.noted (writeOf r (0x7410 + k.val) 1 4 (chkWord alive 4))))))) := by
  exact hostWrite_entry r _ 1 4 _ 0x7410 k.val .wo .u32 s _ h (by omega) (by decide) (entry_7410_1 k) (by decide) rfl rfl
    (by intro o ho; simp [writeEffect, ho, writeScene, writeControl, fin8_val, chkWrite])

theorem run_powerCmdRun (r : Requester) (s : State)
    (h : s.takes r 0x8000 1 1 0 = true) :
    exec (.powerCmdRun r) s = .next (settle s (finishWrite (writeOf r 0x8000 1 1 0) (powerWrite 0 (s.noted (writeOf r 0x8000 1 1 0))))) := by
  exact hostWrite_entry r _ 1 1 _ 0x8000 0 .wo .u8 s _ h (by omega) (by decide) (entry_8000_1) (by decide) rfl rfl
    (by intro o ho; simp [writeEffect, ho, writeScene, writeControl, le, leBytes])

theorem run_powerCmdIdle (r : Requester) (s : State)
    (h : s.takes r 0x8000 1 1 1 = true) :
    exec (.powerCmdIdle r) s = .next (settle s (finishWrite (writeOf r 0x8000 1 1 1) (powerWrite 1 (s.noted (writeOf r 0x8000 1 1 1))))) := by
  exact hostWrite_entry r _ 1 1 _ 0x8000 0 .wo .u8 s _ h (by omega) (by decide) (entry_8000_1) (by decide) rfl rfl
    (by intro o ho; simp [writeEffect, ho, writeScene, writeControl, le, leBytes])

theorem run_powerCmdSleep (r : Requester) (s : State)
    (h : s.takes r 0x8000 1 1 2 = true) :
    exec (.powerCmdSleep r) s = .next (settle s (finishWrite (writeOf r 0x8000 1 1 2) (powerWrite 2 (s.noted (writeOf r 0x8000 1 1 2))))) := by
  exact hostWrite_entry r _ 1 1 _ 0x8000 0 .wo .u8 s _ h (by omega) (by decide) (entry_8000_1) (by decide) rfl rfl
    (by intro o ho; simp [writeEffect, ho, writeScene, writeControl, le, leBytes])

theorem run_powerCmdDeep (r : Requester) (s : State)
    (h : s.takes r 0x8000 1 1 3 = true) :
    exec (.powerCmdDeep r) s = .next (settle s (finishWrite (writeOf r 0x8000 1 1 3) (powerWrite 3 (s.noted (writeOf r 0x8000 1 1 3))))) := by
  exact hostWrite_entry r _ 1 1 _ 0x8000 0 .wo .u8 s _ h (by omega) (by decide) (entry_8000_1) (by decide) rfl rfl
    (by intro o ho; simp [writeEffect, ho, writeScene, writeControl, le, leBytes])

theorem run_powerCmdDew (r : Requester) (s : State)
    (h : s.takes r 0x8000 1 1 4 = true) :
    exec (.powerCmdDew r) s = .next (settle s (finishWrite (writeOf r 0x8000 1 1 4) (powerWrite 4 (s.noted (writeOf r 0x8000 1 1 4))))) := by
  exact hostWrite_entry r _ 1 1 _ 0x8000 0 .wo .u8 s _ h (by omega) (by decide) (entry_8000_1) (by decide) rfl rfl
    (by intro o ho; simp [writeEffect, ho, writeScene, writeControl, le, leBytes])

theorem run_powerCmdOff (r : Requester) (s : State)
    (h : s.takes r 0x8000 1 1 5 = true) :
    exec (.powerCmdOff r) s = .next (settle s (finishWrite (writeOf r 0x8000 1 1 5) (powerWrite 5 (s.noted (writeOf r 0x8000 1 1 5))))) := by
  exact hostWrite_entry r _ 1 1 _ 0x8000 0 .wo .u8 s _ h (by omega) (by decide) (entry_8000_1) (by decide) rfl rfl
    (by intro o ho; simp [writeEffect, ho, writeScene, writeControl, le, leBytes])

theorem run_wakeAck (r : Requester) (s : State)
    (h : s.takes r 0x8040 3 1 1 = true) :
    exec (.wakeAck r) s = .next (settle s (finishWrite (writeOf r 0x8040 3 1 1) (.done { (s.noted (writeOf r 0x8040 3 1 1)) with aon := { (s.noted (writeOf r 0x8040 3 1 1)).aon with wakeOut := false } }))) := by
  exact hostWrite_entry r _ 3 1 _ 0x8040 0 .wo .bool s _ h (by omega) (by decide) (entry_8040_3) (by decide) rfl rfl
    (by intro o ho; simp [writeEffect, ho, writeScene, writeControl, boolEffect, le, leBytes])

theorem run_store (r : Requester) (s : State)
    (h : s.takes r 0x8800 1 1 1 = true) :
    exec (.store r) s = .next (settle s (finishWrite (writeOf r 0x8800 1 1 1) (if (s.noted (writeOf r 0x8800 1 1 1)).safety.lamp = .parked then nvmWrite 1 (s.noted (writeOf r 0x8800 1 1 1)) else .refused .stateConflict (s.noted (writeOf r 0x8800 1 1 1))))) := by
  exact hostWrite_entry r _ 1 1 _ 0x8800 0 .rwl .u8 s _ h (by omega) (by decide) (entry_8800_1) (by decide) rfl rfl
    (by intro o ho; simp [writeEffect, ho, writeScene, writeControl, le, leBytes])

theorem run_restoreDefaults (r : Requester) (s : State)
    (h : s.takes r 0x8800 1 1 2 = true) :
    exec (.restoreDefaults r) s = .next (settle s (finishWrite (writeOf r 0x8800 1 1 2) (if (s.noted (writeOf r 0x8800 1 1 2)).safety.lamp = .parked then nvmWrite 2 (s.noted (writeOf r 0x8800 1 1 2)) else .refused .stateConflict (s.noted (writeOf r 0x8800 1 1 2))))) := by
  exact hostWrite_entry r _ 1 1 _ 0x8800 0 .rwl .u8 s _ h (by omega) (by decide) (entry_8800_1) (by decide) rfl rfl
    (by intro o ho; simp [writeEffect, ho, writeScene, writeControl, le, leBytes])

theorem run_calsetWrite (r : Requester) (s : State)
    (h : s.takes r 0x8810 2 1 1 = true) :
    exec (.calsetWrite r) s = .next (settle s (finishWrite (writeOf r 0x8810 2 1 1) (calsetWrite (s.noted (writeOf r 0x8810 2 1 1))))) := by
  exact hostWrite_entry r _ 2 1 _ 0x8810 0 .wo .bool s _ h (by omega) (by decide) (entry_8810_2) (by decide) rfl rfl
    (by intro o ho; simp [writeEffect, ho, writeScene, writeControl, boolEffect, le, leBytes])

theorem run_unlock (r : Requester) (b : List Byte) (hb : b.length ≤ 32) (s : State)
    (h : s.accepts (writeBytes r 0x6020 1 b) = true) :
    exec (.unlock r b) s = .next (settle s (finishWrite (writeBytes r 0x6020 1 b) (unlockWrite r b (s.noted (writeBytes r 0x6020 1 b))))) := by
  refine congrArg _ (takeRequest_entry _ _ 1 0x6020 0 .wo (.domain 32) s _ h rfl ?_ rfl (entry_6020_1) (by decide) hb ?_)
  · simp [writeBytes, w16]
  · intro o ho; simp [writeEffect, ho, writeScene, writeControl, writeBytes]

theorem run_pwNew (r : Requester) (b : List Byte) (hb : b.length ≤ 32) (s : State)
    (h : s.accepts (writeBytes r 0x6020 3 b) = true) :
    exec (.pwNew r b) s = .next (settle s (finishWrite (writeBytes r 0x6020 3 b) (pwNewWrite r b (s.noted (writeBytes r 0x6020 3 b))))) := by
  refine congrArg _ (takeRequest_entry _ _ 3 0x6020 0 .rwp (.domain 32) s _ h rfl ?_ rfl (entry_6020_3) (by decide) hb ?_)
  · simp [writeBytes, w16]
  · intro o ho; simp [writeEffect, ho, writeScene, writeControl, writeBytes]

theorem run_chkFeed (r : Requester) (k : Fin 8) (b : List Byte) (hb : b.length ≤ 4096) (s : State)
    (h : s.accepts (writeBytes r (0x7410 + k.val) 5 b) = true) :
    exec (.chkFeed r k b) s = .next (settle s (finishWrite (writeBytes r (0x7410 + k.val) 5 b) (effectOf (s.noted (writeBytes r (0x7410 + k.val) 5 b)) (chkFeed k b (s.noted (writeBytes r (0x7410 + k.val) 5 b)))))) := by
  refine congrArg _ (takeRequest_entry _ _ 5 0x7410 k.val .wo (.domain 4096) s _ h rfl ?_ rfl (entry_7410_5 k) (by decide) hb ?_)
  · simp [writeBytes, w16]; omega
  · intro o ho; simp [writeEffect, ho, writeScene, writeControl, writeBytes, fin8_val, chkWrite]

/-- CHECK_ALIVE of a host. -/
theorem run_checkAlive (r : Requester) (k : Fin 8) (alive : Byte) (s : State)
    (h : s.takes r (0x7410 + k.val) 1 4 (chkWord alive 0) = true) :
    exec (.checkAlive (some r) k alive) s = .next (settle s (finishWrite (writeOf r (0x7410 + k.val) 1 4 (chkWord alive 0))
      (effectOf (s.noted (writeOf r (0x7410 + k.val) 1 4 (chkWord alive 0)))
        (chkCtrl k (w32 (le (leBytes 4 (chkWord alive 0)))) (s.noted (writeOf r (0x7410 + k.val) 1 4 (chkWord alive 0))))))) := by
  exact hostWrite_entry r _ 1 4 _ 0x7410 k.val .wo .u32 s _ h (by omega) (by decide) (entry_7410_1 k) (by decide) rfl rfl
    (by intro o ho; simp [writeEffect, ho, writeScene, writeControl, fin8_val, chkWrite])

end Sys2Proof.Machine
end

