-- ==== Sys2Proof/Laws/Mem.lean ====
section
/-!
SUPPORT. Laws/Mem.lean: the sparse bytes of field memory and flash: every operation keeps the canonical form, a read after a
write gives the byte written, and a write leaves every other byte alone.
-/
namespace Sys2Proof.Machine

/-- The canonical form of a non-empty memory: its head, the first address, and the rest. -/
theorem cellWf_cons (d : Nat → Byte) (a : Nat) (v : Byte) (t : List Host.Cell) :
    cellWf d ((a, v) :: t) = true ↔ v ≠ d a ∧ (∀ c ∈ t.head?, a < c.1) ∧ cellWf d t = true := by
  cases t with
  | nil => simp [cellWf]
  | cons c t => obtain ⟨b, w⟩ := c; simp [cellWf, and_assoc]

/-- Every address of the rest of a canonical memory is above its head's. -/
theorem cellWf_lt (d : Nat → Byte) (t : List Host.Cell) : ∀ (a : Nat) (v : Byte), cellWf d ((a, v) :: t) = true → ∀ c ∈ t, a < c.1 := by
  induction t with
  | nil => intro a v _ c hc; cases hc
  | cons e t ih =>
    intro a v h c hc
    obtain ⟨b, w⟩ := e
    obtain ⟨_, h1, h2⟩ := (cellWf_cons d a v _).1 h
    have hab : a < b := h1 (b, w) (by simp)
    rcases List.mem_cons.1 hc with rfl | hc
    · exact hab
    · exact hab.trans (ih b w h2 c hc)

/-- A head below every address of a canonical memory. -/
theorem cellWf_of_lt (d : Nat → Byte) (a : Nat) (v : Byte) (t : List Host.Cell) (hv : v ≠ d a) (hl : ∀ c ∈ t, a < c.1)
    (ht : cellWf d t = true) : cellWf d ((a, v) :: t) = true := by
  refine (cellWf_cons d a v t).2 ⟨hv, fun c hc => hl c ?_, ht⟩
  cases t with
  | nil => cases hc
  | cons e t => simp only [List.head?_cons, Option.mem_some_iff] at hc; subst hc; simp

theorem cellPut_mem (d : Nat → Byte) (m : List Host.Cell) (x : Nat) (v : Byte) :
    ∀ c ∈ cellPut d m x v, c ∈ m ∨ c = (x, v) := by
  induction m with
  | nil => intro c; unfold cellPut; split <;> simp_all
  | cons e t ih =>
    obtain ⟨a, w⟩ := e
    intro c
    unfold cellPut
    split
    · split <;> simp only [List.mem_cons] <;> tauto
    · split
      · split <;> simp only [List.mem_cons] <;> tauto
      · simp only [List.mem_cons]
        rintro (rfl | h)
        · exact .inl (.inl rfl)
        · rcases ih c h with h | h
          · exact .inl (.inr h)
          · exact .inr h

/-- A byte written keeps the canonical form. -/
theorem cellPut_wf (d : Nat → Byte) (m : List Host.Cell) (x : Nat) (v : Byte) (h : cellWf d m = true) :
    cellWf d (cellPut d m x v) = true := by
  induction m with
  | nil => unfold cellPut; split <;> simp_all [cellWf]
  | cons e t ih =>
    obtain ⟨a, w⟩ := e
    have hl := cellWf_lt d t a w h
    obtain ⟨hw, _, ht⟩ := (cellWf_cons d a w t).1 h
    unfold cellPut
    split
    · split
      · exact h
      · refine cellWf_of_lt d x v _ ‹_› (fun c hc => ?_) h
        rcases List.mem_cons.1 hc with rfl | hc
        · assumption
        · exact lt_trans ‹_› (hl c hc)
    · split
      · subst x
        split
        · exact ht
        · exact cellWf_of_lt d a v t ‹_› hl ht
      · refine cellWf_of_lt d a w _ hw (fun c hc => ?_) (ih ht)
        rcases cellPut_mem d t x v c hc with hc | rfl
        · exact hl c hc
        · show a < x; omega

/-- Bytes written keep the canonical form. -/
theorem cellWrite_wf (d : Nat → Byte) (b : List Byte) : ∀ (m : List Host.Cell) (a : Nat), cellWf d m = true →
    cellWf d (cellWrite d m a b) = true := by
  induction b with
  | nil => intro m a h; exact h
  | cons v t ih => intro m a h; exact ih _ _ (cellPut_wf d m a v h)

/-- A part of a canonical memory is canonical. -/
theorem cellWf_filter (d : Nat → Byte) (p : Host.Cell → Bool) (m : List Host.Cell) (h : cellWf d m = true) :
    cellWf d (m.filter p) = true := by
  induction m with
  | nil => exact h
  | cons e t ih =>
    obtain ⟨a, v⟩ := e
    have hl := cellWf_lt d t a v h
    obtain ⟨hv, _, ht⟩ := (cellWf_cons d a v t).1 h
    rw [List.filter_cons]
    split
    · exact cellWf_of_lt d a v _ hv (fun c hc => hl c (List.mem_of_mem_filter hc)) (ih ht)
    · exact ih ht

/-- A cleared range keeps the canonical form. -/
theorem cellClear_wf (d : Nat → Byte) (m : List Host.Cell) (a len : Nat) (h : cellWf d m = true) :
    cellWf d (cellClear m a len) = true := cellWf_filter d _ m h

/-- An address below every listed one reads as an unlisted one. -/
theorem cellGet_below (d : Nat → Byte) (m : List Host.Cell) (x : Nat) (h : ∀ c ∈ m, x < c.1) : cellGet d m x = d x := by
  cases m with
  | nil => rfl
  | cons e t =>
    obtain ⟨a, v⟩ := e
    have hx : x < a := h (a, v) (by simp)
    simp [cellGet, hx, hx.ne]

/-- A read after a write of one byte. -/
theorem cellGet_cellPut (d : Nat → Byte) (m : List Host.Cell) (x y : Nat) (v : Byte) (h : cellWf d m = true) :
    cellGet d (cellPut d m x v) y = if y = x then v else cellGet d m y := by
  induction m with
  | nil =>
    unfold cellPut
    by_cases hv : v = d x
    · simp only [if_pos hv, cellGet]
      split
      · subst y; exact hv.symm
      · rfl
    · simp [hv, cellGet]
  | cons e t ih =>
    obtain ⟨a, w⟩ := e
    have hl := cellWf_lt d t a w h
    obtain ⟨hw, _, ht⟩ := (cellWf_cons d a w t).1 h
    unfold cellPut
    split
    · rename_i hxa
      by_cases hv : v = d x
      · rw [if_pos hv]
        split
        · subst y; simp [cellGet, hxa, hxa.ne, hv]
        · rfl
      · rw [if_neg hv]
        by_cases hy : y = x
        · simp [cellGet, hy]
        · rw [if_neg hy]
          by_cases hyx : y < x
          · have h1 : y < a := hyx.trans hxa
            simp [cellGet, hy, hyx, h1, h1.ne]
          · simp [cellGet, hy, hyx]
    · split
      · subst x
        by_cases hv : v = d a
        · rw [if_pos hv]
          split
          · rename_i e; rw [e, cellGet_below d t a hl, hv]
          · rename_i hy
            by_cases hya : y < a
            · rw [cellGet_below d t y fun c hc => hya.trans (hl c hc)]; simp [cellGet, hy, hya]
            · simp [cellGet, hy, hya]
        · rw [if_neg hv]
          by_cases hy : y = a <;> simp [cellGet, hy]
      · rename_i h1 h2
        by_cases hy : y = a
        · subst y; simp [cellGet, Ne.symm h2]
        · by_cases hya : y < a
          · have : y ≠ x := by omega
            simp [cellGet, hy, hya, this]
          · simp [cellGet, hy, hya, ih ht]

/-- A byte outside the bytes written reads as before. -/
theorem cellGet_cellWrite_outside (d : Nat → Byte) (b : List Byte) : ∀ (m : List Host.Cell) (a y : Nat), cellWf d m = true →
    (y < a ∨ a + b.length ≤ y) → cellGet d (cellWrite d m a b) y = cellGet d m y := by
  induction b with
  | nil => intro m a y _ _; rfl
  | cons v t ih =>
    intro m a y h hy
    simp only [List.length_cons] at hy
    rw [cellWrite, ih _ _ _ (cellPut_wf d m a v h) (by omega), cellGet_cellPut d m a y v h, if_neg (by omega)]

/-- A byte of those written reads as written. -/
theorem cellGet_cellWrite_inside (d : Nat → Byte) (b : List Byte) : ∀ (m : List Host.Cell) (a k : Nat), cellWf d m = true →
    ∀ hk : k < b.length, cellGet d (cellWrite d m a b) (a + k) = b[k] := by
  induction b with
  | nil => intro m a k _ hk; simp at hk
  | cons v t ih =>
    intro m a k h hk
    have hw := cellPut_wf d m a v h
    cases k with
    | zero =>
      rw [cellWrite, cellGet_cellWrite_outside d t _ _ _ hw (by omega), cellGet_cellPut d m a _ v h]
      simp
    | succ k =>
      have := ih (cellPut d m a v) (a + 1) k hw (by simpa using hk)
      rw [cellWrite, show a + (k + 1) = a + 1 + k by omega, this]
      rfl

/-- The reset memory is canonical. -/
theorem reset_mem_wf : cellWf fmReset State.reset.mem.fm = true ∧ cellWf flashReset State.reset.mem.flash = true := ⟨rfl, rfl⟩

end Sys2Proof.Machine
end

