-- ==== Sys2Proof/Laws/PerInstr.lean ====
section
/-!
SUPPORT. Laws/PerInstr.lean: the family Sender, one lemma per command: a well-formed command comes from a well-formed
requester, where it has one (R282, R283).
-/
namespace Sys2Proof.Laws.Sender

/-- The sender of a well-formed command is well-formed. -/
def Statement (i : Instr) : Prop := i.wf = true → ∀ r, i.requester = some r → r.wf = true

theorem porstNRelease (env : BootEnv) : Statement (.porstNRelease env) := by intro _ r h; cases h
theorem supplyReset (env : BootEnv) : Statement (.supplyReset env) := by intro _ r h; cases h
theorem managementWatchdogExpiry (env : BootEnv) : Statement (.managementWatchdogExpiry env) := by
  intro _ r h; cases h
theorem resetCmd (r : Requester) (value : U32) (env : BootEnv) : Statement (.resetCmd r value env) := by
  intro h x e; cases e; exact (Bool.and_eq_true_iff.mp h).1
theorem pllNotLockedReset (env : BootEnv) : Statement (.pllNotLockedReset env) := by intro _ r h; cases h
theorem testReset (testEn : Bool) (env : BootEnv) : Statement (.testReset testEn env) := by intro _ r h; cases h
theorem pllLockLoss : Statement .pllLockLoss := by intro _ r h; cases h
theorem frameSlotStart (slot : Fin 68) (obs : SlotObs) : Statement (.frameSlotStart slot obs) := by
  intro _ r h; cases h
theorem ticketClose : Statement .ticketClose := by intro _ r h; cases h
theorem commit (r : Requester) (layer : Fin 8) (tag : U16) (gateKind : BitVec 4) (gateNum : BitVec 4) : Statement (.commit r layer tag gateKind gateNum) := by
  intro h x e; cases e; exact h
theorem commitCancel (r : Requester) (layer : Fin 8) : Statement (.commitCancel r layer) := by
  intro h x e; cases e; exact h
theorem commitDiscard (r : Requester) (layer : Fin 8) : Statement (.commitDiscard r layer) := by
  intro h x e; cases e; exact h
theorem groupCommit (r : Requester) (mask : Byte) (gateKind : BitVec 4) (gateNum : BitVec 4) (tag : U16) : Statement (.groupCommit r mask gateKind gateNum tag) := by
  intro h x e; cases e; exact h
theorem commitCheckEnd (layer : Fin 8) : Statement (.commitCheckEnd layer) := by intro _ r h; cases h
theorem streamPacket (p : Packet) : Statement (.streamPacket p) := by intro _ r h; cases h
theorem bulkWrite (p : Packet) : Statement (.bulkWrite p) := by intro _ r h; cases h
theorem bulkRead (p : Packet) : Statement (.bulkRead p) := by intro _ r h; cases h
theorem quickPacket (p : Packet) : Statement (.quickPacket p) := by intro _ r h; cases h
theorem boxExpiry (id : Fin 64) : Statement (.boxExpiry id) := by intro _ r h; cases h
theorem quickChannelStale : Statement .quickChannelStale := by intro _ r h; cases h
theorem objPacket (p : Packet) : Statement (.objPacket p) := by intro _ r h; cases h
theorem eventTransmit : Statement .eventTransmit := by intro _ r h; cases h
theorem svarnHLinkLoss : Statement .svarnHLinkLoss := by intro _ r h; cases h
theorem trainingAttempt (n : Fin 2) (obs : TrainObs) : Statement (.trainingAttempt n obs) := by intro _ r h; cases h
theorem trainingRetry (n : Fin 2) : Statement (.trainingRetry n) := by intro _ r h; cases h
theorem sveRetrain (r : Requester) (n : Fin 2) (fwdPs : BitVec 2) (retPs : BitVec 2) : Statement (.sveRetrain r n fwdPs retPs) := by
  intro h x e; cases e; exact h
theorem svhRetrain (r : Requester) (txPs : BitVec 2) : Statement (.svhRetrain r txPs) := by
  intro h x e; cases e; exact h
theorem svarnELinkLoss (n : Fin 2) (lockLost : Bool) : Statement (.svarnELinkLoss n lockLost) := by
  intro _ r h; cases h
theorem tileAutoRun (n : Fin 2) : Statement (.tileAutoRun n) := by intro _ r h; cases h
theorem echoReceive (n : Fin 2) (p : Packet) : Statement (.echoReceive n p) := by intro _ r h; cases h
theorem echoDeadline (n : Fin 2) : Statement (.echoDeadline n) := by intro _ r h; cases h
theorem statusReceive (n : Fin 2) (p : Packet) : Statement (.statusReceive n p) := by intro _ r h; cases h
theorem tempReceive (n : Fin 2) (p : Packet) : Statement (.tempReceive n p) := by intro _ r h; cases h
theorem tempMissing (n : Fin 2) : Statement (.tempMissing n) := by intro _ r h; cases h
theorem diagReceive (n : Fin 2) (p : Packet) : Statement (.diagReceive n p) := by intro _ r h; cases h
theorem vfReceive (n : Fin 2) (p : Packet) : Statement (.vfReceive n p) := by intro _ r h; cases h
theorem fsyncEdge (highNs : Nat) : Statement (.fsyncEdge highNs) := by intro _ r h; cases h
theorem fsyncLoss : Statement .fsyncLoss := by intro _ r h; cases h
theorem timeBaseSync (grandmaster : SyncSource) (intervalLog2 : Int) (offsetNs : Int) : Statement (.timeBaseSync grandmaster intervalLog2 offsetNs) := by
  intro _ r h; cases h
theorem timeBaseUnlockTimeout : Statement .timeBaseUnlockTimeout := by intro _ r h; cases h
theorem read (r : Requester) (d : Pdu) : Statement (.read r d) := by
  intro h x e; cases e; exact (Bool.and_eq_true_iff.mp h).1
theorem write (r : Requester) (d : Pdu) : Statement (.write r d) := by
  intro h x e; cases e; exact (Bool.and_eq_true_iff.mp h).1
theorem readInit (r : Requester) (d : Pdu) : Statement (.readInit r d) := by
  intro h x e; cases e; exact (Bool.and_eq_true_iff.mp h).1
theorem writeInit (r : Requester) (d : Pdu) : Statement (.writeInit r d) := by
  intro h x e; cases e; exact (Bool.and_eq_true_iff.mp h).1
theorem segment (r : Requester) (d : Pdu) : Statement (.segment r d) := by
  intro h x e; cases e; exact (Bool.and_eq_true_iff.mp h).1
theorem segmentLast (r : Requester) (d : Pdu) : Statement (.segmentLast r d) := by
  intro h x e; cases e; exact (Bool.and_eq_true_iff.mp h).1
theorem abort (r : Requester) (d : Pdu) : Statement (.abort r d) := by
  intro h x e; cases e; exact (Bool.and_eq_true_iff.mp h).1
theorem segTimeout (c : Carrier) : Statement (.segTimeout c) := by intro _ r h; cases h
theorem busyResponse (c : Carrier) : Statement (.busyResponse c) := by intro _ r h; cases h
theorem twinTelegram (c : Carrier) (copy : TwinCopy) : Statement (.twinTelegram c copy) := by intro _ r h; cases h
theorem twinWindowExpiry : Statement .twinWindowExpiry := by intro _ r h; cases h
theorem twinTimeout : Statement .twinTimeout := by intro _ r h; cases h
theorem eventTelegram (c : Carrier) : Statement (.eventTelegram c) := by intro _ r h; cases h
theorem unlock (r : Requester) (password : List Byte) : Statement (.unlock r password) := by
  intro h x e; cases e; exact (Bool.and_eq_true_iff.mp h).1
theorem lock (r : Requester) : Statement (.lock r) := by intro h x e; cases e; exact h
theorem pwNew (r : Requester) (password : List Byte) : Statement (.pwNew r password) := by
  intro h x e; cases e; exact (Bool.and_eq_true_iff.mp h).1
theorem unlockIdleExpiry : Statement .unlockIdleExpiry := by intro _ r h; cases h
theorem lockoutEnd : Statement .lockoutEnd := by intro _ r h; cases h
theorem lampCmdOff (r : Requester) : Statement (.lampCmdOff r) := by intro h x e; cases e; exact h
theorem lampCmdService (r : Requester) : Statement (.lampCmdService r) := by intro h x e; cases e; exact h
theorem lampCmdFallback (r : Requester) : Statement (.lampCmdFallback r) := by intro h x e; cases e; exact h
theorem lampCmdParked (r : Requester) : Statement (.lampCmdParked r) := by intro h x e; cases e; exact h
theorem lampCmdTest (r : Requester) : Statement (.lampCmdTest r) := by intro h x e; cases e; exact h
theorem lampCmdRecovery (r : Requester) : Statement (.lampCmdRecovery r) := by intro h x e; cases e; exact h
theorem testSource (r : Requester) (value : Byte) : Statement (.testSource r value) := by
  intro h x e; cases e; exact h
theorem testCtrl (r : Requester) (value : U32) : Statement (.testCtrl r value) := by intro h x e; cases e; exact h
theorem faultReportAccept (parityError : Bool) : Statement (.faultReportAccept parityError) := by intro _ r h; cases h
theorem faultAck (r : Requester) (seq : U16) : Statement (.faultAck r seq) := by intro h x e; cases e; exact h
theorem faultClear (r : Requester) (seq : U16) : Statement (.faultClear r seq) := by intro h x e; cases e; exact h
theorem bankOpen (r : Requester) (pair : Fin 8) : Statement (.bankOpen r pair) := by intro h x e; cases e; exact h
theorem swapRequest (r : Requester) (pair : Fin 8) : Statement (.swapRequest r pair) := by
  intro h x e; cases e; exact h
theorem bankCancel (r : Requester) (pair : Fin 8) : Statement (.bankCancel r pair) := by intro h x e; cases e; exact h
theorem verificationEnd (pair : Fin 8) : Statement (.verificationEnd pair) := by intro _ r h; cases h
theorem deferLimitReached (pair : Fin 8) : Statement (.deferLimitReached pair) := by intro _ r h; cases h
theorem loadFlash (r : Requester) (slot : Byte) : Statement (.loadFlash r slot) := by intro h x e; cases e; exact h
theorem openHost (r : Requester) : Statement (.openHost r) := by intro h x e; cases e; exact h
theorem closeHost (r : Requester) : Statement (.closeHost r) := by intro h x e; cases e; exact h
theorem packLoadEnd (flash : FlashRead) : Statement (.packLoadEnd flash) := by intro _ r h; cases h
theorem activate (r : Requester) : Statement (.activate r) := by intro h x e; cases e; exact h
theorem activateTimeout : Statement .activateTimeout := by intro _ r h; cases h
theorem packCancel (r : Requester) : Statement (.packCancel r) := by intro h x e; cases e; exact h
theorem schedStart (r : Requester) (frame : U32) : Statement (.schedStart r frame) := by intro h x e; cases e; exact h
theorem schedStop (r : Requester) : Statement (.schedStop r) := by intro h x e; cases e; exact h
theorem scheduledCommit : Statement .scheduledCommit := by intro _ r h; cases h
theorem calBuildStart (n : Fin 2) (trigger : BitVec 4) : Statement (.calBuildStart n trigger) := by
  intro _ r h; cases h
theorem calBuildComplete (n : Fin 2) : Statement (.calBuildComplete n) := by intro _ r h; cases h
theorem fmapCommit (r : Requester) (n : Fin 2) : Statement (.fmapCommit r n) := by intro h x e; cases e; exact h
theorem fmapRetire (r : Requester) (n : Fin 2) (x : BitVec 11) (y : BitVec 9) (emitter : BitVec 2) : Statement (.fmapRetire r n x y emitter) := by
  intro h x e; cases e; exact h
theorem fmapClear (r : Requester) (n : Fin 2) : Statement (.fmapClear r n) := by intro h x e; cases e; exact h
theorem fmapRebuild (r : Requester) (n : Fin 2) : Statement (.fmapRebuild r n) := by intro h x e; cases e; exact h
theorem faultMapReplay (n : Fin 2) : Statement (.faultMapReplay n) := by intro _ r h; cases h
theorem scanPeriodExpiry : Statement .scanPeriodExpiry := by intro _ r h; cases h
theorem agePeriodExpiry : Statement .agePeriodExpiry := by intro _ r h; cases h
theorem governorCompute : Statement .governorCompute := by intro _ r h; cases h
theorem governorScaleMissing (n : Fin 2) : Statement (.governorScaleMissing n) := by intro _ r h; cases h
theorem pmbusPoll (n : Fin 2) (answer : PmbusAnswer) : Statement (.pmbusPoll n answer) := by intro _ r h; cases h
theorem curFailLimitReached (n : Fin 2) : Statement (.curFailLimitReached n) := by intro _ r h; cases h
theorem underrunLimitReached (layer : Fin 8) : Statement (.underrunLimitReached layer) := by intro _ r h; cases h
theorem hedgeRecheck (parity : List Nat) : Statement (.hedgeRecheck parity) := by intro _ r h; cases h
theorem spareCopyEnd (spare : Fin 2) : Statement (.spareCopyEnd spare) := by intro _ r h; cases h
theorem go (r : Requester) (channel : Fin 8) : Statement (.go r channel) := by intro h x e; cases e; exact h
theorem stop (r : Requester) (channel : Fin 8) (movedBytes : Nat) : Statement (.stop r channel movedBytes) := by
  intro h x e; cases e; exact h
theorem descriptorWriteBack (channel : Fin 8) (source : FlashRead) (failAt : Nat) : Statement (.descriptorWriteBack channel source failAt) := by
  intro _ r h; cases h
theorem startMem (r : Requester) (channel : Fin 8) (alive : Byte) : Statement (.startMem r channel alive) := by
  intro h x e; cases e; exact h
theorem feedOpen (r : Requester) (channel : Fin 8) (alive : Byte) : Statement (.feedOpen r channel alive) := by
  intro h x e; cases e; exact h
theorem chkFeed (r : Requester) (channel : Fin 8) (bytes : List Byte) : Statement (.chkFeed r channel bytes) := by
  intro h x e; cases e; exact (Bool.and_eq_true_iff.mp h).1
theorem feedClose (r : Requester) (channel : Fin 8) (alive : Byte) : Statement (.feedClose r channel alive) := by
  intro h x e; cases e; exact h
theorem checkAbort (r : Requester) (channel : Fin 8) (alive : Byte) : Statement (.checkAbort r channel alive) := by
  intro h x e; cases e; exact h
theorem checkAlive (r : Option Requester) (channel : Fin 8) (alive : Byte) : Statement (.checkAlive r channel alive) := by
  intro h x e; simp only [Instr.requester] at e; subst e; exact h
theorem checkJobEnd (channel : Fin 8) (source : FlashRead) : Statement (.checkJobEnd channel source) := by
  intro _ r h; cases h
theorem regularConversionEnd (microvolts : Nat) : Statement (.regularConversionEnd microvolts) := by intro _ r h; cases h
theorem adtrigEdge (rising : Bool) (heldCycles : Nat) : Statement (.adtrigEdge rising heldCycles) := by
  intro _ r h; cases h
theorem tsensReading (raw : Int) (railCode : Bool) : Statement (.tsensReading raw railCode) := by intro _ r h; cases h
theorem thermalRestart : Statement .thermalRestart := by intro _ r h; cases h
theorem powerCmdRun (r : Requester) : Statement (.powerCmdRun r) := by intro h x e; cases e; exact h
theorem powerCmdIdle (r : Requester) : Statement (.powerCmdIdle r) := by intro h x e; cases e; exact h
theorem powerCmdSleep (r : Requester) : Statement (.powerCmdSleep r) := by intro h x e; cases e; exact h
theorem powerCmdDeep (r : Requester) : Statement (.powerCmdDeep r) := by intro h x e; cases e; exact h
theorem powerCmdDew (r : Requester) : Statement (.powerCmdDew r) := by intro h x e; cases e; exact h
theorem powerCmdOff (r : Requester) : Statement (.powerCmdOff r) := by intro h x e; cases e; exact h
theorem handshakeAnswer (found : StepFindings) : Statement (.handshakeAnswer found) := by intro _ r h; cases h
theorem wakeEvent (source : Fin 7) (decay : List (Fin 4 × Nat × Byte)) (env : BootEnv) : Statement (.wakeEvent source decay env) := by
  intro _ r h; cases h
theorem wakeAck (r : Requester) : Statement (.wakeAck r) := by intro h x e; cases e; exact h
theorem dewSample (ain : List Nat) : Statement (.dewSample ain) := by intro _ r h; cases h
theorem supplySample (supply : Fin 4) (mv : U16) : Statement (.supplySample supply mv) := by intro _ r h; cases h
theorem longDip (supply : Fin 4) : Statement (.longDip supply) := by intro _ r h; cases h
theorem clockMonitorWindow (counts : List U32) : Statement (.clockMonitorWindow counts) := by intro _ r h; cases h
theorem store (r : Requester) : Statement (.store r) := by intro h x e; cases e; exact h
theorem storeEnd (writeOk : Bool) : Statement (.storeEnd writeOk) := by intro _ r h; cases h
theorem restoreDefaults (r : Requester) : Statement (.restoreDefaults r) := by intro h x e; cases e; exact h
theorem calsetWrite (r : Requester) : Statement (.calsetWrite r) := by intro h x e; cases e; exact h
theorem calsetWriteEnd (programmed : Bool) : Statement (.calsetWriteEnd programmed) := by intro _ r h; cases h
theorem registerWrite (r : Requester) (d : Pdu) : Statement (.registerWrite r d) := by
  intro h x e; cases e; exact (Bool.and_eq_true_iff.mp h).1
theorem porstNAssert (lowNs : Nat) : Statement (.porstNAssert lowNs) := by intro _ r h; cases h
theorem svarnHLinkUp : Statement .svarnHLinkUp := by intro _ r h; cases h
theorem svarnHRxIdleEntry (deep : Bool) : Statement (.svarnHRxIdleEntry deep) := by intro _ r h; cases h
theorem svarnHRxIdleExit : Statement .svarnHRxIdleExit := by intro _ r h; cases h
theorem tsensNoConversion : Statement .tsensNoConversion := by intro _ r h; cases h
theorem handshakeTimeout : Statement .handshakeTimeout := by intro _ r h; cases h
theorem canBusOff : Statement .canBusOff := by intro _ r h; cases h
theorem plcaActiveLoss : Statement .plcaActiveLoss := by intro _ r h; cases h
theorem grandmasterSyncSend : Statement .grandmasterSyncSend := by intro _ r h; cases h
theorem safeClockReturn : Statement .safeClockReturn := by intro _ r h; cases h
theorem prbsCheckerLock (received : LaneBits) : Statement (.prbsCheckerLock received) := by intro _ r h; cases h
theorem fmapCopyEnd (n : Fin 2) (corrupt : List (Nat × Byte)) : Statement (.fmapCopyEnd n corrupt) := by
  intro _ r h; cases h
theorem scrubPass (corrected : List (Fin 48 × Nat)) (uncorrectable : List Nat) : Statement (.scrubPass corrected uncorrectable) := by
  intro _ r h; cases h
theorem injectedSequenceEnd (microvolts : List Nat) : Statement (.injectedSequenceEnd microvolts) := by
  intro _ r h; cases h

end Sys2Proof.Laws.Sender
end

