-- ==== Sys2Proof/Machine/Pins.lean ====
section
/-!
DEFINITION. Machine/Pins.lean: what each output of the device does, as a function of the state (R391, Table 19-3; R358 in the
power states below RUN). A pin that carries traffic is `driven`; what it carries stands in the packets, frames and accesses.
-/
namespace Sys2Proof.Machine

/-- A level, electrical idle of a lane pair, high impedance or an input, or the signal of the unit that drives the pin. -/
inductive PinState where
  | low | high | idle | floating | driven
  deriving DecidableEq, Repr

/-- The outputs of Table 19-3, and the pins that are inputs until their unit drives them; XIN and XOUT as the oscillator has
them, `floating` while it is off. -/
structure Pins where
  svhTx : PinState
  sveTx : Vector PinState 2
  xspClk : PinState
  xspCsN : PinState
  xspResetN : PinState
  xspDs : PinState
  xspIo : Vector PinState 8
  xtal : PinState
  canTx : PinState
  t1s : PinState
  pmb : PinState
  wakeOut : PinState
  alertN : PinState
  limpN : PinState
  fsync : PinState
  tdo : PinState
  deriving DecidableEq, Repr

/-- While PORST_N is asserted. -/
def pinsInReset : Pins :=
  { svhTx := .idle, sveTx := .replicate 2 .idle, xspClk := .low, xspCsN := .high, xspResetN := .low
    xspDs := .floating, xspIo := .replicate 8 .floating, xtal := .floating, canTx := .high
    t1s := .floating, pmb := .floating, wakeOut := .low, alertN := .floating, limpN := .low, fsync := .floating
    tdo := .floating }

/-- Power OFF: every output but WAKE_OUT undriven (R358). -/
def pinsOff : Pins :=
  { svhTx := .floating, sveTx := .replicate 2 .floating, xspClk := .floating, xspCsN := .floating, xspResetN := .floating
    xspDs := .floating, xspIo := .replicate 8 .floating, xtal := .floating, canTx := .floating, t1s := .floating, pmb := .floating, wakeOut := .low, alertN := .floating, limpN := .floating
    fsync := .floating, tdo := .floating }

/-- An access to the flash is in progress. -/
def State.flashBusy (s : State) : Bool := (s.pack.state == .loading && s.pack.source.isSome) || s.mgmt.calsetWriting

/-- The lanes of a Svarn-E link carry symbols: while it trains, and in L0 while it is UP. -/
def Link.transmits (l : Link) : Bool := l.state == .training || (l.isUp && l.fwdPs == 0)

/-- The outputs from PORST_N release on. XSP_RESET_N rises 50 µs after the release; CAN_TX and the xSPI port rest at their
released levels between frames and accesses; PMBus floats between reads. -/
def pinsReleased (testEn : Bool) (s : State) : Pins :=
  let runs := s.safety.power == .run || s.safety.power == .idle
  { svhTx := if s.net.served && s.svh.txPs == 0 then .driven else .idle
    sveTx := Vector.ofFn fun n => if (s.link n).transmits then .driven else .idle
    xspClk := if s.flashBusy then .driven else .low
    xspCsN := if s.flashBusy then .driven else .high
    xspResetN := if s.clocks.releasedAt + cyclesUs 50 ≤ s.clock then .high else .low
    xspDs := if s.flashBusy then .driven else .floating
    xspIo := .replicate 8 (if s.flashBusy then .driven else .floating)
    xtal := if s.safety.power == .deep || s.safety.power == .dew then .floating else .driven
    canTx := .high
    t1s := if s.net.served && runs then .driven else .floating
    pmb := .floating
    wakeOut := if s.aon.wakeOut then .high else .low
    alertN := if s.alertPin then .low else .floating
    limpN := if s.limpHigh then .high else .low
    fsync := if runs && s.frame.fsyncPulse then .driven else .floating
    tdo := if testEn then .driven else .floating }

/-- Every output of the device, TEST_EN at `testEn` (R391, R358). -/
def State.pins (testEn : Bool) (s : State) : Pins :=
  if s.aon.porst then pinsInReset
  else if s.safety.power = .off then pinsOff
  else pinsReleased testEn s

end Sys2Proof.Machine
end

