-- ==== Sys2Proof/Tests/Slice0.lean ====
section
/-!
SUPPORT. Tests/Slice0.lean: what WellFormed refuses, small runs of one command, and for every obligation with hypotheses a
state and operands that meet the hypotheses of each of its clauses.
-/
namespace Sys2Proof.Tests
open Sys2Proof.Machine

set_option Elab.async false

/-! ### helper states -/

/-- Out of reset, served by Gorse, in power state RUN with the lamp PARKED. -/
def live : State :=
  { State.reset with
    aon := { held := false }, net := { served := true }, clocks := { pllLocked := true }, safety := { lamp := .parked } }
/-- The same in another lamp state. -/
def lamp (l : LampState) : State := { live with safety := { live.safety with lamp := l } }
/-- The same in another power state. -/
def inPower (p : PowerState) : State := { live with safety := { live.safety with power := p } }
/-- The same with the frame grid running. -/
def ticking : State := { live with frame := { running := true, rendering := true } }
/-- The same with Svarn-H up. -/
def linked : State := { live with svh := { linkUp := true, lanesLocked := 0xF } }

/-- A requester on CAN FD that addresses the node by its reset address. -/
def host : Requester := ⟨.can, 2, 1, 7, ⟨0, none⟩⟩
/-- A request for an object with data and SEG. -/
def pdu (index : U16) (sub seg : Byte) (data : List Byte) : Pdu := ⟨index, sub, seg, w16 data.length, data, false, {}⟩
def req (cmd : Byte) (d : Pdu) : Request := { r := host, cmd := cmd, d := d }
/-- A packet of a kind that arrived whole, with its CRC-32C. -/
def packet (kind : Byte) (payload : List Byte) (flags : Byte := 0) (info : U16 := 0) (a b : U32 := 0) : Packet :=
  let p : Packet := { arrival := .whole, kind := kind, flags := flags, length := w16 payload.length, seq := 0, info := info, a := a
                      b := b, payload := payload, crc := 0 }
  { p with crc := packetCheck p }

/-- One port changed. -/
def withCan (f : Port → Port) (s : State) : State := { s with net := { s.net with can := f s.net.can } }
/-- A request in service on CAN. -/
def serving (q : Request) (a : Awaits) (s : State) : State :=
  withCan (fun p => { p with service := some { q := q, awaits := a, startedAt := 0, boundMs := 5 } }) s
/-- A transfer of BANK_ENTRY of pair 2. -/
def transfer (isWrite : Bool) (bytes : List Byte) (total : Nat) : Transfer :=
  { owner := 2, tid := 6, isWrite := isWrite, index := 0x3812, sub := 3, total := total, bytes := bytes, nextSeg := 1
    lastAt := 0, envelope := ⟨0, none⟩ }
def transferring (x : Transfer) : State := withCan (fun p => { p with transfer := some x }) live


/-! ### the machine and object access -/

theorem witness_StepRunsFront :
    ({ live with pending := [.lock host, .pllLockLoss] } : State).pending = .lock host :: [.pllLockLoss] ∧ live.pending = [] := by
  decide
theorem witness_FellLatchHolds :
    let s : State := { lamp .limp with aon := { live.aon with fell := true } }
    s.aon.fell = true ∧ s.safety.power ≠ .off ∧ s.safety.lamp = .limp ∧ exec (.lampCmdOff host) s = .next (takeRequest
      (writeOf host 0x6000 3 1 0) s) := by
  exact ⟨by decide, by decide, by decide, rfl⟩
theorem witness_FieldMemoryWrite : live.mem.wf = true ∧ ({ fm := [⟨3, 7⟩], bad := [0], flash := [] } : Mem).wf = true := by decide
theorem witness_StepKeepsMemoryCanonical : (live.mem.wf && ({ fm := [⟨3, 7⟩], bad := [], flash := [⟨0, 0⟩] } : Mem).wf) = true := by
  decide
theorem witness_StepKeepsOneActiveBank : ∀ p : Fin 8, ¬((live.bank p).bank0 = .active ∧ (live.bank p).bank1 = .active) := by
  decide

/-- A link whose tile gave a descriptor of 100 bytes. -/
def described : State := { live with links := live.links.set 0 { live.link 0 with descriptor := List.replicate 100 1 } }

theorem witness_ReadAnswered :
    live.accepts (req 1 (pdu 0x9999 1 0 [])) = true ∧ rowOf 0x9999 = none
    ∧ live.accepts (req 1 (pdu 0x4000 0xFF 0 [])) = true ∧ rowOf 0x4000 ≠ none ∧ objOf 0x4000 0xFF = none
    ∧ described.accepts (req 1 (pdu 0x4850 4 0 [])) = true ∧ objOf 0x4850 4 ≠ none
    ∧ maxData .can < ((described.noted (req 1 (pdu 0x4850 4 0 []))).objectValue .can 0x4850 4).length
    ∧ live.accepts (req 1 (pdu 0x4000 1 0 [])) = true ∧ objOf 0x4000 1 ≠ none
    ∧ ((live.noted (req 1 (pdu 0x4000 1 0 []))).objectValue .can 0x4000 1).length ≤ maxData .can := by decide +kernel

/-- A read transfer in its last piece, and one with more to come. -/
def lastPiece : Transfer := transfer false [1, 2, 3] 3
def twoPieces : Transfer := transfer false (List.replicate 57 1) 57

theorem witness_ReadTransfersAndEnds :
    live.accepts (req 3 (pdu 0x4000 1 0 [])) = true ∧ objOf 0x4000 1 ≠ none ∧ live.net.can.foreignTransfer host.src = false
    ∧ (∀ x ∈ [lastPiece, twoPieces], (transferring x).accepts (req 5 (pdu 0x3812 3 1 [])) = true
        ∧ (transferring x).net.can.transfer = some x ∧ x.owner = host.src ∧ x.isWrite = false ∧ x.nextSeg = 1)
    ∧ (transferring lastPiece).accepts (req 7 (pdu 0x3812 3 0 [0, 0, 0, 0])) = true
    ∧ (transferring lastPiece).netRuns = true ∧ (transferring lastPiece).net.can.longService = none := by decide +kernel

/-- A write transfer of all 32 bytes of BANK_ENTRY. -/
def staged (total : Nat) : State := transferring (transfer true [9] total)

theorem witness_SegmentedWrite :
    live.accepts (req 4 (pdu 0x3812 3 0 (leBytes 4 32))) = true ∧ live.writeCheck 0x3812 3 (le (leBytes 4 32)) = none
    ∧ live.initAccess (req 4 (pdu 0x3812 3 0 (leBytes 4 32))) 32 = none
    ∧ (∀ v ∈ [32, 33], live.accepts (req 4 (pdu 0x3817 3 0 (leBytes 4 v))) = true)
    ∧ live.net.can.transfer = none ∧ (staged 32).accepts (req 4 (pdu 0x3812 3 0 (leBytes 4 32))) = true
    ∧ (withCan (fun p => { p with transfer := some { transfer true [] 32 with owner := 9 } }) live).accepts
        (req 4 (pdu 0x3812 3 0 (leBytes 4 32))) = true
    ∧ (∀ k ∈ [5, 6], live.accepts (req (w8 k) (pdu 0x3812 3 1 [5])) = true ∧ (staged 32).accepts (req (w8 k) (pdu 0x3812 3 2 [5])) = true)
    ∧ (staged 32).accepts (req 5 (pdu 0x3812 3 1 [5])) = true
    ∧ (staged 3).accepts (req 6 (pdu 0x3812 3 1 [5])) = true ∧ ([9] ++ [5] : List Byte).length ≠ 3
    ∧ (staged 32).accepts (req 6 (pdu 0x3812 3 1 (List.replicate 31 5))) = true
    ∧ ([9] ++ List.replicate 31 5 : List Byte).length = 32 := by decide +kernel

theorem witness_ParameterWrites :
    live.accepts (req 2 (pdu 0x9999 1 0 [1])) = true ∧ rowOf 0x9999 = none
    ∧ live.accepts (req 2 (pdu 0x4000 0xFF 0 [1])) = true ∧ objOf 0x4000 0xFF = none
    ∧ live.accepts (req 2 (pdu 0x4001 1 0 [1])) = true ∧ (objOf 0x0100 1).map Obj.acc = some .ro
    ∧ live.accepts (req 2 (pdu 0x4000 1 0 [1, 2])) = true ∧ (objOf 0x4000 1).map Obj.acc = some .rwl
    ∧ (∀ v ∈ [(23 : Byte), 24, 80, 81], live.accepts (req 2 (pdu 0x4000 1 0 [v])) = true) ∧ live.safety.lamp = .parked
    ∧ (lamp .service).accepts (req 2 (pdu 0x4000 1 0 [40])) = true := by decide +kernel

/-- The unlock is held by the host. -/
def unlocked (s : State) : State := { s with access := { s.access with holder := some (host.carrier, host.src) } }

theorem witness_ProtectedWrite :
    live.accepts (req 2 (pdu 0x5800 7 0 (bytes16 0x8000))) = true ∧ live.access.holder ≠ some (host.carrier, host.src)
    ∧ (unlocked live).accepts (req 2 (pdu 0x5800 7 0 (bytes16 0x7FFF))) = true
    ∧ (unlocked live).accepts (req 2 (pdu 0x5800 7 0 (bytes16 0x8000))) = true
    ∧ (unlocked live).access.holder = some (host.carrier, host.src) ∧ (unlocked live).cairn.failing = false := by
  decide +kernel

/-- The host's request to another node, and to every node. -/
def elsewhere : Requester := { host with dest := 5 }
def everywhere : Requester := { host with dest := 0 }

theorem witness_RequestsNotExecuted_elsewhere :
    live.delivers { req 1 (pdu 0x4000 1 0 []) with r := elsewhere } = true ∧ elsewhere.dest ≠ 0
    ∧ elsewhere.dest ≠ live.net.nodeActive.setWidth 10
    ∧ live.delivers { req 1 (pdu 0x4000 1 0 []) with r := everywhere } = true ∧ live.net.can.longService = none
    ∧ (∀ v ∈ [(24 : Byte), 80], live.delivers { req 2 (pdu 0x4000 1 0 [v]) with r := everywhere } = true
        ∧ ({ req 2 (pdu 0x4000 1 0 [v]) with r := everywhere } : Request).use =.request) ∧ live.net.can.service = none := by
  decide +kernel

/-- A STORE in service for the host's request, and a request answered before. -/
def storing : State := serving (req 2 (pdu 0x8800 1 0 [1])) (.long .store) live
def answeredBefore : Answered := ⟨2, 2, 7, 0x4000, 1, 0, 0, some (responseTo (req 2 (pdu 0x4000 1 0 [40])) 0x82 [])⟩
def repeated (at_ : Nat) : State := { withCan (fun p => { p with answered := [answeredBefore] }) live with clock := at_ }

theorem witness_RequestsNotExecuted_busy :
    (∀ k ∈ [(2 : Byte), 7], storing.delivers (req k (pdu 0x4000 1 0 [])) = true
      ∧ (req k (pdu 0x4000 1 0 [])).use =.request)
    ∧ storing.net.can.service = some { q := req 2 (pdu 0x8800 1 0 [1]), awaits := .long .store, startedAt := 0, boundMs := 5 }
    ∧ (repeated 80000000).delivers (req 2 (pdu 0x4000 1 0 [40])) = true
    ∧ answeredBefore.isOf (req 2 (pdu 0x4000 1 0 [40])) = true
    ∧ (repeated 80000000).clock ≤ answeredBefore.arrived + cyclesMs 100 := by decide +kernel

/-- One queued event, reply and READBACK each. -/
def anEvent : Event := ⟨1, 0, [0, 0, 0, 0]⟩
def aReply : Response := responseTo (req 1 (pdu 0x4000 1 0 [])) 0x81 [40]
def aReadback : Readback := ⟨0, 0, [1, 2, 3, 4]⟩

theorem witness_EventsAndTunnel_events :
    (withCan (fun p => { p with events := [anEvent] }) live).netRuns = true
    ∧ (withCan (fun p => { p with events := [anEvent] }) live).net.can.events = [anEvent]
    ∧ (∀ x ∈ [({ linked.svh with replies := [aReply] } : SvarnH), { linked.svh with events := [anEvent] },
          { linked.svh with readbacks := [aReadback] }],
        ({ linked with svh := x }).svh.linkUp = true ∧ ({ linked with svh := x }).svhLooped = false ∧ x.txPs ≠ 2)
    ∧ live.netRuns = true ∧ live.net.served = true ∧ live.net.plcaEnable = true := by decide +kernel

/-- The host's request as an OBJ packet. -/
def svhHost : Requester := ⟨.svh, 2, 1, 7, ⟨0, none⟩⟩
def objFrame (cmd : Byte) (d : Pdu) (pad : List Byte) : Packet :=
  packet 4 ([1, 3] ++ leBytes 2 svhHost.dest.toNat ++ leBytes 2 svhHost.src.toNat ++ leBytes 2 (8 + d.data.length)
      ++ [cmd, svhHost.tid] ++ bytes16 d.index ++ [d.sub, d.seg] ++ bytes16 d.length ++ d.data ++ pad)

theorem witness_EventsAndTunnel_tunnel :
    linked.svhReceives = true ∧ (pdu 0x4000 1 0 [40]).data.length ≤ 1008
    ∧ ([0, 0, 0] : List Byte).length = (4 - (pdu 0x4000 1 0 [40]).data.length % 4) % 4 := by decide
/-- The frame of a WRITE of FRAME_DIV as R286 and Table 13-4 lay it out, byte by byte. -/
theorem test_objPacket_bytes : (objFrame 2 (pdu 0x4000 1 0 [40]) [0, 0, 0]).payload =
    [1, 3, 1, 0, 2, 0, 9, 0, 2, 7, 0, 0x40, 1, 0, 1, 0, 40, 0, 0, 0] := by decide

theorem witness_SegmentedWrite_checks :
    (∀ d ∈ [pdu 0x9999 1 0 (leBytes 4 1), pdu 0x4000 0xFF 0 (leBytes 4 1), pdu 0x0100 1 0 (leBytes 4 4), pdu 0x4000 1 0 (leBytes 4 2),
        pdu 0x4000 1 0 (leBytes 4 1)], live.accepts (req 4 d) = true ∧ (lamp .service).accepts (req 4 d) = true)
    ∧ rowOf 0x9999 = none ∧ rowOf 0x4000 ≠ none ∧ objOf 0x4000 0xFF = none ∧ (objOf 0x0100 1).map Obj.acc = some .ro
    ∧ (objOf 0x4000 1).map (fun o => (o.acc, o.ty.isDomain, o.ty.size)) = some (.rwl, false, 1)
    ∧ (lamp .service).safety.lamp ≠ .parked
    ∧ (∀ k ∈ [5, 6], (transferring { transfer true [] 32 with owner := 9 }).accepts (req (w8 k) (pdu 0x3812 3 1 [5])) = true)
    ∧ (∀ k ∈ [5, 6], (staged 32).accepts (req (w8 k) (pdu 0x3812 3 2 [5])) = true ∧ (2 : Byte) ≠ (transfer true [9] 32).nextSeg) := by
  decide +kernel

theorem witness_ParameterWrites_plain :
    (∀ x ∈ plainObjects, live.accepts (req 2 (pdu x.index x.sub 0 (leBytes x.size x.lo))) = true
      ∧ live.accepts (req 2 (pdu x.index x.sub 0 (leBytes x.size x.hi))) = true ∧ x.lo < 2 ^ (8 * x.size) ∧ x.hi < 2 ^ (8 * x.size))
    ∧ (objOf 0x0100 1).map Obj.acc = some .ro ∧ live.accepts (req 2 (pdu 0x0100 1 0 [1])) = true := by decide +kernel

/-- A frame that holds no request: one of another device's business, and one that Table 13-3 counts. -/
def response : Pdu := { pdu 0x4000 1 0 [40] with head := { func := 2 } }
def reservedFunc : Pdu := { pdu 0x4000 1 0 [40] with head := { func := 5 } }
/-- A STORE in service in a state that has answered nothing, and the host's request repeated for each command. -/
def answeredAs (k : Byte) : Answered := { answeredBefore with cmd := k, response := some (responseTo (req k (pdu 0x4000 1 0 [40])) 0x82 []) }
def repeatedAs (k : Byte) : State := { withCan (fun p => { p with answered := [answeredAs k] }) live with clock := 80000000 }

theorem witness_RequestsNotExecuted_every :
    (∀ k ∈ [(1 : Byte), 2, 3, 4, 5, 6, 7],
      live.delivers (req k response) = true ∧ (req k response).use = .ignored ∧ (req k reservedFunc).use = .counted
      ∧ live.macAccepts (req k response) = true ∧ host.dest = live.node ∧ (req k (pdu 0x4000 1 0 [40])).use = .request
      ∧ storing.delivers (req k (pdu 0x4000 1 0 [40])) = true
      ∧ (repeatedAs k).delivers (req k (pdu 0x4000 1 0 [40])) = true ∧ (answeredAs k).isOf (req k (pdu 0x4000 1 0 [40])) = true
      ∧ (repeatedAs k).clock ≤ (answeredAs k).arrived + cyclesMs 100)
    ∧ live.net.can.longService = none ∧ live.safety.power = .run ∧ live.net.romOnly = false := by decide +kernel

theorem witness_EventsAndTunnel_dropped :
    linked.svhReceives = true ∧ (packet 4 [1, 2, 3]).gap = [] ∧ (packet 4 [1, 2, 3]).kind = 4 ∧ (packet 4 [1, 2, 3]).arrival = .whole
    ∧ (packet 4 [1, 2, 3]).crc = packetCheck (packet 4 [1, 2, 3]) ∧ (packet 4 [1, 2, 3]).payload.length % 4 ≠ 0
    ∧ ({ packet 4 [1, 2, 3] with crc := 0 }).crc ≠ packetCheck (packet 4 [1, 2, 3])
    ∧ live.cairn.failing = false ∧ ({ anEvent with body := zeros 16 } : Event).body.length = 16
    ∧ linked.accepts { req 1 (pdu 0x4000 1 0 []) with r := svhHost } = true := by decide +kernel
/-- The example of 13_object_access_protocol.md: node 37 answers the write of node 5 on CAN FD. -/
theorem test_can_response :
    let s : State := { live with net := { live.net with nodeActive := 37 } }
    let q : Request := { r := ⟨.can, 5, 37, 0x11, ⟨0, none⟩⟩, cmd := 2, d := pdu 0x2122 1 0 (leBytes 4 0x01021301) }
    s.responseFrame .can (responseTo q 0x82 []) = .can 0x04001425 [0x82, 0x11, 0x22, 0x21, 1, 0, 0, 0] := by decide

/-- The grid of frame 0 one cycle before its ticket closes. -/
def aboutToClose : State := { ticking with clock := edgeOf (periodTu 40) - 1, frame := { ticking.frame with fresh := false } }
theorem witness_StepRunsFront_idle :
    live.reachesClose (live.clock + 1) = false ∧ aboutToClose.pending = [] ∧ aboutToClose.frame.closesTaken = 0
    ∧ aboutToClose.reachesClose (aboutToClose.clock + 1) = true := by decide +kernel

/-- A change-log entry, a trip record and a fault record damaged. -/
def damagedLog : State := { live with access := { live.access with log := [List.replicate 36 7], logCount := 1 } }
def damagedTrip : State := { live with tsens := { live.tsens with records := [List.replicate 32 7], recCount := 1 } }
def readOf (s : State) (i sub : Nat) : List Byte := (s.noted (req 1 (pdu (w16 i) (w8 sub) 0 []))).objectValue .can i sub
def failsCrc (v : List Byte) : Bool := decide (4 ≤ v.length) && u32At v (v.length - 4) != crc32cOf (v.take (v.length - 4))
theorem witness_ReadAnswered_damaged :
    (∀ k ∈ [1, 3], damagedLog.accepts (req k (pdu 0x6030 3 0 [])) = true ∧ damagedTrip.accepts (req k (pdu 0x7C20 5 0 [])) = true)
    ∧ (objOf 0x6030 3).isSome = true ∧ (objOf 0x7C20 5).isSome = true ∧ (readOf damagedLog 0x6030 3).length ≤ maxData .can
    ∧ failsCrc (readOf damagedLog 0x6030 3) = true ∧ failsCrc (readOf damagedTrip 0x7C20 5) = true := by decide +kernel
theorem witness_ReadInit_refused :
    live.accepts (req 3 (pdu 0x9999 1 0 [])) = true ∧ live.accepts (req 3 (pdu 0x4000 0xFF 0 [])) = true ∧ objOf 0x4000 0xFF = none
    ∧ (transferring { lastPiece with owner := 9 }).net.can.foreignTransfer host.src = true
    ∧ (transferring { lastPiece with owner := 9 }).accepts (req 3 (pdu 0x4000 1 0 [])) = true := by decide +kernel
/-- No ticket closes while the grid does not run, so that every dated command acts at its date. -/
theorem inTicket_of_no_grid (s : State) (c : Instr) (h : s.frame.running = false) : s.inTicket c := by
  intro d _; simp [State.reachesClose, State.closingEdge, h]
theorem witness_SegTimeout_in_ticket : (transferring lastPiece).inTicket (.segTimeout .can) := inTicket_of_no_grid _ _ rfl
theorem witness_SegmentedWrite_served :
    (∀ k ∈ [(5 : Byte), 6], live.accepts (req k (pdu 0x9999 1 1 [])) = true ∧ live.accepts (req k (pdu 0x4000 0xFF 1 [])) = true
      ∧ (transferring lastPiece).accepts (req k (pdu 0x3812 3 1 [5])) = true)
    ∧ live.net.can.transfer = none ∧ rowOf 0x4000 ≠ none ∧ objOf 0x3812 3 ≠ none ∧ lastPiece.owner = host.src := by decide +kernel

/-- A value that each RWP object takes. -/
def good : List Nat :=
  [5, 0, 251, 0, 0, 0, 24, 100, 0, 0, 0, 256, 256, 0, 64, 2, 0, 0, 0, 0]
    ++ [0, 0, 0, 0x8000, 6, 128, 0, 1024, 32, 32, 1, 1, 1, 2048, 128, 24, 255, 0]
def noCairn : State := let u := unlocked live; { u with cairn := { u.cairn with failing := true } }
theorem witness_ProtectedWrite_every :
    good.length = protectedObjects.length
    ∧ (∀ x ∈ protectedObjects.zip good, x.2 < 2 ^ (8 * x.1.size) ∧ x.1.takes x.2 (unlocked live) = true
      ∧ (unlocked live).accepts (req 2 (pdu x.1.index x.1.sub 0 (leBytes x.1.size x.2))) = true)
    ∧ (unlocked live).safety.lamp = .parked ∧ noCairn.access.holder = some (host.carrier, host.src)
    ∧ noCairn.accepts (req 2 (pdu 0x5800 7 0 (bytes16 0x8000))) = true := by decide +kernel

/-- A broadcast WRITE that its node has sent 100 ms before. -/
def castBefore : State := withCan (fun p => { p with answered := [{ answeredBefore with response := none }] })
  { live with clock := 80000000 }
def cast (cmd : Byte) (d : Pdu) : Request := { req cmd d with r := everywhere }
theorem witness_RequestsNotExecuted_broadcasts :
    (∀ k ∈ [(1 : Byte), 2, 3, 4, 5, 6, 7], live.delivers (cast k (pdu 0x4000 1 0 [40])) = true
      ∧ (cast k (pdu 0x4000 1 0 [40])).use = .request ∧ storing.delivers (cast k (pdu 0x4000 1 0 [40])) = true)
    ∧ live.net.can.longService = none ∧ storing.net.can.longService.isSome = true
    ∧ live.delivers (cast 2 (pdu 0x5800 7 0 [0, 0x80])) = true ∧ (objOf 0x5800 7).any (fun o => o.acc == .rwp) = true
    ∧ live.delivers (cast 2 (pdu 0x8800 1 0 [1])) = true
    ∧ castBefore.delivers (cast 2 (pdu 0x4000 1 0 [40])) = true ∧ (cast 2 (pdu 0x4000 1 0 [40])).broadcastRuns = true
    ∧ castBefore.repeats (cast 2 (pdu 0x4000 1 0 [40])) = true ∧ live.repeats (cast 2 (pdu 0x4000 1 0 [40])) = false := by
  decide +kernel
theorem witness_BusyResponse_in_ticket : storing.inTicket (.busyResponse .can) := inTicket_of_no_grid _ _ rfl


/-! ### layers -/

/-- A layer of format Y8, 64 by 2, at the very end of field memory, opaque, with colour table 0. -/
def goodConfig : LayerConfig :=
  { cfg := 0x800000FF, bufAddr := 0x2FFFF80, stride := 64, width := 64, height := 2 }
def goodInputs : CheckInputs := { ctabValid := 1 }
def goodSnap : Snapshot := { config := goodConfig, tag := 5 }
/-- The same layer one row of alignment lower than field memory allows. -/
def outside : Snapshot := { config := { goodConfig with bufAddr := 0x2FFFFA0 } }
def checking (p : Snapshot) : Check := { snap := p, inputs := goodInputs, due := 384 }
/-- Layer 3 changed. -/
def withLayer (f : Layer → Layer) (s : State) : State := s.modLayer 3 f
def commitQ (action : Nat) : Request := writeOf host 0x2132 1 4 (commitWord 5 0 0 action)

theorem test_row_of_64_ends_at_the_end : goodSnap.checkResult 3 goodInputs = 0 ∧ outside.checkResult 3 goodInputs = 8 := by
  decide

theorem witness_CommitLands :
    live.takes host 0x2132 1 4 (commitWord 5 0 0 1) = true ∧ inMask live.sched.owned 3 = false ∧ (live.layer 3).check = none
    ∧ (live.layer 3).groupMask = 0
    ∧ (withLayer (fun l => { l with check := some (checking goodSnap) }) live).takes host 0x2132 1 4 (commitWord 5 0 0 1) = true
    ∧ ({ live with sched := { live.sched with owned := 8 } }).takes host 0x2132 1 4 (commitWord 5 0 0 1) = true
    ∧ inMask 8 3 = true := by decide +kernel

/-- A commit waiting for the end of its check. -/
def waitingCommit (p : Snapshot) : State :=
  serving (commitQ 1) (.commit 3) (withLayer (fun l => { l with check := some (checking p) }) live)

theorem witness_CommitCheckEnds : ∀ p ∈ [goodSnap, outside],
    (waitingCommit p).netRuns = true ∧ ((waitingCommit p).layer 3).check = some (checking p) ∧ p.group = 0
    ∧ (checking p).overtaken = false ∧ (checking p).gate = none ∧ p.gateKind = 0
    ∧ inMask (waitingCommit p).sched.inFlight 3 = false
    ∧ (waitingCommit p).net.can.service = some { q := commitQ 1, awaits := .commit 3, startedAt := 0, boundMs := 5 }
    ∧ (commitQ 1).r.carrier = .can ∧ (commitQ 1).r.dest ≠ 0 ∧ (commitQ 1).cmd = 2 ∧ (waitingCommit p).net.can.queue = []
    ∧ (waitingCommit p).net.t1s.service = none ∧ (waitingCommit p).net.svh.service = none := by decide

/-- Layer 3 under check, nothing waiting; and layer 3 with a pending snapshot of a group. -/
def underCheck : State := withLayer (fun l => { l with check := some (checking goodSnap) }) live
def groupPending : State := withLayer (fun l => { l with pending := some { goodSnap with group := 8 } }) live

theorem witness_CheckingRefuses :
    (underCheck.layer 3).check.isSome = true ∧ underCheck.takes host 0x2132 1 4 (commitWord 5 0 0 1) = true
    ∧ underCheck.accepts (writeOf host 0x2132 1 4 (commitWord 0 0 0 2)) = true
    ∧ underCheck.accepts (writeOf host 0x2132 1 4 (commitWord 0 0 0 3)) = true
    ∧ underCheck.accepts (req 2 (pdu 0x2131 4 0 [0, 1])) = true ∧ (objOf 0x2131 4).map (fun o => o.ty.size) = some 2
    ∧ underCheck.takes host 0x2010 1 4 (0x09 * 2 ^ 24 + 5) = true ∧ inMask 9 3 = true
    ∧ groupPending.takes host 0x2010 1 4 (0x09 * 2 ^ 24 + 5) = true
    ∧ ∃ p, (groupPending.layer 3).pending = some p ∧ p.group ≠ 0 ∧ p.group ≠ 9 := by
  exact ⟨by decide, by decide +kernel, by decide +kernel, by decide +kernel, by decide +kernel, by decide +kernel,
    by decide +kernel, by decide, by decide +kernel, _, rfl, by decide, by decide⟩

theorem witness_AcceptedSnapshotInBounds : goodSnap.checkResult 3 goodInputs = 0 ∧ goodSnap.config.enable = true := by decide

theorem witness_CancelAndDiscard :
    (∀ k ∈ [2, 3], live.accepts (writeOf host 0x2132 1 4 (commitWord 0 0 0 k)) = true)
    ∧ (live.layer 3).check = none ∧ (live.layer 3).pending = none
    ∧ (withLayer (fun l => { l with pending := some goodSnap, ready := true }) live).accepts
        (writeOf host 0x2132 1 4 (commitWord 0 0 0 2)) = true
    ∧ ((withLayer (fun l => { l with pending := some goodSnap, ready := true }) live).layer 3).groupMask = 0
    ∧ (waitingCommit goodSnap |> withCan (fun p => { p with service := none })).accepts
        (writeOf host 0x2132 1 4 (commitWord 0 0 0 3)) = true := by decide +kernel

theorem witness_GroupCommitLands :
    live.takes host 0x2010 1 4 (0x09 * 2 ^ 24 + 5) = true ∧ (0x09 : Byte) &&& live.sched.owned = 0
    ∧ (∀ n, inMask 9 n = true → (live.layer n).check = none ∧ (live.layer n).groupMask = 0)
    ∧ ({ live with sched := { live.sched with owned := 8 } }).takes host 0x2010 1 4 (0x09 * 2 ^ 24 + 5) = true
    ∧ (withLayer (fun l => { l with pending := some { goodSnap with group := 8 } }) live).takes host 0x2010 1 4
        (0x09 * 2 ^ 24 + 5) = true := by decide +kernel

theorem witness_owned_and_grouped :
    (∀ k ∈ [2, 3], ({ live with sched := { live.sched with owned := 8 } }).accepts (writeOf host 0x2132 1 4 (commitWord 0 0 0 k)) = true
      ∧ underCheck.accepts (writeOf host 0x2132 1 4 (commitWord 0 0 0 k)) = true)
    ∧ (groupPending.layer 3).groupMask ≠ 0 ∧ (9 : Byte) &&& ({ live with sched := { live.sched with owned := 8 } }).sched.owned ≠ 0
    ∧ goodSnap.checkResult 3 goodInputs = 0 ∧ outside.checkResult 3 goodInputs ≠ 0 := by decide +kernel

/-- A check of layer 3 with a gate, which a window's end has met with or without an error, or not yet. -/
def gated (g : Option Bool) (n : Fin 8) (group : Byte) : Check :=
  { checking { goodSnap with gateKind := 1, gateNum := 2, group := group } with gate := g, inputs := goodInputs, due := 384 + n.val }
def waitingGate (g : Option Bool) : State :=
  serving (commitQ 1) (.commit 3) (withLayer (fun l => { l with check := some (gated g 3 0) }) live)
/-- Layers 0 and 3 of a group under check; layer 0 passes, and layer 3 has the snapshot and the gate given. -/
def waitingGroup (p : Snapshot) (g : Option Bool) : State :=
  let member (p : Snapshot) (g : Option Bool) (l : Layer) : Layer :=
    { l with check := some { checking { p with group := 9 } with gate := g } }
  serving (writeOf host 0x2010 1 4 (0x09 * 2 ^ 24 + 5)) (.group 9)
    ((withLayer (member p g) live).modLayer 0 (member goodSnap none))
def gatedSnap : Snapshot := { goodSnap with gateKind := 1, gateNum := 2 }

theorem witness_CommitCheckEnds_gates :
    (∀ g ∈ [none, some false, some true], ((waitingGate g).layer 3).check = some (gated g 3 0)
      ∧ (gated g 3 0).snap.checkResult 3 goodInputs = 0 ∧ (waitingGate g).netRuns = true ∧ (gated g 3 0).overtaken = false)
    ∧ (∀ p ∈ [goodSnap, outside, gatedSnap], ∀ g ∈ [none, some false, some true],
      ((waitingGroup p g).layer 3).check.map (fun c => (c.snap.group, c.overtaken, c.gate)) = some (9, false, g)
      ∧ ((waitingGroup p g).layer 0).check.map (fun c => (c.snap.group, c.overtaken, c.gate)) = some (9, false, none)
      ∧ inMask (waitingGroup p g).sched.inFlight 3 = false ∧ inMask (waitingGroup p g).sched.inFlight 0 = false
      ∧ (waitingGroup p g).net.can.service.map Service.awaits = some (.group 9) ∧ (waitingGroup p g).net.can.queue = [])
    ∧ outside.checkResult 3 goodInputs ≠ 0 ∧ goodSnap.checkResult 0 goodInputs = 0 := by decide +kernel
theorem witness_CommitCheckEnds_in_ticket : (waitingGate none).inTicket (.commitCheckEnd 3)
    ∧ (waitingGroup goodSnap none).inTicket (.commitCheckEnd 3) ∧ (waitingCommit goodSnap).inTicket (.commitCheckEnd 3) :=
  ⟨inTicket_of_no_grid _ _ rfl, inTicket_of_no_grid _ _ rfl, inTicket_of_no_grid _ _ rfl⟩

/-- Layer 3 waits for a gate, and layers 1 and 3 do as a group. -/
def gateWaits : State := withLayer (fun l => { l with pending := some gatedSnap }) live
def groupWaits : State :=
  (withLayer (fun l => { l with pending := some { gatedSnap with group := 10 } }) live).modLayer 1 fun l =>
    { l with pending := some { goodSnap with group := 10 }, ready := true }
theorem witness_GateEvents :
    (gateWaits.layer 3).pending = some gatedSnap ∧ (gateWaits.layer 3).ready = false ∧ (gateWaits.layer 3).groupMask = 0
    ∧ (groupWaits.layer 3).groupMask = 10 ∧ (groupWaits.layer 1).groupMask = 10 ∧ gatedSnap.gateKind = 1
    ∧ gatedSnap.gateNum = 2 := by decide


/-! ### banks, packs and schedules -/

def withBank (p : Fin 8) (f : BankPair → BankPair) (s : State) : State := s.modBank p f
def withPack (f : Pack → Pack) (s : State) : State := { s with pack := f s.pack }
/-- A BANK_ENTRY of a stamp table, with its CRC-32C. -/
def stampEntry (crc : U32) : List Byte := [3, 0xFF, 0, 0] ++ bytes32 0 ++ bytes32 1792 ++ bytes32 0 ++ bytes32 crc ++ [1, 0] ++ zeros 10
def bankQ (p k : Nat) : Request := writeOf host (0x3810 + p) 1 4 k

theorem witness_BankActions :
    (∀ p ∈ [0, 1, 7], ∀ k ∈ [1, 2], live.accepts (bankQ p k) = true) ∧ (∀ p ∈ [0, 1], live.accepts (bankQ p 3) = true)
    ∧ (∀ k ∈ [1, 2, 3], live.accepts (bankQ 5 k) = true) ∧ (live.bank 5).pending = false ∧ live.pack.state = .idle
    ∧ live.blockStopped 5 = false ∧ (live.bank 5).state (live.bank 5).inactive = .empty
    ∧ (withBank 5 (fun b => { b with bank0 := .opened, entry := stampEntry 0 }) live).accepts (bankQ 5 2) = true
    ∧ bankEntryOk 5 (entryOf (stampEntry 0)) = true
    ∧ (withBank 5 (fun b => { b with bank0 := .opened }) live).accepts (bankQ 5 2) = true
    ∧ bankEntryOk 5 (entryOf (live.bank 5).entry) = false
    ∧ (withBank 5 (fun b => { b with bank0 := .verifying, pending := true }) live).accepts (bankQ 5 1) = true
    ∧ (withBank 5 (fun b => { b with bank0 := .verifying, pending := true }) live).accepts (bankQ 5 3) = true := by
  decide +kernel

/-- The smallest stamp table that R102 accepts: FORMAT 1, distances 0 to 6, the rest 0. -/
def stampCells : List Host.Cell :=
  [(0, 1), (5, 1), (6, 2), (7, 3), (8, 4), (9, 5), (10, 6)].map fun c => (0x2FC0000 + c.1, c.2)
def stampImage : List Byte := [1, 0, 0, 0, 0, 1, 2, 3, 4, 5, 6] ++ zeros 1781
/-- Pair 5 with its inactive bank VERIFYING, with this CRC in BANK_ENTRY. -/
def verifying (crc : Nat) : State :=
  let t := withBank 5 (fun b => { b with bank0 := .verifying, pending := true, entry := stampEntry (w32 crc) }) live
  { t with mgmt := { jobs := [.bank 5] }, mem := { fm := stampCells } }

theorem witness_VerificationAndDeferral :
    (∀ crc ∈ [0, 2387395679], (verifying crc).mgmt.jobs.head? = some (.bank 5) ∧ ((verifying crc).bank 5).pending = true
      ∧ ((verifying crc).bank 5).state ((verifying crc).bank 5).inactive = .verifying
      ∧ ((verifying crc).bank 5).inGroup = false
      ∧ (verifying crc).power.supplies.toList.all (fun x => !x.warn) = true ∧ (verifying crc).verifyBad 5 = []
      ∧ (verifying crc).safety.power = .run)
    ∧ (withBank 5 (fun b => { b with pending := true, deferRun := 240 }) live |>.bank 5).pending = true
    ∧ live.pack.deferLimit.toNat ≤ (withBank 5 (fun b => { b with pending := true, deferRun := 240 }) live |>.bank 5).deferRun
    ∧ (withBank 5 (fun b => { b with pending := true, deferRun := 240 }) live |>.bank 5).deferReported = false := by
  decide +kernel

theorem witness_PackOpenAndClose :
    live.blockStopped 5 = false ∧ live.pack.boot = false ∧ live.pack.state = .idle
    ∧ (∀ p : Fin 8, 2 ≤ p.val → (live.bank p).pending = false)
    ∧ (∀ k ∈ [1, 2, 3, 5 * 2 ^ 8 + 1, 6 * 2 ^ 8 + 1], live.accepts (writeOf host 0x3800 1 4 k) = true)
    ∧ ({ live with clocks := { live.clocks with flashSize := 0x40000 } }).slotInFlash 5 = true ∧ live.slotInFlash 0 = false
    ∧ (withBank 6 (fun b => { b with pending := true }) live).accepts (writeOf host 0x3800 1 4 2) = true
    ∧ (withPack (fun p => { p with state := .opened }) live).accepts (writeOf host 0x3800 1 4 3) = true := by decide +kernel

/-- A pack of one CONTENT body of 32 zero bytes at the start of field memory, as a host leaves it in the staging window. -/
def packEntry : List Byte := [5, 0xFF, 0, 0] ++ bytes32 96 ++ bytes32 32 ++ bytes32 0 ++ bytes32 0x8A9136AA ++ zeros 12
def packHead : List Byte :=
  [0x41, 0x46, 0x4C, 0x53] ++ [1, 0, 64, 0] ++ bytes32 128 ++ [1, 0, 0, 0] ++ bytes32 0x77 ++ [3, 0] ++ [0xFF, 0xFF]
    ++ zeros 8 ++ bytes32 64 ++ bytes32 3790749494 ++ zeros 20
def packBytes : List Byte := packHead ++ bytes32 2143899989 ++ packEntry
/-- The load of an image in the staging window. -/
def loading (image : List Byte) : State :=
  withPack (fun p => { p with state := .loading, signedOnly := false }) { live with mem := { fm := cellWrite fmReset [] stagingStart image } }
def packEntries : List DirEntry := [entryOf packEntry]

/-- A CRC taken in two pieces. -/
theorem crc32c_split (a b : List Byte) (r : U64) (h : crcFeed crc32c (crcInit crc32c) a = r) :
    crc32cOf (a ++ b) = (crcFinish crc32c (crcFeed crc32c r b)).setWidth 32 := by
  subst h; simp [crc32cOf, crcOf, crcFeed, List.foldl_append]
theorem crc_zeros : crc32cOf (zeros 32) = 0x8A9136AA := by decide +kernel
theorem crc_packEntry : crc32cOf packEntry = 3790749494 := by decide +kernel
theorem crc_packHead_first : crcFeed crc32c (crcInit crc32c) (packHead.take 30) = 3712794061 := by decide +kernel
theorem crc_packHead : crc32cOf packHead = 2143899989 := by
  rw [← List.take_append_drop 30 packHead, crc32c_split _ _ _ crc_packHead_first]; decide +kernel

theorem packImage_head : (loading packBytes).imageHead 0 64 = packHead ++ bytes32 2143899989 := by decide +kernel
theorem packImage_dir : (loading packBytes).imageHead 64 32 = packEntry := by decide +kernel
theorem packImage_ok : headerResult ((loading packBytes).imageHead 0 64) ((loading packBytes).imageHead 64 32) = 0 := by
  have h : (packHead ++ bytes32 2143899989).take 0x3C = packHead := by decide +kernel
  rw [packImage_head, packImage_dir, headerResult, h, crc_packHead, crc_packEntry]; decide +kernel

theorem witness_PackLoadEnds :
    (∀ image ∈ [[], [0x41, 0x46, 0x4C, 0x53], packBytes], (loading image).gorse = true ∧ (loading image).pack.state = .loading
      ∧ (loading image).pack.boot = false ∧ (loading image).pack.source = none ∧ (loading image).mem.bad = [])
    ∧ ((loading []).imageHead 0 64).take 4 ≠ [0x41, 0x46, 0x4C, 0x53]
    ∧ ((loading [0x41, 0x46, 0x4C, 0x53]).imageHead 0 64).take 4 = [0x41, 0x46, 0x4C, 0x53]
    ∧ u16At ((loading [0x41, 0x46, 0x4C, 0x53]).imageHead 0 64) 4 ≠ 1
    ∧ min (u16At ((loading packBytes).imageHead 0 64) 0xC).toNat 64 = 1
    ∧ (loading packBytes).directoryResult ((loading packBytes).imageHead 0 64) packEntries = (0, 0xFF)
    ∧ u16At ((loading packBytes).imageHead 0 64) 0xE = 0 ∧ (loading packBytes).pack.signedOnly = false
    ∧ (∀ e ∈ packEntries, (loading packBytes).fmRead ((loading packBytes).loadAddress e) e.length.toNat = zeros 32
        ∧ e.crc = 0x8A9136AA)
    ∧ (withPack (fun p => { p with source := some 0 }) (loading [])).pack.source.isSome = true := by decide +kernel

/-- A loaded pack that names the stamp table. -/
def loaded : State :=
  withBank 5 (fun b => { b with bank0 := .opened })
    (withPack (fun p => { p with state := .loaded, directory := [entryOf (stampEntry 0)] }) live)
def activating : State :=
  withBank 5 (fun b => { b with bank0 := .verifying, pending := true, inGroup := true })
    (withPack (fun p => { p with state := .activating, activateCloses := 60 }) live)

theorem witness_Activation :
    live.accepts (writeOf host 0x3800 1 4 4) = true ∧ live.pack.state = .idle ∧ live.pack.boot = false
    ∧ loaded.accepts (writeOf host 0x3800 1 4 4) = true ∧ loaded.pack.directory.all (fun e => e.kind != 5) = true
    ∧ loaded.namedPairs = [5] ∧ (loaded.bank 5).state (loaded.bank 5).inactive = .opened
    ∧ live.accepts (writeOf host 0x3800 1 4 5) = true ∧ loaded.accepts (writeOf host 0x3800 1 4 5) = true
    ∧ (∀ p, (loaded.bank p).inGroup = false)
    ∧ activating.pack.state = .activating ∧ activating.pack.activateTimeout.toNat ≤ activating.pack.activateCloses
    ∧ activating.net.can.queue = [] ∧ activating.net.t1s.queue = [] ∧ activating.net.svh.queue = [] := by decide +kernel

/-- An active schedule with one entry for layer 3, three frames after its start. -/
def schedule (loop : Byte) : List Byte :=
  [1, 0, 1, 0] ++ bytes32 10 ++ [loop] ++ zeros 7 ++ bytes32 3 ++ [3, 0] ++ [9, 0] ++ zeros 40
def scheduled (run : Bool) (slot : Nat) : State :=
  let t := withBank 7 (fun b => { b with bank0 := .active }) { live with mem := { fm := cellWrite fmReset [] 0x2FD0000 (schedule 0) } }
  { t with frame := { t.frame with slot := slot, number := 22 }, sched := { t.sched with running := run, passStart := 20 } }

theorem witness_Schedules :
    (scheduled false 0).takes host 0x3830 1 4 24 = true ∧ ((scheduled false 0).bank 7).activeBank.isSome = true
    ∧ (scheduled false 0).takes host 0x3830 1 4 23 = true
    ∧ (scheduled false 0).schedLayers &&& (scheduled false 0).essential = 0 ∧ (scheduled false 0).schedLayers = 8
    ∧ ({ scheduled false 0 with essential := 8 }).takes host 0x3830 1 4 24 = true
    ∧ live.takes host 0x3830 2 1 1 = true ∧ live.sched.running = false ∧ (scheduled true 0).takes host 0x3830 2 1 1 = true
    ∧ live.dueEntries = [] ∧ (scheduled true 36).dueEntries.length = 1 ∧ (scheduled true 36).sched.running = true
    ∧ ((scheduled true 36).layer 3).check = none ∧ ((scheduled true 36).layer 3).groupMask = 0 := by decide +kernel

/-- Gorse stopped at step 5 of a handshake; the frame grid at work; a bank with a valid or failed swap pending; an activation that
names the kinds in `ks`. -/
def stopped5 (s : State) : State := { s with power := { s.power with target := some .sleep, step := 6, stopped := [2, 3, 4, 5] } }
def ticked (s : State) : State := { s with frame := { s.frame with running := true, fresh := false, rendering := true } }
def swapping (p : Fin 8) (group : Bool) (st : BankState) (s : State) : State :=
  withBank p (fun b => { b with bank0 := .active, bank1 := st, pending := true, inGroup := group }) s
def activatingOf (ks : List Byte) (s : State) : State :=
  withPack (fun p => { p with state := .activating, directory := ks.map fun k => { entryOf (stampEntry 0) with kind := k } }) s

theorem witness_VerificationAndDeferral_close :
    (∀ s ∈ [ticked (swapping 5 false .valid live), ticked (swapping 5 false .failed live),
        ticked (activatingOf [3] (swapping 5 true .valid live)), ticked (activatingOf [3, 4] (swapping 5 true .valid live))],
      s.frame.running = true ∧ s.frame.fresh = false ∧ s.frame.nextNumber = none ∧ s.net.can.queue = [] ∧ s.net.t1s.queue = []
      ∧ s.net.svh.queue = [] ∧ (s.bank 5).pending = true ∧ s.frame.closesTaken = 0)
    ∧ (ticked (activatingOf [3, 4] live)).namedPairs = [5, 6] ∧ ((ticked live).bank 5).pending = false := by decide +kernel

/-- A load from flash of an image whose header does not pass. -/
def flashHead : State :=
  withPack (fun p => { p with source := some 0 }) { loading [] with mem := { flash := cellWrite flashReset [] 0x1000000 [0, 1] } }
theorem witness_PackLoadEnds_flash :
    flashHead.gorse = true ∧ flashHead.pack.state = .loading ∧ flashHead.pack.boot = false ∧ flashHead.pack.source = some 0
    ∧ headerResult (flashHead.imageHead 0 64) [] ≠ 0 ∧ flashHead.mem.wf = true := by decide +kernel

/-- A loaded pack with a CONTENT body of 32 zero bytes whose CRC-32C is not the entry's; activations that a host may cancel. -/
def badContent : State := withPack (fun p => { p with directory := [entryOf packEntry, { entryOf packEntry with crc := 5 }] }) loaded
def asked : State := serving (writeOf host 0x3800 1 4 4) (.long .activate) activating
theorem witness_Activation_content :
    badContent.accepts (writeOf host 0x3800 1 4 4) = true ∧ badContent.blockStopped 5 = false ∧ badContent.pack.state = .loaded
    ∧ badContent.pack.directory[1]? = some { entryOf packEntry with crc := 5 } ∧ (entryOf packEntry).kind = 5
    ∧ badContent.fmRead (entryOf packEntry).dest.toNat (entryOf packEntry).length.toNat = zeros 32
    ∧ (entryOf packEntry).crc = 0x8A9136AA ∧ (∀ p, (badContent.bank p).inGroup = false) := by decide +kernel
theorem witness_Activation_cancel :
    activating.accepts (writeOf host 0x3800 1 4 5) = true ∧ activating.blockStopped 5 = false
    ∧ asked.net.can.service = some { q := writeOf host 0x3800 1 4 4, awaits := .long .activate, startedAt := 0, boundMs := 5 }
    ∧ asked.net.can.queue = [] ∧ (writeOf host 0x3800 1 4 4).r.carrier = .can ∧ (writeOf host 0x3800 1 4 4).cmd = 2
    ∧ (∀ p : Fin 8, p.val < 2 → (activating.bank p).inGroup = false)
    ∧ ∀ k ∈ [4, 5], (stopped5 live).accepts (writeOf host 0x3800 1 4 k) = true ∧ (stopped5 live).blockStopped 5 = true := by decide +kernel
theorem witness_Schedules_stopped :
    (stopped5 (scheduled false 0)).takes host 0x3830 1 4 24 = true ∧ (stopped5 (scheduled false 0)).blockStopped 5 = true := by
  decide +kernel

/-! The checks of a load (Table 6-9) on images of one entry. -/

def imageFirst (size : Nat) : List Byte :=
  [0x41, 0x46, 0x4C, 0x53, 1, 0, 64, 0] ++ bytes32 (w32 size) ++ [1, 0, 0, 0] ++ bytes32 0x77 ++ [3, 0, 0xFF, 0xFF] ++ zeros 6
def imageHeader (size : Nat) (dirCrc : U32) : List Byte := imageFirst size ++ (zeros 2 ++ bytes32 64 ++ bytes32 dirCrc ++ zeros 20)
def imageEntry (kind target : Byte) (off len dest : Nat) (crc : U32) (version : Byte) : List Byte :=
  [kind, target, 0, 0] ++ leBytes 4 off ++ leBytes 4 len ++ leBytes 4 dest ++ bytes32 crc ++ [version, 0] ++ zeros 10
/-- An image: its length, the CRC-32C of directory and header, and its entry. -/
structure Image where
  size : Nat
  dirCrc : U32
  headCrc : U32
  entry : List Byte
def Image.head (x : Image) : List Byte := imageHeader x.size x.dirCrc ++ bytes32 x.headCrc
/-- The load of it, its bodies being zeros. -/
def Image.load (x : Image) : State := loading (x.head ++ x.entry)
def zeroCrc : U32 := 0x8A9136AA
def soundImage : Image := ⟨128, 3790749494, 2143899989, imageEntry 5 0xFF 96 32 0 zeroCrc 0⟩
def looseImage : Image := ⟨128, 1210082902, 521110635, imageEntry 5 0xFF 65 32 0 zeroCrc 0⟩
def versionImage : Image := ⟨128, 3498306310, 1275456233, imageEntry 5 0xFF 96 32 0 zeroCrc 1⟩
def meshImage : Image := ⟨17156, 2954411697, 609439273, imageEntry 1 0 96 17060 0 0 1⟩
def destImage : Image := ⟨128, 2616844277, 1722950787, imageEntry 5 0xFF 96 32 16 zeroCrc 0⟩
def bodyImage : Image := ⟨128, 3204857456, 2642437079, imageEntry 5 0xFF 96 32 0 5 0⟩

/-- Header and directory of an image pass checks 1 to 3 where their CRC-32C hold and the rest of the header does. -/
theorem Image.head_ok (x : Image) (r : U64) (hf : crcFeed crc32c (crcInit crc32c) (imageFirst x.size) = r)
    (hh : (crcFinish crc32c (crcFeed crc32c r (zeros 2 ++ bytes32 64 ++ bytes32 x.dirCrc ++ zeros 20))).setWidth 32 = x.headCrc)
    (he : crc32cOf x.entry = x.dirCrc) (ht : x.head.take 0x3C = imageHeader x.size x.dirCrc)
    (hr : x.head.take 4 = [0x41, 0x46, 0x4C, 0x53] ∧ u32At x.head 0x3C = x.headCrc ∧ u16At x.head 4 = 1 ∧ u16At x.head 6 = 64
      ∧ u32At x.head 0x20 = 64 ∧ u16At x.head 0xE = 0 ∧ allZero (slice x.head 0x2C 16) = true ∧ u16At x.head 0xC = 1
      ∧ u32At x.head 0x24 = x.dirCrc) : headerResult x.head x.entry = 0 := by
  have hc : crc32cOf (imageHeader x.size x.dirCrc) = x.headCrc := by rw [imageHeader, crc32c_split _ _ r hf, hh]
  obtain ⟨a, b, c, d, e, f, g, k, m⟩ := hr
  simp [headerResult, ht, hc, he, a, b, c, d, e, f, g, k, m]

theorem first128 : crcFeed crc32c (crcInit crc32c) (imageFirst 128) = 3712794061 := by decide +kernel
theorem first17156 : crcFeed crc32c (crcInit crc32c) (imageFirst 17156) = 247006104 := by decide +kernel
theorem soundImage_ok : headerResult soundImage.head soundImage.entry = 0 :=
  soundImage.head_ok _ first128 (by decide +kernel) (by decide +kernel) (by decide +kernel) (by decide +kernel)
theorem looseImage_ok : headerResult looseImage.head looseImage.entry = 0 :=
  looseImage.head_ok _ first128 (by decide +kernel) (by decide +kernel) (by decide +kernel) (by decide +kernel)
theorem versionImage_ok : headerResult versionImage.head versionImage.entry = 0 :=
  versionImage.head_ok _ first128 (by decide +kernel) (by decide +kernel) (by decide +kernel) (by decide +kernel)
theorem meshImage_ok : headerResult meshImage.head meshImage.entry = 0 :=
  meshImage.head_ok _ first17156 (by decide +kernel) (by decide +kernel) (by decide +kernel) (by decide +kernel)
theorem destImage_ok : headerResult destImage.head destImage.entry = 0 :=
  destImage.head_ok _ first128 (by decide +kernel) (by decide +kernel) (by decide +kernel) (by decide +kernel)
theorem bodyImage_ok : headerResult bodyImage.head bodyImage.entry = 0 :=
  bodyImage.head_ok _ first128 (by decide +kernel) (by decide +kernel) (by decide +kernel) (by decide +kernel)
/-- The body of the entry of each, and what checks 4 to 9 make of it in the states that a check needs. -/
theorem witness_PackLoadEnds_checks :
    (∀ x ∈ [soundImage, looseImage, versionImage, meshImage, destImage, bodyImage], x.load.gorse = true ∧ x.load.pack.state = .loading
      ∧ x.load.pack.boot = false ∧ x.load.pack.source = none ∧ x.load.mem.bad = [] ∧ x.load.imageHead 0 64 = x.head
      ∧ x.load.imageHead 64 32 = x.entry ∧ u16At x.head 0xC = 1)
    ∧ (∀ x ∈ [(looseImage, 0x34, 0), (versionImage, 0x35, 0), (meshImage, 0x36, 0), (destImage, 0x37, 0), (bodyImage, 0, 0xFF)],
      x.1.load.directoryResult x.1.head [entryOf x.1.entry] = (x.2.1, x.2.2))
    ∧ (let leases (l : Layer) : Layer := { l with lease := some ⟨16, 16, none, 0, 0⟩ }
       ∀ x ∈ [(id, (0 : Byte), (0xFF : Byte)), (fun s : State => { s with links := vput s.links 0 { (s.link 0) with descriptor := zeros 8 } }, 0x36, 0xFF),
          (fun s => s.modLayer 0 leases, 0x38, 0), (withBank 6 fun b => { b with pending := true }, 0x3B, 0xFF)],
        (x.1 soundImage.load).directoryResult soundImage.head [entryOf soundImage.entry] = (x.2.1, x.2.2))
    ∧ bodyImage.load.fmRead 0 32 = zeros 32 ∧ (entryOf bodyImage.entry).crc ≠ zeroCrc ∧ (entryOf soundImage.entry).crc = zeroCrc
    ∧ crc32cOf looseImage.entry ≠ u32At soundImage.head 0x24 ∧ u16At soundImage.head 0xE = 0
    ∧ (withPack (fun p => { p with signedOnly := true }) soundImage.load).pack.signedOnly = true := by
  decide +kernel

/-- A bank whose table meets an uncorrectable word fails its first check, whatever the table. -/
theorem verifiedAs_unreadable (s : State) (p : Fin 8)
    (h : s.badIn (bankWindow p (s.bank p).inactive).1 (s.governing p).length.toNat = true) :
    VerifiedAs s p (if p = 2 ∨ p = 3 then 0x10 else 0x39) := by
  refine ⟨fun hp => ⟨fun k hk hf hn => ?_, fun hn => absurd (.inl h) (hn 0 (by omega))⟩, fun hp => ?_, fun hp => ?_, fun hp => ?_⟩
  · cases k with
    | zero => simp [hp]
    | succ k => exact absurd (.inl h) (hn 0 (by omega))
  all_goals subst hp; exact ⟨fun _ => rfl, fun hb => absurd (.inl h) hb, fun hb => absurd (.inl h) hb⟩
/-- A pair whose bank is VERIFYING, its table unreadable; pair 7 with a schedule that holds, and with one whose LENGTH is 0. -/
def unreadable (p : Fin 8) : State :=
  let t := withBank p (fun b => { b with bank0 := .verifying, pending := true, entry := stampEntry 0 }) live
  { t with mgmt := { jobs := [.bank p] }, mem := { bad := [(bankWindow p 0).1 / 32] } }
theorem witness_VerificationAndDeferral_pairs (p : Fin 8) (hp : p = 2 ∨ p = 3 ∨ p = 5 ∨ p = 6 ∨ p = 7) :
    (unreadable p).mgmt.jobs.head? = some (.bank p) ∧ ((unreadable p).bank p).pending = true
    ∧ ((unreadable p).bank p).state ((unreadable p).bank p).inactive = .verifying ∧ ((unreadable p).bank p).inGroup = false
    ∧ (unreadable p).power.supplies.toList.all (fun x => !x.warn) = true
    ∧ VerifiedAs (unreadable p) p (if p = 2 ∨ p = 3 then 0x10 else 0x39) := by
  rcases hp with rfl | rfl | rfl | rfl | rfl <;>
    exact ⟨by decide, by decide, by decide, by decide, by decide, verifiedAs_unreadable _ _ (by decide +kernel)⟩
/-- The bank of the colour tables is VERIFYING, for the host or for a pack, table 3 being unreadable. -/
def colouring (byPack : Bool) (tables : List Byte) : State :=
  let t := withBank 4 (fun b => { b with bank0 := .verifying, pending := true, byPack := byPack }) live
  let lut (c : Byte) : DirEntry := { entryOf [] with kind := 2, target := c, length := 2112 }
  { t with
    mgmt := { jobs := [.bank 4] }, mem := { bad := [((bankWindow 4 0).1 + 2112 * 3) / 32 + 1] }
    pack := { t.pack with directory := tables.map lut } }
theorem witness_VerificationAndDeferral_tables :
    (∀ k ∈ [false, true], (colouring k [3]).mgmt.jobs.head? = some (.bank 4) ∧ ((colouring k [3]).bank 4).byPack = k
      ∧ ((colouring k [3]).bank 4).state ((colouring k [3]).bank 4).inactive = .verifying
      ∧ (colouring k [3]).power.supplies.toList.all (fun x => !x.warn) = true)
    ∧ (colouring true []).pack.directory.filter (fun e => e.kind == 2) = []
    ∧ (colouring true [3]).pack.directory.filter (fun e => e.kind == 2) = (colouring true [3]).pack.directory
    ∧ (colouring true [3]).pack.directory.length = 1
    ∧ (colouring true [3]).badIn ((bankWindow 4 0).1 + 2112 * 3) 2112 = true := by decide +kernel


/-! ### Svarn-H, the stream windows and QUICK -/

theorem witness_BadPacketsDropped : live.svhReceives = false ∧ linked.svhReceives = true := by decide

/-- Window 2 over the 64 bytes at 0x1000. -/
def windowed : State := linked.modWindow 2 fun x => { x with base := 0x1000, size := 64 }
def streamOf (flags : Byte) (off : U32) : Packet := packet 1 [1, 2, 3, 4] flags 2 off

theorem witness_StreamBuffer :
    windowed.svhReceives = true ∧ (∀ f ∈ [0, 1, 2, 3], packetWhole (streamOf (w8 f) 60) = true)
    ∧ (streamOf 3 60).payload.length = 4 ∧ (streamOf 3 60).info.toNat = 2 ∧ windowed.blockStopped 7 = false
    ∧ (windowed.window 2).opened = false ∧ (streamOf 3 60).a.toNat + 4 ≤ (windowed.window 2).size.toNat
    ∧ (windowed.window 2).size.toNat < (streamOf 3 64).a.toNat + 4
    ∧ (windowed.window 2).base.toNat + 60 + 4 ≤ tableStart ∧ windowed.mem.wf = true := by decide +kernel

/-- A BULK packet to or from an address. -/
def bulkOf (info : U16) (a : U32) (n : U32) (payload : List Byte) : Packet := packet 2 payload 0 info a n

theorem witness_BulkAccess :
    linked.svhReceives = true ∧ packetWhole (bulkOf 1 0x23FFFFC 0 [1, 2, 3, 4]) = true
    ∧ (0x23FFFFC : U32).toNat + 4 ≤ tableStart ∧ linked.mem.wf = true
    ∧ inTable 0x2400000 4 = true ∧ linked.tableWriteOk false 0x2400000 4 = false ∧ 0x2400000 + 4 ≤ fmSize
    ∧ linked.pack.refusedThisFrame = false
    ∧ packetWhole (bulkOf 2 0x2FFF800 2048 []) = true ∧ 0x2FFF800 + 2048 ≤ fmSize
    ∧ linked.badWords 0x2FFF800 2048 = [] := by decide +kernel

/-- A QUICK packet with sequence number `seq` and one record. -/
def quickOf (seq : U16) (b : List Byte) : Packet := packet 3 ([1, 1] ++ bytes16 seq ++ zeros 4 ++ [9, 0, 0, 0, 0, 0, 0, 0] ++ b)
/-- A BOX record for ID 63 with the widest azimuths that R100 allows, and one with its edges exchanged. -/
def boxRecord (left right : Int) : List Byte :=
  [1, 63, 7, 0] ++ bytes16 (BitVec.ofInt 16 left) ++ bytes16 (BitVec.ofInt 16 right) ++ bytes16 640 ++
    bytes16 (BitVec.ofInt 16 (-639)) ++ [0, 0, 0, 0]
def levelRecord (v : Int) : List Byte := [3, 0, 0, 0] ++ bytes16 (BitVec.ofInt 16 v) ++ zeros 10
/-- The quick channel is fresh, and LAST_SEQ is the largest. -/
def freshQuick : State := { linked with stamp := { linked.stamp with stale := false, lastSeq := 0xFFFF, acceptedAt := some 0 } }
def boxed (since : Nat) : State :=
  { linked with stamp := { linked.stamp with
      samples := 1, live := vput linked.stamp.live 63 (some ⟨0, 0, 0, 1, 1, 0, 0, 0, 0, 0, 5, since⟩) } }

theorem witness_QuickRecords :
    (∀ x ∈ [0, 0xFFFF], packetWhole (quickOf (w16 x) (boxRecord (-2560) 2559)) = true
      ∧ headerReserved (quickOf (w16 x) (boxRecord (-2560) 2559)) = false)
    ∧ (quickOf 0 (boxRecord (-2560) 2559)).payload = [1, 1] ++ slice (quickOf 0 (boxRecord (-2560) 2559)).payload 2 2
        ++ [0, 0, 0, 0] ++ slice (quickOf 0 (boxRecord (-2560) 2559)).payload 8 8 ++ boxRecord (-2560) 2559
    ∧ (boxRecord (-2560) 2559).length = 16 ∧ boxOk (boxRecord (-2560) 2559) = true ∧ boxOk (boxRecord 2559 2559) = false
    ∧ (levelRecord (-4096)).length = 16 ∧ (levelRecord 4096) = [3, 0, 0, 0] ++ bytes16 4096 ++ zeros 10
    ∧ freshQuick.stamp.stale = false ∧ u16At (quickOf 0 []).payload 2 = freshQuick.stamp.lastSeq + 1
    ∧ u16At (quickOf 0xFFFF []).payload 2 = freshQuick.stamp.lastSeq ∧ linked.stamp.stale = true
    ∧ ((boxed 0).stamp.live[(63 : Fin 64)]).isSome = true ∧ freshQuick.stamp.acceptedAt = some 0 := by decide +kernel

theorem witness_SvarnHLink :
    live.aon.held = false ∧ live.net.served = true ∧ live.safety.power = .run ∧ linked.svh.linkUp = true
    ∧ linked.svh.rxPs = 0 ∧ ({ linked with svh := { linked.svh with rxPs := 1 } }).svh.rxPs = 1
    ∧ (∀ ps : BitVec 2, live.takes host 0x4800 1 4 (ps.toNat * 2 ^ 8 + 1) = true) := by decide +kernel

theorem witness_BadPacketsDropped_each :
    ({ quickOf 1 [] with crc := 1 }).arrival = .whole ∧ ({ quickOf 1 [] with crc := 1 }).crc ≠ packetCheck { quickOf 1 [] with crc := 1 }
    ∧ (∀ k ∈ [0, 5], (packet (w8 k) [1, 2, 3, 4]).crc = packetCheck (packet (w8 k) [1, 2, 3, 4])) := by decide +kernel

/-- Window 2 disabled; every event enabled; a table write already refused in the frame. -/
def emptyWindow : State := windowed.modWindow 2 fun x => { x with size := 0 }
def masked : State := { linked with net := { linked.net with svh := { linked.net.svh with eventMask := 0xFF } } }
def refusedOnce : State := withPack (fun p => { p with refusedThisFrame := true }) masked
def stopped7 : State := { linked with power := { linked.power with target := some .sleep, step := 8, stopped := [7] } }
/-- A BULK packet with FLAGS [0]. -/
def bulkAck (info : U16) (a n : U32) (payload : List Byte) : Packet := packet 2 payload 1 info a n

theorem witness_StreamBuffer_empty :
    emptyWindow.svhReceives = true ∧ (emptyWindow.window 2).size = 0 ∧ packetWhole (streamOf 0 60) = true ∧ (streamOf 0 60).kind = 1
    ∧ emptyWindow.blockStopped 7 = false ∧ (streamOf 3 60).b = 0 ∧ (streamOf 3 60).gap = [] := by decide +kernel
theorem witness_BulkAccess_ack :
    (∀ p ∈ [bulkAck 1 0x23FFFFC 0 [1, 2, 3, 4], bulkAck 1 0x2400000 0 [1, 2, 3, 4], bulkAck 1 0x1002 0 [1, 2, 3, 4],
        bulkAck 3 0x1000 0 [], bulkAck 2 0x2FFF800 (7 * 65536 + 2048) [], bulkAck 2 0x2FFF804 (7 * 65536 + 2048) []],
      packetWhole p = true ∧ p.kind = 2 ∧ p.gap = [] ∧ p.flags = 1 ∧ p.info.toNat < 256)
    ∧ masked.svhReceives = true ∧ masked.net.svh.eventMask.getLsbD 3 = true ∧ masked.svh.txPs ≠ 2 ∧ masked.svh.events.length < 64
    ∧ refusedOnce.svhReceives = true ∧ refusedOnce.pack.refusedThisFrame = true ∧ refusedOnce.tableWriteOk false 0x2400000 4 = false
    ∧ (7 * 65536 + 2048 : U32) = w32 ((7 : U16).toNat * 2 ^ 16 + 2048) ∧ fmSize < 0x2FFF804 + 2048 := by decide +kernel
theorem witness_SvarnHLink_stopped :
    stopped7.takes host 0x4800 1 4 1 = true ∧ stopped7.blockStopped 7 = true ∧ linked.takes host 0x4800 1 4 (3 * 2 ^ 8 + 1) = true := by
  decide +kernel

theorem packet_whole (kind : Byte) (payload : List Byte) (flags : Byte) (info : U16) (a b : U32) :
    (packet kind payload flags info a b).arrival = .whole
    ∧ (packet kind payload flags info a b).crc = packetCheck (packet kind payload flags info a b) := by
  simp [packet, packetCheck, packetHeader]
/-- One more than each limit of Table 8-5, a LENGTH that is no multiple of 4, and reserved header bits. -/
theorem witness_BadPacketsDropped_header :
    (∀ x ∈ [((1 : Byte), 2048), (2, 2048), (3, 1056), (4, 1024)], x.2 < (packet x.1 (zeros (x.2 + 4))).length.toNat
      ∧ (packet x.1 (zeros 2)).length.toNat % 4 ≠ 0)
    ∧ (packet 1 [] 4).flags.toNat = 4 ∧ (packet 1 [] 0 16).info.toNat = 16 ∧ (packet 1 [] 0 0 0 1).b ≠ 0
    ∧ (packet 2 [] 2).flags.toNat = 2 ∧ (packet 2 [] 0 256).info.toNat = 256 ∧ (packet 2 [] 0 2 0 0x1004).b.toNat / 4096 % 16 ≠ 0
    ∧ (packet 3 [] 1).flags ≠ 0 ∧ (packet 4 [] 0 1).info ≠ 0 := by decide +kernel
theorem witness_QuickRecords_in_ticket :
    (boxed 0).inTicket (.boxExpiry 63) ∧ freshQuick.inTicket .quickChannelStale :=
  ⟨inTicket_of_no_grid _ _ rfl, inTicket_of_no_grid _ _ rfl⟩


/-! ### tiles -/

/-- SHA-256 of the empty string (FIPS 180-4). -/
def emptyDigest : List Byte :=
  [0xE3, 0xB0, 0xC4, 0x42, 0x98, 0xFC, 0x1C, 0x14, 0x9A, 0xFB, 0xF4, 0xC8, 0x99, 0x6F, 0xB9, 0x24, 0x27, 0xAE, 0x41, 0xE4, 0x64,
    0x9B, 0x93, 0x4C, 0xA4, 0x95, 0x99, 0x1B, 0x78, 0x52, 0xB8, 0x55]
theorem test_sha256_empty : sha256 [] = emptyDigest := by decide +kernel

/-- The descriptor of a mono tile up to its CRC-32C (Table 8-13): 2048 by 512, 16 sectors of 512 by 128, one sensor, CUR and
FLUX all zero, T_DERATE 100 and T_MAX 120. -/
def descBody : List Byte :=
  [0x53, 0x56, 0x54, 0x44] ++ [1, 0] ++ [0, 16] ++ [0, 8, 0, 2] ++ [5, 0, 0, 0, 0, 0, 0, 0] ++ [100, 0, 120, 0] ++ [1] ++ zeros 7 ++ emptyDigest
    ++ (List.range 16).flatMap (fun i => [w8 (32 * (i % 4)), w8 (8 * (i / 4)), 32, 8]) ++ zeros 3964
def tileDesc : List Byte := descBody ++ bytes32 (crc32cOf descBody)

theorem le_leBytes4 (n : Nat) (h : n < 2 ^ 32) : le (leBytes 4 n) = n := by
  simp only [leBytes, le, BitVec.toNat_ofNat]; omega
theorem u32At_end (b : List Byte) (c : U32) : u32At (b ++ bytes32 c) b.length = c := by
  have h : (bytes32 c).length = 4 := by simp [bytes32, leBytes]
  simp only [u32At, slice, List.drop_left, ← h, List.take_length]
  rw [bytes32, le_leBytes4 _ c.isLt, BitVec.ofNat_toNat, BitVec.setWidth_eq]
theorem descBody_length : descBody.length = 0xFFC := by decide +kernel
theorem crc_at_end (b : List Byte) (n : Nat) (h : b.length = n) :
    u32At (b ++ bytes32 (crc32cOf b)) n = crc32cOf ((b ++ bytes32 (crc32cOf b)).take n) := by
  subst h; rw [u32At_end, List.take_left]
theorem tileDesc_crc : u32At tileDesc 0xFFC = crc32cOf (tileDesc.take 0xFFC) := crc_at_end descBody 0xFFC descBody_length
theorem tileDesc_head : tileDesc.length = 4096 ∧ tileDesc.take 4 = [0x53, 0x56, 0x54, 0x44] := by decide +kernel
theorem tileDesc_rest : u16At tileDesc 4 = 1 ∧ byteAt tileDesc 6 = 0 ∧ u16At tileDesc 8 = BitVec.ofNat 16 (gridX 0)
    ∧ u16At tileDesc 0xA = BitVec.ofNat 16 (gridY 0) ∧ sectorsOk tileDesc 0 = true ∧ (byteAt tileDesc 0x18).toNat = 1
    ∧ i16At tileDesc 0x14 < i16At tileDesc 0x16 := by decide +kernel
theorem tileDesc_tables : [0, 1, 2].all (fun ch => lightTableOk (slice tileDesc (0x100 + 1024 * ch) 512)
    && lightTableOk (slice tileDesc (0x300 + 1024 * ch) 512)) = true := by decide +kernel
theorem descriptor_ok (d : List Byte) (h1 : d.length = 4096) (h2 : d.take 4 = [0x53, 0x56, 0x54, 0x44])
    (h3 : u32At d 0xFFC = crc32cOf (d.take 0xFFC)) (a : u16At d 4 = 1) (b : byteAt d 6 = 0)
    (c : u16At d 8 = BitVec.ofNat 16 (gridX 0)) (e : u16At d 0xA = BitVec.ofNat 16 (gridY 0)) (f : sectorsOk d 0 = true)
    (g : (byteAt d 0x18).toNat = 1) (k : i16At d 0x14 < i16At d 0x16)
    (t : [0, 1, 2].all (fun ch => lightTableOk (slice d (0x100 + 1024 * ch) 512)
      && lightTableOk (slice d (0x300 + 1024 * ch) 512)) = true) : descriptorResult d = 0 := by
  unfold descriptorResult
  rw [if_neg (by simp [h1]), if_neg (by simp [h2, h3])]
  simp only [a, b, c, e, f, g, t, k]; decide
theorem tileDesc_ok : descriptorResult tileDesc = 0 :=
  descriptor_ok _ tileDesc_head.1 tileDesc_head.2 tileDesc_crc tileDesc_rest.1 tileDesc_rest.2.1 tileDesc_rest.2.2.1
    tileDesc_rest.2.2.2.1 tileDesc_rest.2.2.2.2.1 tileDesc_rest.2.2.2.2.2.1 tileDesc_rest.2.2.2.2.2.2 tileDesc_tables

def withLink (f : Link → Link) (s : State) : State := s.modLink 0 f
/-- Link 0 between attempts of a series. -/
def trainingLink (waiting : Bool) : State := withLink (fun l => { l with state := .training, waiting := waiting, fwdPs := 0, retPs := 0 }) live
/-- The same on a link that was up with another tile. -/
def changedTile : State := withLink (fun l => { l with everUp := true, descriptor := List.replicate 100 1 }) (trainingLink false)
/-- Link 0 up with the mono tile. -/
def upLink : Link := { state := .up, fwdPs := 0, retPs := 0, descriptor := tileDesc, everUp := true, replayed := true }
def tiled (s : State) : State := withLink (fun _ => upLink) s
def goodObs : TrainObs := ⟨true, true, true, tileDesc⟩

theorem tileDesc_serial : u64At tileDesc 0xC = 5 ∧ byteAt tileDesc 6 = 0 := by decide +kernel

theorem witness_TrainingAttempts :
    (live.link 0).state = .down ∧ ((trainingLink false).link 0).state = .training ∧ ((trainingLink false).link 0).waiting = false
    ∧ ((trainingLink false).link 0).fwdPs = 0 ∧ ((trainingLink false).link 0).retPs = 0
    ∧ goodObs.locked = true ∧ goodObs.answered = true ∧ ((trainingLink false).link 0).everUp = false
    ∧ (changedTile.link 0).everUp = true ∧ (changedTile.link 0).serial ≠ 5
    ∧ ((trainingLink true).link 0).waiting = true := by decide +kernel

theorem witness_LanesAndLoss :
    (∀ w ∈ [1, 0x101, 0x301, 0x211], live.accepts (writeOf host 0x4840 1 4 w) = true)
    ∧ (live.link 0).running = false ∧ live.blockStopped 2 = false
    ∧ (lamp .service).accepts (writeOf host 0x4840 1 4 0x101) = true
    ∧ (live.link 0).isUp = false ∧ ((tiled live).link 0).isUp = true ∧ ((tiled live).link 0).awake = true
    ∧ (tiled (lamp .service)).lightsTiles = true ∧ (lamp .service).safety.parkDue = false ∧ (lamp .service).limpHigh = true
    ∧ (tiled (lamp .service)).mayRun 0 = true := by decide +kernel

/-- STATUS in state RUN, and in LIMP. -/
def statusOf (state : Byte) : Packet := packet 0x25 (state :: zeros 31)
/-- TEMP of four sensors. -/
def tempOf (a b c d : Int) : Packet :=
  packet 0x24 (bytes16 (BitVec.ofInt 16 a) ++ bytes16 (BitVec.ofInt 16 b) ++ bytes16 (BitVec.ofInt 16 c) ++ bytes16 (BitVec.ofInt 16 d))
/-- DIAG of a first OPEN verdict at the last position. -/
def lastPos : Pos := { x := 2047, y := 511, e := 0 }
def diagOf (x : Pos) : Packet := packet 0x22 (bytes32 (posWord x ||| 0x80)) 0 1
/-- VF of the first eight reference positions of sector 15, 10 above a baseline of 100. -/
def vfOf : Packet :=
  packet 0x23 ((List.range 8).flatMap fun k => bytes32 (posWord (referencePos descBody 0 15 k)) ++ bytes32 (110 * 2 ^ 16))
def ageing : State :=
  let t := (tiled live).modDiag 0 fun d => { d with agePending := 0x8000 }
  { t with cairn := { t.cairn with tiles := [{ serial := 5, faults := [], baseline := some (List.replicate 16 (List.replicate 32 100))
                                               baseTemp := 0 }] } }

theorem witness_ReturnPackets :
    (live.link 0).isUp = false ∧ ((tiled live).link 0).isUp = true
    ∧ packetWhole (statusOf 1) = true ∧ (statusOf 1).payload.length = 32 ∧ byteAt (statusOf 1).payload 0 ≠ 3
    ∧ (byteAt (statusOf 1).payload 6).getLsbD 0 = false ∧ byteAt (statusOf 3).payload 0 = 3
    ∧ (tiled live).limpHigh = true ∧ ((tiled live).link 0).limpExpected = false
    ∧ packetWhole (tempOf 1 2 119 3) = true ∧ packetWhole (tempOf 1 2 120 3) = true
    ∧ ((tiled live).tileDiag 0).buildWait = false ∧ ((tiled live).cur 0).maxEpisode = false
    ∧ ((tiled live).link 0).tMax = 120 ∧ ((tiled live).link 0).tDerate = 100
    ∧ packetWhole (diagOf lastPos) = true ∧ lastPos.ok ((tiled live).link 0).kind = true ∧ (diagOf lastPos).info ≠ 0
    ∧ (tiled live).mem.wf = true
    ∧ (tiled live).mapCode (fmapWorking 0) (lastPos.index ((tiled live).link 0).kind) = 0 := by decide +kernel
theorem vfOf_whole : packetWhole vfOf = true := by
  have h : vfOf.payload.length = vfOf.length.toNat := by decide +kernel
  unfold packetWhole; rw [h]; simp only [vfOf, packet, packetCheck, packetHeader]; simp
theorem witness_ReturnPackets_vf :
    packetWhole vfOf = true ∧ vfOf.payload.length ≤ 256 ∧ vfOf.payload.length % 4 = 0 ∧ ageing.gorse = true
    ∧ vfSector (ageing.link 0) vfOf.payload = some 15 ∧ (ageing.tileDiag 0).agePending.getLsbD 15 = true
    ∧ (ageing.tileDiag 0).ageBaseline = false
    ∧ (ageing.tileRecord 0).bind TileRecord.baseline = some (List.replicate 16 (List.replicate 32 100))
    ∧ ageing.dvfOf 0 15 (List.replicate 32 100) (sectorSamples (ageing.link 0) 15 vfOf.payload) = some 10 := ⟨vfOf_whole, by decide +kernel⟩

/-- A zone set without zones and with one rectangle that requires the ECHO of band 4 of subframe H on tile 0. -/
def echoSet : List Byte := [1, 0, 0, 1] ++ zeros 60 ++ [2, 0, 1, 3] ++ [0, 0, 4, 0, 0, 0, 1, 0] ++ zeros 20
def echoWait (band : Byte) (got : Option Bool) : EchoWait :=
  { latch := 0x80 + band, frame := 0, at_ := 0, expected := 0x11, source := .sward, got := got }
def echoing (band : Byte) (got : Option Bool) : State :=
  withLink (fun l => { l with echo := some (echoWait band got) })
    (withBank 6 (fun b => { b with bank0 := .active }) { tiled live with mem := { fm := cellWrite fmReset [] 0x2C00000 echoSet } })
def echoOf (info : U16) (sum : U32) : Packet := packet 0x21 (bytes32 sum) 0 info

theorem witness_Echoes :
    (∀ b ∈ [3, 4, 5], ((echoing (w8 b) none).link 0).echo = some (echoWait (w8 b) none) ∧ ((echoing (w8 b) none).link 0).isUp = true)
    ∧ packetWhole (echoOf 0x84 0x11) = true ∧ (echoOf 0x84 0x11).payload.length = 4
    ∧ (echoing 4 none).clock ≤ 0 + 800 * (echoing 4 none).stile.echoDeadline.toNat
    ∧ (echoing 3 none).echoRects 0 (echoWait 3 none) = [] ∧ (echoing 5 none).echoRects 0 (echoWait 5 none) = []
    ∧ (echoing 4 none).echoRects 0 (echoWait 4 none) = [0]
    ∧ (echoing 4 (some false)).echoRects 0 (echoWait 4 (some false)) = [0]
    ∧ (echoing 4 none).stile.run[(0 : Fin 32)] + 1 < (zoneRect (echoing 4 none).zoneSet 0).missLimit.toNat := by decide +kernel

/-- An attempt whose descriptor fails its checks; a tile block stopped by the handshake; a return lane that idles. -/
def failingObs : TrainObs := { goodObs with descriptor := [1, 2, 3] }
def stopped2 : State := { live with power := { live.power with target := some .sleep, step := 3, stopped := [2] } }
def quietReturn : State := withLink (fun l => { l with retPs := 1 }) (tiled live)

theorem witness_TrainingAttempts_ends :
    descriptorResult failingObs.descriptor = 3 ∧ failingObs.locked = true ∧ failingObs.answered = true
    ∧ (live.link 0).trainAttempts.toNat = 3
    ∧ ((withLink (fun l => { l with ctrl := 0x200 }) (trainingLink false)).link 0).wantFwd = 2 := by decide +kernel
theorem witness_LanesAndLoss_stopped :
    stopped2.accepts (writeOf host 0x4840 1 4 1) = true ∧ stopped2.blockStopped 2 = true
    ∧ (lamp .service).lightsTiles = true ∧ (lamp .service).mayRun 0 = false ∧ live.lightsTiles = false := by decide +kernel
theorem witness_ReturnPackets_bad :
    (quietReturn.link 0).retPs ≠ 0 ∧ ((tiled live).link 0).retPs = 0 ∧ ({ statusOf 1 with crc := 0 }).crc ≠ packetCheck (statusOf 1)
    ∧ ((trainingLink false).link 0).isUp = false ∧ ((trainingLink false).link 0).retPs = 0
    ∧ packetWhole (packet 0x25 []) = true ∧ (packet 0x25 []).kind = 0x25 ∧ (statusOf 1).gap = [] ∧ (statusOf 1).flags = 0
    ∧ ((tiled live).link 0).descriptor ≠ [] := by decide +kernel

/-- Link 0 UP after the PARK of a thermal restart (R348), with the lamp in FALLBACK. -/
def parkedTile : State := withLink (fun l => { l with runDue := true }) (tiled (lamp .fallback))
theorem witness_ReturnPackets_restart :
    (parkedTile.link 0).isUp = true ∧ (parkedTile.link 0).retPs = 0 ∧ (parkedTile.link 0).runDue = true
    ∧ (BitVec.ofNat 4 (byteAt (statusOf 1).payload 0).toNat : BitVec 4) = 1 ∧ parkedTile.safety.lamp = .fallback
    ∧ parkedTile.mayRun 0 = true ∧ parkedTile.limpHigh = true
    ∧ ((withLink (fun l => { l with limpExpected := true }) (tiled live)).link 0).limpExpected = true
    ∧ ({ tiled live with tsens := { live.tsens with resumeDue := true } }).tsens.resumeDue = true := by decide +kernel
theorem witness_TrainingAttempts_retry :
    (trainingLink true).inTicket (.trainingRetry 0) ∧ ((trainingLink true).link 0).state = .training
    ∧ ((withLink (fun l => { l with fwdPs := 1 }) (trainingLink false)).link 0).fwdPs ≠ 0
    ∧ ((changedTile).link 0).serial ≠ u64At tileDesc 0xC ∧ changedTile.safety.lamp = .parked :=
  ⟨inTicket_of_no_grid _ _ (by decide), by decide +kernel⟩
theorem witness_LanesAndLoss_silent :
    (tiled live).inTicket (.svarnELinkLoss 0 false) ∧ (echoing 3 none).inTicket (.echoDeadline 0)
    ∧ (echoing 4 none).inTicket (.echoDeadline 0) :=
  ⟨inTicket_of_no_grid _ _ (by decide +kernel), inTicket_of_no_grid _ _ (by decide +kernel), inTicket_of_no_grid _ _ (by decide +kernel)⟩


/-! ### fault maps, calibration and ageing -/

def withDiag (f : Diag → Diag) (s : State) : State := s.modDiag 0 f
def fmapQ (k : Nat) : Request := writeOf host 0x5010 1 4 k

theorem witness_FaultMapCommands :
    live.mem.wf = true ∧ (∀ k ∈ [1, 3], (tiled live).accepts (fmapQ k) = true) ∧ ((tiled live).tileDiag 0).copying = false
    ∧ (withDiag (fun d => { d with copying := true }) live).accepts (fmapQ 1) = true
    ∧ (∀ x ∈ [0, 2047 * 2 ^ 21 + 511 * 2 ^ 12], (tiled live).accepts (fmapQ (x + 2)) = true)
    ∧ lastPos.ok ((tiled live).link 0).kind = true ∧ ((tiled live).link 0).kind ≠ 0xFF ∧ (live.link 0).kind = 0xFF
    ∧ ({ lastPos with e := 1 } : Pos).ok ((tiled live).link 0).kind = false
    ∧ (lamp .service).accepts (fmapQ 3) = true ∧ (tiled live).safety.lamp = .parked ∧ (tiled live).cairn.failing = false := by
  decide +kernel

/-- A copy in progress whose CRC-32C is that of the map, and one that meets an uncorrectable word. -/
def copying (repeated bad : Bool) : State :=
  withDiag (fun d => { d with copying := true, repeated := repeated, copyCrc := crc32cOf (live.fmRead (fmapVerified 0) 524288) })
    { tiled live with mem := { bad := if bad then [fmapVerified 0 / 32] else [] } }

theorem witness_FaultMapCopies :
    (live.tileDiag 0).copying = false ∧ ((copying false false).tileDiag 0).commitDue = false
    ∧ ((copying false false).link 0).descriptor ≠ [] ∧ mapBytes ((copying false false).link 0).kind = 524288
    ∧ (copying false false).badIn (fmapVerified 0) 524288 = false
    ∧ (copying false true).badIn (fmapVerified 0) 524288 = true ∧ ((copying false true).tileDiag 0).repeated = false
    ∧ ((copying true true).tileDiag 0).repeated = true ∧ (copying true true).safety.power = .run
    ∧ (live.link 0).descriptor = [] ∧ (tiled live).gorse = true ∧ ((tiled live).tileDiag 0).copying = false := by decide +kernel
theorem witness_FaultMapCopies_crc :
    crc32cOf ((copying false false).fmRead (fmapVerified 0) 524288) = ((copying false false).tileDiag 0).copyCrc := rfl

/-- A calibration set in flash without words, its digest that of the tile. -/
def calsetFlash : List Host.Cell :=
  cellWrite flashReset (cellWrite flashReset [] 0xA00000 ([0x43, 0x53, 0x45, 0x54, 1, 0] ++ zeros 26 ++ emptyDigest)) 0xA00FFC
    (bytes32 0x5A5AA5A5)
/-- A tile that has been scanned and has a temperature; `scanned` false leaves the scan out. -/
def buildable (scanned : Bool) : State :=
  let t := withDiag (fun d => { d with scanned := scanned }) { tiled live with mem := { flash := calsetFlash } }
  t.modCur 0 fun c => { c with tempMean := 250 }
/-- A build over its inputs. -/
def aBuild : CalBuild :=
  { temp := 250, aa := List.replicate 16 65536, codes := [], calset := true, dimRetire := 64, share := 64, tcoef := 262 }
def building : State :=
  withBank 0 (fun b => { b with bank0 := .opened })
    (withDiag (fun d => { d with building := some aBuild }) (buildable true))

theorem witness_CalibrationBuilds :
    (buildable true).gorse = true ∧ ((buildable true).link 0).descriptor ≠ []
    ∧ (withBank 0 (fun b => { b with pending := true }) (buildable true) |>.bank 0).pending = true
    ∧ ((buildable true).bank 0).pending = false ∧ ((buildable false).tileDiag 0).scanned = false
    ∧ ((buildable true).cur 0).tempMean ≠ 0x8000 ∧ ((buildable true).tileDiag 0).copying = false
    ∧ ((buildable true).tileDiag 0).commitFailed = false ∧ ((buildable true).tileDiag 0).scanned = true
    ∧ (buildable true).calsetOk 0 = true ∧ (buildable true).ageTrigger 0 = false ∧ (buildable true).tempTrigger 0 = false
    ∧ (buildable true).accepts (fmapQ 4) = true ∧ ((buildable true).tileDiag 0).building = none
    ∧ (building.tileDiag 0).building = some aBuild
    ∧ (building.bank 0).state (building.bank 0).inactive = .opened ∧ (building.mem.fm = []) := by decide +kernel
theorem test_calset_canonical : cellWf flashReset calsetFlash = true := by decide +kernel

theorem witness_PeriodicDiagnostics :
    live.safety.lamp = .parked ∧ (lamp .service).gorse = true ∧ (lamp .service).safety.lamp ≠ .off
    ∧ ((tiled (lamp .service)).link 0).isUp = true
    ∧ nextSector (((tiled (lamp .service)).link 0).allSectors &&& ~~~((tiled (lamp .service)).fencedSectors 0))
        (sectorCount ((tiled (lamp .service)).link 0).descriptor) ((tiled (lamp .service)).tileDiag 0).nextScan.toNat = some 0
    ∧ ((tiled live).modDiag 0 fun d => { d with ageBaseTemp := 200 }).gorse = true
    ∧ (((buildable true).cur 0).tempMean.toInt - (200 : U16).toInt).natAbs ≤ 50 ∧ State.reset.gorse = false := by decide +kernel

/-- The verification of the copy is next on channel 0; Gorse stopped by the handshake; a list of one entry for the tile. -/
def nextJob (s : State) : State := { s with mgmt := { s.mgmt with jobs := [.fmap 0, .bank 5] } }
def stoppedGorse (s : State) : State := { s with power := { s.power with target := some .sleep, step := 6, stopped := [5] } }
def listed : State :=
  { tiled live with cairn := { live.cairn with tiles := [{ serial := 5, faults := [replayEntry 0 7 2], baseline := none, baseTemp := 0 }] } }

theorem witness_FaultMap_jobs :
    (∀ k ∈ [1, 4], (stoppedGorse (tiled live)).accepts (fmapQ k) = true) ∧ (stoppedGorse live).blockStopped 5 = true
    ∧ live.blockStopped 5 = false ∧ (nextJob (copying false false)).mgmt.jobs.head? = some (.fmap 0)
    ∧ ((nextJob (copying true true)).tileDiag 0).copying = true ∧ live.mgmt.jobs.head? ≠ some (.fmap 0)
    ∧ (listed.tileRecord 0).map TileRecord.faults = some [replayEntry 0 7 2] ∧ listed.gorse = true
    ∧ (listed.tileDiag 0).copying = false ∧ (listed.link 0).descriptor ≠ [] ∧ listed.mem.wf = true
    ∧ entryBad 0 (replayEntry 0 7 2) = false ∧ (posOf (replayEntry 0 7 2)).index 0 = 7 ∧ 7 < calWords 0
    ∧ entryCode live.diagCfg.dimRetire.toNat (fld (replayEntry 0 7 2) 7 3) (fld (replayEntry 0 7 2) 0 7) 0 = 2 := by decide +kernel
theorem witness_CalibrationBuilds_inputs :
    ((withDiag (fun d => { d with copying := true }) (buildable true)).tileDiag 0).copying = true
    ∧ ((withDiag (fun d => { d with commitFailed := true }) (buildable true)).tileDiag 0).commitFailed = true
    ∧ (buildable true).badWords (fmapVerified 0) (mapBytes ((buildable true).link 0).kind) = []
    ∧ building.mem.wf = true := by decide +kernel


/-! ### currents and limits -/

def withCur (f : Current → Current) (s : State) : State := s.modCur 0 f
/-- A cause in force for a unit with its reaction class. -/
def inForce (unit cause : Byte) (cls : Nat) (s : State) : State :=
  { s with faults := { s.faults with queue :=
      [{ seq := 1, unit := unit, cause := cause, index := 0xFF, count := 1, frame := 0, slot := 0, age := 0, cls := cls
         inForce := true, held := [⟨unit, cause, 0xFF, cls, 0, true, false⟩] }] } }
/-- A tile whose last frame has values. -/
def framed (g : U16) (sum qui : Nat) (t : U16) : State :=
  withCur (fun c => { c with frameG := some g, frameSum := sum, frameQui := qui, tempMax := t }) (tiled live)
/-- A power controller of tile 0 at an address, and its failures in a row. -/
def pmbus (fails : Byte) (s : State) : State :=
  { s with power := { s.power with pmbAddr := s.power.pmbAddr.set 0 0x20, pmbFails := s.power.pmbFails.set 0 fails } }

theorem witness_GovernorAndSupply :
    State.reset.gorse = false ∧ (framed 0x4000 0 0 100).gorse = true ∧ (live.cur 0).frameG = none
    ∧ ((framed 0x4000 0 0 100).cur 0).frameG = some 0x4000
    ∧ (live.cur 0).govAge < 3 ∧ 3 ≤ ((withCur (fun c => { c with govAge := 3 }) live).cur 0).govAge
    ∧ live.power.pmbAddr[0] = 0 ∧ (pmbus 2 live).power.pmbAddr[0] ≠ 0 ∧ (pmbus 2 live).safety.power = .run
    ∧ (3 : Byte) ≤ satInc8 (pmbus 2 live).power.pmbFails[0] ∧ ¬(3 : Byte) ≤ satInc8 (pmbus 1 live).power.pmbFails[0] := by
  decide +kernel

/-- Tile 0 at the limit of R210, with its reaction of a class in force. -/
def limited (cls : Nat) : State :=
  inForce (unitTile 0) 0x0F cls (withCur (fun c => { c with limitRun := live.diagCfg.curFailLimit.toNat }) (tiled live))
/-- Layer 1 at its limit of underruns. -/
def starved (f : State → State) : State := f ({ live with layers := live.layers.set 1 { live.layer 1 with
  underrunRun := live.frame.underrunLimit.toNat } })

theorem witness_LimitsReached :
    (live.cur 0).tempRun < 8 ∧ 8 ≤ ((withCur (fun c => { c with tempRun := 8 }) (tiled live)).cur 0).tempRun
    ∧ ((tiled live).tileDiag 0).buildWait = false ∧ ((tiled live).link 0).descriptor ≠ []
    ∧ (BitVec.ofInt 16 ((tiled live).link 0).tMax : U16) ≠ 0x8000 ∧ ((tiled live).link 0).tDerate ≤ ((tiled live).link 0).tMax
    ∧ (live.cur 0).limitRun < live.diagCfg.curFailLimit.toNat
    ∧ live.diagCfg.curFailLimit.toNat ≤ ((limited 1).cur 0).limitRun
    ∧ (limited 1).raised (unitTile 0) 0x0F 2 = false
    ∧ ((limited 1).link 0).allSectors &&& ~~~((limited 1).fencedSectors 0) ≠ 0
    ∧ (limited 2).raised (unitTile 0) 0x0F 2 = true ∧ (limited 2).raised (unitTile 0) 0x0F 3 = false
    ∧ ((limited 2).tileDiag 0).scanRun = false ∧ (limited 3).raised (unitTile 0) 0x0F 3 = true
    ∧ (starved id).isEssential 1 = false ∧ (starved id).fencedMask.getLsbD 1 = false
    ∧ (starved id).frame.underrunLimit.toNat ≤ ((starved id).layer 1).underrunRun + natOfBool ((starved id).layer 1).underrunThisFrame
    ∧ (starved fun s => { s with essential := 2 }).isEssential 1 = true
    ∧ ¬live.frame.underrunLimit.toNat ≤ (live.layer 1).underrunRun + natOfBool (live.layer 1).underrunThisFrame := by decide +kernel

theorem witness_GovernorAndSupply_polls :
    (framed 0x4000 0 1925000 110).gorse = true ∧ ((framed 0x4000 0 1925000 110).cur 0).tempMax = 110
    ∧ ((framed 0x4000 0 1925000 110).link 0).tDerate ≤ 110 ∧ 110 < ((framed 0x4000 0 1925000 110).link 0).tMax
    ∧ (live.power.pmbSeen[(0 : Fin 2)] = false) ∧ (live.power.pmbStatus[(0 : Fin 2)] = 0)
    ∧ (pmbus 2 live).safety.power ∈ [.run, .idle] := by decide +kernel


/-! ### the frame and the time base -/

/-- Tile 0 up and lit, the grid running. -/
def gridded : State :=
  { withLink (fun l => { l with lit := true, running := true }) (tiled live) with
    frame := { running := true, fresh := false, rendering := true, alignUsed := 2, number := 9 } }
/-- A rendered band 3 of subframe H that waits for its latch. -/
def banded (src : Source) : State :=
  { withLink (fun l => { l with band := some ⟨3, false, 9, zeros 8, src⟩ }) gridded with
    safety := { gridded.safety with lamp := .service, mux := src } }
def quiet : SlotObs := ⟨0, 0, 0, [], [], [], [], []⟩

theorem witness_FrameSlots :
    live.frame.running = false ∧ gridded.frame.running = true ∧ gridded.frame.fresh = false ∧ gridded.safety.parkDue = false
    ∧ gridded.tsens.resumeDue = false ∧ (∀ n, (gridded.link n).resumeAt = none) ∧ (∀ n, (gridded.link n).echo = none)
    ∧ gridded.syncs 0 = true ∧ gridded.syncs 1 = false ∧ gridded.latches 0 3 false = false
    ∧ (banded .sward).latches 0 3 false = true ∧ latchOf 5 = some (3, false) ∧ latchOf 0 = none ∧ latchOf 67 = some (31, true)
    ∧ gridded.frame.rendering = true ∧ gridded.safety.muxNext.getD gridded.safety.mux = .dark
    ∧ renderOf 66 = some (31, true) ∧ renderOf 1 = some (0, false) ∧ (gridded.link 0).isUp = true := by decide +kernel

/-- A rectangle of one band of subframes H and L that expects constants, in the zone set and in the Hedgerow store. -/
def constSet : List Byte :=
  [1, 0, 0, 1] ++ zeros 60 ++ [1, 0, 3, 3] ++ [0, 0, 64, 0, 16, 0, 4, 0] ++ bytes32 0x12345678 ++ bytes32 0x9ABCDEF0 ++ [1, 0] ++ zeros 10
def signed (src : Source) : State :=
  let s := withBank 2 (fun b => { b with bank0 := .active }) (withBank 6 (fun b => { b with bank0 := .active })
    { gridded with mem := { gridded.mem with fm := cellWrite fmReset [] 0x2C00000 constSet } })
  { s with
    safety := { s.safety with mux := src, lamp := .service }
    hedge := { s.hedge with verified := true, rects := 1, image := [0x48, 0x44, 0x47, 0x52] ++ zeros 572 ++ constSet.drop 64 } }

theorem witness_Echoes_signatures :
    (∀ x ∈ [Source.sward, .hedgerow], (signed x).frame.running = true ∧ (signed x).frame.fresh = false
      ∧ (signed x).frame.rendering = true ∧ (signed x).safety.parkDue = false ∧ (signed x).tsens.resumeDue = false
      ∧ (signed x).mem.bad = [] ∧ (signed x).swardOn = true ∧ (signed x).meshValid 0 = true ∧ ((signed x).link 0).isUp = true
      ∧ ((signed x).link 0).denied = false ∧ (signed x).tsens.stopped = false ∧ (signed x).hedge.verified = true
      ∧ (∀ n, ((signed x).link n).resumeAt = none ∧ ((signed x).link n).echo = none) ∧ (∀ k, ((signed x).layer k).paletteBad = false))
    ∧ renderOf 5 = some (4, false) ∧ rectCount (signed .sward).zoneSet = 1 ∧ ((signed .sward).link 0).kind = 0
    ∧ (let x := zoneRect (signed .sward).zoneSet 0
       x.inBand 0 0 4 false = true ∧ x.firstBand 0 = 4 ∧ x.lastBand 0 = 4 ∧ (signed .sward).rectFenced 0 x = false)
    ∧ (let x := hedgeRect (signed .hedgerow).hedge.image 0
       hedgeKind (signed .hedgerow).hedge.image 0 = 0 ∧ x.inBand 0 0 4 false = true ∧ x.firstBand 0 = 4 ∧ x.lastBand 0 = 4) := by
  decide +kernel

/-- A zone with a cap of 1000, a floor of 500 and a stray budget of 100, over frames that FRAMES names, and a frame's sums of it. -/
def zoneBytes (flags frames : Byte) : List Byte :=
  [1, 0, 1, 0] ++ zeros 60 ++ [flags, 1, 0, frames] ++ [0, 0, 0, 0, 1, 0, 1, 0] ++ [128, 0, 0, 0] ++ bytes64 1000 ++ bytes64 500
    ++ bytes64 100 ++ zeros 24 ++ [255]
def zoned (l : LampState) (src : Source) (road stray : U64) (run : Nat) : State :=
  let s := withBank 6 (fun b => { b with bank0 := .active })
    { gridded with mem := { gridded.mem with fm := cellWrite fmReset [] 0x2C00000 (zoneBytes 0x1F 0x11) } }
  { s with
    safety := { s.safety with mux := src, lamp := l, hedgeLatched := true, testSource := 1 }
    guard := { s.guard with
      road := vput s.guard.road 0 road, stray := vput s.guard.stray 0 stray, lastSource := src, capRun := .replicate 32 run
      floorRun := .replicate 32 run, sawSward := src == .sward, sawHedgerow := src == .hedgerow } }

theorem witness_LimitsReached_zones :
    (∀ s ∈ [zoned .service .sward 1001 101 0, zoned .service .sward 1000 100 1, zoned .service .sward 499 0 0,
        zoned .fallback .hedgerow 1001 0 0, zoned .test .sward 499 0 0],
      s.frame.running = true ∧ s.frame.fresh = false ∧ (∀ n, (s.link n).echo = none) ∧ zoneCount s.zoneSet = 1
      ∧ s.safety.power = .run ∧ s.safety.lamp ≠ .start ∧ s.comparesRoad = true)
    ∧ (zoneAt (zoned .service .sward 1001 101 0).zoneSet 0).cap = 1000 ∧ (zoneAt (zoned .service .sward 1001 101 0).zoneSet 0).floor = 500
    ∧ (zoned .service .sward 1001 101 0).grade = .service ∧ (zoned .fallback .hedgerow 1001 0 0).grade = .hedgerow
    ∧ (zoned .test .sward 499 0 0).grade = .test ∧ (zoned .parked .sward 1001 0 0).comparesRoad = false := by decide +kernel

/-- Layers 1 and 2 with READY snapshots, the second of which disables its layer. -/
def readied : State :=
  let l (p : Snapshot) : Layer := { gridded.layer 1 with pending := some p, ready := true, hasBuffer := true }
  { gridded with
    layers := (gridded.layers.set 1 (l goodSnap)).set 2 (l { goodSnap with config := { goodConfig with cfg := 0xFF } }) }

theorem witness_TicketHandOver :
    live.frame.running = false ∧ readied.frame.running = true ∧ readied.frame.fresh = false ∧ readied.frame.nextNumber = none
    ∧ (readied.bank 2).pending = false ∧ (readied.bank 3).pending = false
    ∧ (∀ p, (readied.port p).service = none)
    ∧ (readied.layer 1).pending.isSome = true ∧ (readied.layer 1).ready = true
    ∧ (∀ p, (readied.layer 1).pending = some p → p.group = 0 ∧ p.config.enable = true)
    ∧ (∀ p, (readied.layer 2).pending = some p → p.config.enable = false) ∧ (readied.layer 3).pending = none := by
  refine ⟨by decide, by decide, by decide, by decide, by decide, by decide, ?_, by decide, by decide, ?_, ?_, by decide⟩
  · intro p; cases p <;> decide
  · intro p h; cases h; decide
  · intro p h; cases h; decide

/-- A follower that has received a Sync. -/
def synced (locked : Bool) (run : Nat) : State := { live with tb := { live.tb with locked := locked, lockRun := run, syncAt := some 5 } }
def master : State := { live with tb := { live.tb with priority1 := 254 } }
def afterEdge : State := { gridded with frame := { gridded.frame with fsyncAt := some 5 }, clock := 5 + 40 * 21250000 / 255 }

theorem witness_TimeBase :
    live.frame.running = false ∧ gridded.frame.alignUsed = 2 ∧ gridded.frame.fsyncAt = none ∧ afterEdge.frame.fsyncAt = some 5
    ∧ 100 * ((afterEdge.clock : Int) * 255 - 5 * 255 - afterEdge.frame.divUsed.toNat * 21250000).natAbs ≤
        afterEdge.frame.divUsed.toNat * 21250000
    ∧ (synced false 3).netRuns = true ∧ (synced false 3).tb.isGrandmaster = false ∧ (synced false 3).tb.locked = false
    ∧ (synced true 0).tb.locked = true ∧ (synced true 0).tb.syncAt = some 5 ∧ live.tb.priority1 = 255
    ∧ (master.tb.priority1 ≠ 255) ∧ master.netRuns = true := by decide +kernel

/-- Both members of a group of layers 1 and 2 READY, and one of them alone. -/
def grouped (both : Bool) : State :=
  let l (ready : Bool) : Layer := { gridded.layer 1 with pending := some { goodSnap with group := 6 }, ready := ready, hasBuffer := true }
  { gridded with layers := (gridded.layers.set 1 (l true)).set 2 (l both) }
/-- The lamp state and the demands of a state whose tiles all run. -/
def lampOf (l : LampState) (demand : BitVec 3) : State :=
  { signed .hedgerow with safety := { (signed .hedgerow).safety with lamp := l, demand := demand, testSource := 1 } }

theorem witness_FrameSlots_sources :
    (signed .sward).gateSource = .sward ∧ (signed .sward).swardOn = true ∧ ((signed .sward).link 0).lit = true
    ∧ ((signed .sward).link 0).denied = false ∧ (signed .hedgerow).gateSource = .hedgerow
    ∧ ((withLink (fun l => { l with lit := false }) (signed .sward)).link 0).lit = false
    ∧ ((signed .sward).link 1).isUp = false ∧ (∀ k, (signed .sward).layerOn 0 k = false)
    ∧ zoneCount (zoned .service .sward 5 0 0).zoneSet = 1 ∧ (zoned .service .sward 5 0 0).frame.rendering = true := by decide +kernel
theorem witness_TicketHandOver_groups :
    (∀ b, (grouped b).frame.running = true ∧ (grouped b).frame.fresh = false ∧ (grouped b).frame.nextNumber = none
      ∧ ((grouped b).bank 2).pending = false ∧ ((grouped b).bank 3).pending = false ∧ (grouped b).frame.closesTaken = 0
      ∧ ((grouped b).layer 1).pending = some { goodSnap with group := 6 }
      ∧ ((grouped b).layer 2).groupMask = 6 ∧ ((grouped b).layer 2).ready = b)
    ∧ inMask 6 1 = true ∧ inMask 6 2 = true ∧ ∀ k, inMask 6 k = true → k = 1 ∨ k = 2 := by decide +kernel
theorem witness_TicketHandOver_sources :
    (∀ l ∈ [LampState.start, .service, .fallback, .recovery, .test, .limp, .parked], (lampOf l 0).safety.mux ≠ .dark
      ∧ (lampOf l 0).frame.running = true ∧ ((lampOf l 0).bank 6).activeBank.isSome = true ∧ (lampOf l 0).safety.lamp = l)
    ∧ (gridded.bank 6).activeBank = none ∧ (lampOf .service 1).safety.demand ≠ 0
    ∧ (withLink (fun l => { l with running := false }) gridded).safety.mux = .dark
    ∧ (withLink (fun l => { l with running := false }) gridded).allRun = false := by decide +kernel
theorem witness_TimeBase_masters :
    master.tbRuns = true ∧ State.reset.tbRuns = false ∧ master.tb.priority1 ≠ 255 ∧ master.tb.priority1 < (255 : Byte)
    ∧ ¬(master.tb.priority1 < (5 : Byte)) ∧ master.tb.priority1 ≠ (5 : Byte) ∧ master.tb.syncAt = none
    ∧ live.tbRuns = true ∧ live.tb.priority1 = 255 := by decide +kernel

/-- A link that waits for its next attempt, whose date lies behind the closing edge of the ticket. -/
def retryBehind : State :=
  { trainingLink true with
    frame := { ticking.frame with fresh := false, number := 9, gridTime := 399990 * 255 - periodTu 40 }, clock := 399980 }
theorem witness_TicketHandOver_dated :
    retryBehind.dateOf (.trainingRetry 0) = some 400000 ∧ retryBehind.reachesClose 400000 = true ∧ retryBehind.frame.closesTaken = 0
    ∧ exec .ticketClose retryBehind = .next (closeTicket retryBehind)
    ∧ (closeTicket retryBehind).closeTaken.dateOf (.trainingRetry 0) = some 400000
    ∧ (closeTicket retryBehind).closeTaken.reachesClose 400000 = false
    ∧ retryBehind.closeTaken.frame.closesTaken ≠ 0 := by
  refine ⟨by decide +kernel, by decide +kernel, rfl, by simp [exec, execTicketClose, show retryBehind.frame.closesTaken = 0 from rfl],
    by decide +kernel, by decide +kernel, by decide⟩
/-- A follower of another clock of priority 5. -/
def following : State := { synced false 3 with tb := { (synced false 3).tb with gmIdentity := 9, gmPriority := 5 } }
theorem witness_TimeBase_worse :
    following.tb.isGrandmaster = false ∧ following.tb.syncAt.isSome = true ∧ following.tb.gmIdentity ≠ 7
    ∧ following.tb.gmPriority < (6 : Byte) ∧ ¬following.tb.gmPriority < (4 : Byte) ∧ following.tb.gmPriority ≠ (4 : Byte)
    ∧ following.tbRuns = true ∧ following.tb.priority1 = 255 := by decide
theorem witness_TimeBase_in_ticket :
    (synced true 0).inTicket .timeBaseUnlockTimeout ∧ master.inTicket .grandmasterSyncSend
    ∧ afterEdge.reachesClose (edgeOf (5 * 255 + 3 * periodTu afterEdge.frame.divUsed)) = true
    ∧ ({ afterEdge with frame := { afterEdge.frame with fresh := true } }).inTicket .fsyncLoss :=
  ⟨inTicket_of_no_grid _ _ rfl, inTicket_of_no_grid _ _ rfl, by decide +kernel, fun d _ => by
    simp [State.reachesClose, State.closingEdge]⟩
/-- Both links UP, their lanes in L1 or not, or one of them DOWN. -/
def bothUp (f : Link → Link) : State := { live with links := .replicate 2 (f upLink) }
theorem witness_LampCommands_lanes :
    (bothUp id).lanesNear ∧ (bothUp fun l => { l with fwdPs := 1, retPs := 1 }).lanesNear ∧ ¬(tiled live).lanesNear
    ∧ ((bothUp id).link 0).isUp = true ∧ (bothUp id).listWhole 0 = true ∧ ((bothUp id).link 0).running = false
    ∧ (bothUp id).mayRun 0 = true := by
  refine ⟨fun n => ?_, fun n => ?_, fun h => absurd (h 1).1 (by decide), by decide +kernel, by decide +kernel, by decide +kernel,
    by decide +kernel⟩ <;> (fin_cases n <;> decide +kernel)


/-! ### lamp, tests, twin telegrams and the password -/

def lampQ (k : Nat) : Request := writeOf host 0x6000 3 1 k

theorem witness_LampCommands :
    live.safety.power = .run ∧ (∀ k ∈ [0, 2, 3, 5], live.accepts (lampQ k) = true)
    ∧ (∀ k ∈ [6, 7], live.accepts (lampQ k) = true ∧ (unlocked live).accepts (lampQ k) = true)
    ∧ live.holds host = false ∧ (unlocked live).holds host = true ∧ live.safety.lamp = .parked
    ∧ (lamp .fallback).safety.lamp = .fallback ∧ (lamp .service).safety.lamp = .service ∧ (lamp .limp).safety.lamp = .limp
    ∧ (unlocked (lamp .service)).holds host = true ∧ live.safety.demand &&& 5 = 0
    ∧ (unlocked { live with hedge := { live.hedge with verified := true } }).hedge.verified = true
    ∧ (unlocked live).hedge.verified = false ∧ (tiled live).mayRun 0 = true := by decide +kernel

/-- Lamp state TEST with a source and a session. -/
def testing (src : Byte) (running : Bool) (ctrl : U32) : State :=
  let t := withLink (fun l => { l with tileState := 1 }) (tiled (lamp .test))
  { t with safety := { t.safety with testSource := src, testRunning := running, testCtrl := ctrl }
           hedge := { t.hedge with verified := true, checkOk := true } }
def sourceQ (v : Nat) : Request := writeOf host 0x6000 5 1 v
def ctrlQ (v : Nat) : Request := writeOf host 0x4860 1 4 v

theorem witness_TestSessions :
    (∀ v ∈ [0, 1, 2, 3], live.accepts (sourceQ v) = true ∧ (testing 0 false 0).accepts (sourceQ v) = true
      ∧ (testing 1 false 0).accepts (sourceQ v) = true ∧ (testing 0 true 1).accepts (sourceQ v) = true)
    ∧ live.safety.lamp ≠ .test ∧ (testing 0 false 0).safety.lamp = .test ∧ (testing 0 true 1).safety.testRunning = true
    ∧ (lamp .test).accepts (sourceQ 2) = true ∧ (lamp .test).hedge.verified = false
    ∧ (testing 0 false 0).hedge.verified = true ∧ (testing 0 false 0).hedge.checkOk = true
    ∧ (testing 1 false 0).safety.testSource ≠ 0 ∧ (testing 0 false 0).mayRun 0 = true := by decide +kernel
theorem witness_TestSessions_ctrl :
    (∀ w ∈ [0, 1, 3, 0x10000001, 0x11000011, 0x10000011, 0x20000001], live.accepts (ctrlQ w) = true
      ∧ (testing 0 false 0).accepts (ctrlQ w) = true ∧ (testing 0 true 0x10000001).accepts (ctrlQ w) = true)
    ∧ live.blockStopped 2 = false ∧ live.blockStopped 7 = false ∧ (testing 0 false 0).blockStopped 2 = false
    ∧ (testing 0 false 0).blockStopped 7 = false ∧ testLink 0x20000001 = some 1 ∧ (testing 0 false 0).tileParked 1 = false
    ∧ testLink 0x10000001 = some 0 ∧ (testing 0 false 0).tileParked 0 = true ∧ testCtrlOk 3 = false ∧ testCtrlOk 0x10000011 = false
    ∧ testCtrlOk 0x11000011 = true ∧ testLink 1 = none ∧ testCtrlOk 1 = true ∧ fld (0x10000001 : U32) 0 8 ≠ 0
    ∧ (testing 0 true 0x01000001).checkerLane 0 = true ∧ (testing 0 true 0x01000001).checkerLane 7 = false := by decide +kernel

/-- A twin telegram of a SEQ with a command and its CRC-32. -/
def twinBytes (cmd : Byte) (seq : U16) : List Byte :=
  let b := [1, cmd] ++ bytes16 seq ++ zeros 8
  b ++ bytes32 (crc32Of b)
/-- A window open with a copy on CAN; supervised since a cycle. -/
def twinOpen (cmd : Byte) : State :=
  { lamp .service with
    twin := { live.twin with open_ := some ⟨9, twinBytes cmd 9, .can, 0⟩, supervisedFrom := some 0 }
    safety := { (lamp .service).safety with serviceSeen := true } }

theorem witness_TwinComparator :
    State.reset.twinRuns = false ∧ live.twinRuns = true ∧ live.twinOk .can [] = false
    ∧ live.twinOk .can (twinBytes 1 9) = true ∧ live.twin.modeUsed = 0 ∧ live.twinDecided (u16At (twinBytes 1 9) 2) = false
    ∧ live.twin.open_ = none ∧ (twinOpen 0).twinOk .t1s (twinBytes 0 9) = true ∧ (twinOpen 0).twinOk .t1s (twinBytes 1 9) = true
    ∧ u16At (twinBytes 1 9) 2 = 9 ∧ (twinOpen 0).twinDecided 9 = false ∧ (twinBytes 0 9).take 12 ≠ (twinBytes 1 9).take 12
    ∧ (twinOpen 0).twin.supervisedFrom = some 0 ∧ (twinOpen 0).safety.serviceSeen = true ∧ (twinOpen 0).twin.timedOut = false := by
  decide +kernel

/-- The password is `pw`, and so many wrong ones have been given. -/
def guarded (pw : List Byte) (fails : BitVec 4) (s : State) : State :=
  { s with access := { s.access with hash := sha256 (s.access.salt ++ pw), fails := fails } }
def lockedOut : State := { live with access := { live.access with lockoutFrom := some 0 } }
def pw8 : List Byte := zeros 8

theorem witness_PasswordUnlock_right : sha256 (live.access.salt ++ pw8) = (guarded pw8 0 live).access.hash := rfl
theorem witness_PasswordUnlock_stored : (guarded pw8 0 live).access.hash ≠ [] := by decide +kernel
theorem witness_PasswordUnlock :
    live.cairn.failing = false ∧ pw8.length ≤ 32 ∧ 8 ≤ pw8.length
    ∧ live.accepts (writeBytes host 0x6020 1 pw8) = true ∧ lockedOut.accepts (writeBytes host 0x6020 1 pw8) = true
    ∧ lockedOut.access.lockoutFrom.isSome = true ∧ live.access.lockoutFrom = none ∧ live.access.holder = none
    ∧ (unlocked live).access.holder = some (host.carrier, host.src) ∧ live.safety.lamp = .parked
    ∧ (lamp .service).accepts (writeBytes host 0x6020 1 pw8) = true
    ∧ live.accepts (writeOf host 0x6020 2 1 1) = true ∧ (unlocked live).accepts (writeOf host 0x6020 2 1 1) = true
    ∧ live.accepts (writeBytes host 0x6020 3 pw8) = true ∧ (unlocked live).accepts (writeBytes host 0x6020 3 pw8) = true
    ∧ (unlocked live).accepts (writeBytes host 0x6020 3 (zeros 7)) = true ∧ (unlocked live).holds host = true
    ∧ live.netRuns = true := by decide +kernel

/-- A PRBS test of both lanes with a checker in a state; a telegram of this node, and one of another. -/
def checkedBy (c : PrbsChecker) : State :=
  let t := testing 0 true 0x11000011
  { t with safety := { t.safety with checkers := vput t.safety.checkers 0 c } }

theorem witness_TestSessions_prbs :
    (checkedBy {}).checkerLane 0 = true ∧ (checkedBy {}).checkerLane 7 = false
    ∧ (checkedBy { run := 64, locked := true }).safety.checkers[(0 : Fin 8)].locked = true
    ∧ prbsBits (fld (checkedBy {}).safety.testCtrl 0 4) 0 64 = List.replicate 64 false
    ∧ ((checkedBy { run := 63 }).safety.checkers[(0 : Fin 8)]).run = 63 := by decide +kernel
theorem witness_TwinComparator_addressed :
    live.addressed live.node = true ∧ live.addressed 0 = true ∧ live.addressed 77 = false ∧ live.twinRuns = true := by decide +kernel
theorem witness_PasswordUnlock_service :
    (guarded (zeros 9) 3 (lamp .service)).accepts (writeBytes host 0x6020 1 pw8) = true
    ∧ (guarded (zeros 9) 3 (lamp .service)).safety.lamp ≠ .parked ∧ (guarded (zeros 9) 3 (lamp .service)).access.holder = none
    ∧ live.access.hash = [] ∧ 8 ≤ pw8.length := by decide +kernel

/-- A twin telegram to a node, with a VERSION, a reserved bit and a destination MAC address. -/
def twinTo (dest : BitVec 10) (version : Byte) (reserved : Bool) (mac : Option (BitVec 48)) : TwinCopy :=
  { dest := dest, bytes := twinBytes 1 9, reservedSet := reserved, head := { ({ func := 1 } : FrameHead) with version := version, toMac := mac } }
/-- The same through the Svarn-H tunnel. -/
def tunnelled (dest : BitVec 10) : Packet :=
  packet 4 ([1, 1] ++ leBytes 2 dest.toNat ++ leBytes 2 (9 : BitVec 10).toNat ++ [16, 0] ++ zeros 16)
theorem witness_TwinComparator_heads :
    live.twinRuns = true ∧ live.ownMac (twinTo 0 1 false none).head.toMac = true
    ∧ live.ownMac (twinTo 0 1 false (some 0x99)).head.toMac = false ∧ live.addressed (twinTo 77 1 false none).dest = false
    ∧ (twinTo 0 2 false none).head.version ≠ 1 ∧ (twinTo 0 1 true none).reservedSet = true := by decide +kernel
theorem witness_TwinComparator_tunnel :
    packetWhole (tunnelled 0) = true ∧ (tunnelled 0).kind = 4 ∧ (tunnelled 0).gap = [] ∧ linked.twinRuns = true
    ∧ linked.net.romOnly = false ∧ linked.svhReceives = true ∧ linked.addressed 0 = true ∧ linked.addressed 77 = false
    ∧ packetWhole (tunnelled 77) = true := by decide +kernel
theorem witness_TwinComparator_in_ticket : (twinOpen 0).inTicket .twinWindowExpiry ∧ (twinOpen 0).inTicket .twinTimeout :=
  ⟨inTicket_of_no_grid _ _ rfl, inTicket_of_no_grid _ _ rfl⟩


/-! ### faults and field memory -/

def rep (cls : Nat) : Report := { unit := 0x3F, cause := 0x16, index := 7, cls := cls, causes := [(0x3F, 0x16, 7, cls)], frame := 3 }
def reported (cls : Nat) (s : State) : State := { s with faults := { s.faults with pending := [rep cls] } }
/-- A record that may be lifted, in force from class 2. -/
def recordOf (seq : U16) (cls : Nat) : Record :=
  { seq := seq, unit := 0x3F, cause := 0x16, index := 7, count := 2, frame := 1, slot := 0, age := 0, cls := cls
    clearReq := true, inForce := decide (2 ≤ cls), held := [⟨0x3F, 0x16, 7, cls, 0, true, false⟩] }
def recorded (xs : List Record) (s : State) : State := { s with faults := { s.faults with queue := xs, nextSeq := 9 } }

theorem witness_FaultReports :
    State.reset.collects = false ∧ live.collects = true ∧ live.faults.pending = [] ∧ live.faults.queue = []
    ∧ (∀ k ∈ [1, 2, 3, 4], (reported k live).collects = true ∧ (reported k live).faults.pending = [rep k] ∧ (rep k).cls ≤ 4)
    ∧ (reported 2 (recorded [recordOf 8 1] live)).faults.queue = [recordOf 8 1] ∧ (recordOf 8 1).unit = (rep 2).unit
    ∧ (recordOf 8 1).cause = (rep 2).cause ∧ (recordOf 8 1).index = (rep 2).index ∧ live.cairn.failing = false := by
  decide +kernel

theorem witness_AckAndClear :
    live.accepts (writeOf host 0x6800 5 2 8) = true ∧ live.accepts (writeOf host 0x6800 6 2 8) = true
    ∧ (recorded [recordOf 8 2] live).accepts (writeOf host 0x6800 6 2 8) = true ∧ (recorded [recordOf 8 2] live).faults.queue.find? (fun y => y.seq == 8) = some (recordOf 8 2)
    ∧ (recordOf 8 4).cls = 4 ∧ (recordOf 8 1).inForce = false ∧ (recordOf 8 2).latched = false ∧ (recordOf 8 2).inForce = true
    ∧ (recordOf 8 2).lift ≠ .reset := by decide +kernel

/-- Both halves' spares in use or free; a copy running. -/
def spared (used copying : Bool) : State :=
  { live with faults := { live.faults with
      spare := if used then #v[3, 30] else live.faults.spare, copying := .replicate 2 copying } }
/-- A locked Hedgerow store of a bare header, its reference that of its content or not. -/
def lockedStore (good : Bool) (s : State) : State :=
  let image := zeros 24
  { s with hedge := { s.hedge with locked := true, image := image
                                   crc64Ref := if good then crcOf crc64 (image.take (hedgeSize image - 8)) else 1 } }

theorem witness_MemoryUpkeep :
    State.reset.aon.held = true ∧ live.aon.held = false ∧ live.safety.power = .run ∧ (inPower .idle).safety.power ≠ .run
    ∧ (0x17FFFF < 0x180000) ∧ live.mem.bad = [] ∧ 15 < live.faults.ceLimit.toNat ∧ live.faults.ceLimit.toNat ≤ 16
    ∧ (∀ h : Fin 2, live.faults.spare[h] = 0xFF ∧ (spared true false).faults.spare[h] ≠ 0xFF)
    ∧ (spared false true).faults.copying[(1 : Fin 2)] = true ∧ live.faults.copying[(1 : Fin 2)] = false
    ∧ live.hedge.locked = false ∧ (lockedStore true live).hedge.locked = true := by decide +kernel
theorem witness_MemoryUpkeep_crc :
    crcOf crc64 ((lockedStore true live).hedge.image.take (hedgeSize (lockedStore true live).hedge.image - 8)) =
      (lockedStore true live).hedge.crc64Ref
    ∧ crcOf crc64 ((lockedStore false live).hedge.image.take (hedgeSize (lockedStore false live).hedge.image - 8)) ≠
      (lockedStore false live).hedge.crc64Ref := by
  refine ⟨rfl, ?_⟩
  decide +kernel

/-- At a ticket close: class 2 that heals and class 2 that does not yet, class 3 that waits for the shadow comparisons. -/
def closing (xs : List Record) : State :=
  let t := recorded xs gridded
  { t with safety := { t.safety with demand := 3, lamp := .fallback } }
def healing (seq : U16) (cls clean : Nat) : Record :=
  { recordOf seq cls with unit := 0x60, cause := 0x23, held := [⟨0x60, 0x23, 7, cls, clean, true, false⟩] }

theorem witness_AckAndClear_lifts :
    (closing [healing 1 2 8, healing 2 2 7, healing 3 3 8]).frame.running = true
    ∧ (closing [healing 1 2 8, healing 2 2 7, healing 3 3 8]).frame.fresh = false
    ∧ ([healing 1 2 8, healing 2 2 7, healing 3 3 8].map Record.seq).Nodup
    ∧ (∀ p, ((closing []).port p).queue = []) ∧ (healing 1 2 8).lift = .auto ∧ (healing 1 2 8).inForce = true
    ∧ (closing []).faults.heal.toNat ≤ 8 ∧ ¬(closing []).faults.heal.toNat ≤ 7
    ∧ (∀ h ∈ (healing 1 2 8).held, (closing []).gone h = true) ∧ (healing 3 3 8).sawFallback = false := by
  refine ⟨by decide, by decide, by decide, ?_, by decide +kernel, by decide, by decide, by decide, by decide +kernel, by decide⟩
  intro p; cases p <;> decide
theorem witness_MemoryUpkeep_marked :
    ({ live with mem := { bad := [5] } } : State).mem.bad = [5] ∧ live.faults.pending = [] ∧ live.faults.queue = []
    ∧ (∀ w ∈ [1, 0x17FFFF], w < 0x180000) ∧ (lockedStore true live).safety.power = .run := by decide +kernel

theorem witness_AckAndClear_close : (closing [healing 1 2 8]).frame.closesTaken = 0 := rfl


/-! ### DMA, check units, ADC and temperature -/

def goQ (k n : Nat) : Request := writeOf host (0x7010 + k) 1 4 n
def withChan (f : Channel → Channel) (s : State) : State := s.modChannel 2 f
/-- A descriptor at an address that moves `len` bytes from 0x800 to 0x900, with FLAGS, and field memory that holds it. -/
def descBytes (len : Nat) (flags : Byte) : List Byte :=
  leBytes 4 0x800 ++ leBytes 4 0x900 ++ leBytes 4 len ++ leBytes 4 0x400 ++ [7, 0, 0, flags] ++ zeros 12
def chained (len : Nat) (flags : Byte) : State :=
  withChan (fun c => { c with run := true, cur := 0x200 })
    { live with mem := { fm := cellWrite fmReset (cellWrite fmReset [] 0x200 (descBytes len flags)) 0x800 [1, 2, 0, 4, 5] } }

theorem witness_DmaChannels :
    live.accepts (goQ 2 1) = true ∧ live.blockStopped 3 = false ∧ (live.channel 2).run = false
    ∧ (live.channel 2).head.toNat % 32 = 0 ∧ (live.channel 2).head.toNat + 32 ≤ tableStart
    ∧ ((withChan (fun c => { c with head := 33 }) live).channel 2).head.toNat % 32 ≠ 0
    ∧ ((withChan (fun c => { c with run := true }) live).channel 2).pendingHead = none
    ∧ ((withChan (fun c => { c with run := true, pendingHead := some 0 }) live).channel 2).pendingHead ≠ none
    ∧ live.accepts { writeOf host (0x7010 + 2) 1 4 2 with moved := some 0 } = true
    ∧ ((chained 4 0).channel 2).run = true ∧ (chained 4 0).fetchError 2 = 0 ∧ (chained 4 0).mem.wf = true
    ∧ (chained 4 0).unsent 2 = false ∧ ((chained 4 0).channel 2).barrierWait = false
    ∧ (chained 4 0).descCheck (descOf ((chained 4 0).fmRead 0x200 32)) = 0
    ∧ (descOf ((chained 4 0).fmRead 0x200 32)).last = false ∧ (chained 4 0).badWords 0x800 4 = []
    ∧ (0x900 + 4 ≤ tableStart) ∧ (0x200 + 32 ≤ 0x900)
    ∧ (chained 6 1).descCheck (descOf ((chained 6 1).fmRead 0x200 32)) ≠ 0
    ∧ (descOf ((chained 6 1).fmRead 0x200 32)).last = true := by decide +kernel
theorem witness_DmaChannels_waits :
    let s : State := withChan (fun c => { c with barrierWait := true })
      { chained 4 2 with svh := { (chained 4 2).svh with readbacks := [⟨0xFF02, 0, zeros 4⟩] } }
    (s.channel 2).run = true ∧ (s.channel 2).barrierWait = true ∧ s.unsent 2 = true := by decide +kernel

def chkQ (k v action : Nat) : Request := writeOf host (0x7410 + k) 1 4 (v * 2 ^ 8 + action)
def withChk (k : Fin 8) (f : Chk → Chk) (s : State) : State := s.modChk k f
/-- Channel 5 set up over 4 bytes of field memory, and busy with that job or with a feed. -/
def checkable : State := withChk 5 (fun c => { c with len := 4 }) { live with mem := { fm := [(1, 7)] } }
def checkBusy (feed : Bool) : State :=
  withChk 5 (fun c => { c with busy := true, feedOpen := feed, jobLen := 4 }) checkable

theorem witness_CheckUnits :
    (∀ a ∈ [0, 1, 2, 3, 4], live.accepts (chkQ 2 9 a) = true ∧ live.accepts (chkQ 5 9 a) = true
      ∧ checkable.accepts (chkQ 5 9 a) = true ∧ (checkBusy true).accepts (chkQ 5 9 a) = true
      ∧ (checkBusy false).accepts (chkQ 5 9 a) = true)
    ∧ live.blockStopped 4 = false ∧ (checkBusy false).blockStopped 4 = false ∧ (live.chk 5).busy = false
    ∧ live.chkRangeOk (live.chk 5) = false ∧ checkable.chkRangeOk (checkable.chk 5) = true ∧ checkable.blockStopped 4 = false
    ∧ ((checkBusy true).chk 5).feedOpen = true ∧ ((checkBusy true).chk 5).busy = true ∧ (checkable.chk 5).fold ≠ 2
    ∧ ((withChk 5 (fun c => { c with cfg := 0x80 }) live).chk 5).fold = 2 := by decide +kernel
theorem witness_CheckUnits_jobs :
    fld ((checkBusy true).chk 5).jobCfg 6 2 = 0 ∧ ((checkBusy true).chk 5).jobCfg.getLsbD 11 = false ∧ live.gorse = true
    ∧ fld ((checkBusy false).chk 5).jobCfg 8 3 = 0 ∧ ((checkBusy false).chk 5).feedOpen = false
    ∧ (checkBusy false).badIn ((checkBusy false).chk 5).jobAddr.toNat ((checkBusy false).chk 5).jobLen.toNat = false
    ∧ live.accepts (writeBytes host (0x7410 + 2) 5 [1]) = true ∧ (checkBusy true).accepts (writeBytes host (0x7410 + 5) 5 []) = true
    ∧ (checkBusy true).accepts (writeBytes host (0x7410 + 5) 5 [1]) = true := by decide +kernel

/-- The ADC runs at a position of its round; an injected sequence runs or does not. -/
def sampling (position refRun : Nat) (injBusy : Bool) : State :=
  { live with adc := { live.adc with ready := true, regRun := true, position := position, refRun := refRun, injBusy := injBusy
                                     injCfg := 0x3404, injSource := 3 } }

theorem witness_Conversions :
    live.adcRuns = false ∧ (sampling 0 2 false).adcRuns = true ∧ (sampling 0 2 false).adc.regRun = true
    ∧ (sampling 0 2 false).adc.injBusy = false ∧ (sampling 4 0 true).adc.injBusy = true
    ∧ (sampling 4 0 false).adc.roundLen.toNat ≤ (sampling 4 0 false).adc.position
    ∧ ¬(sampling 3 0 false).adc.roundLen.toNat ≤ (sampling 3 0 false).adc.position
    ∧ (sampling 0 0 false).adc.injCfg.getLsbD 10 = true ∧ (sampling 0 0 false).adc.injCfg.getLsbD 12 = true
    ∧ fld (sampling 0 0 true).adc.injCfg 0 3 = 4 ∧ (2690 ≤ (0xA82 : BitVec 12).toNat) ∧ ¬(2690 ≤ (0xA81 : BitVec 12).toNat) := by
  decide +kernel

/-- The last readings and the count of hot ones. -/
def sensed (last : List Int) (hot : Nat) : State :=
  { live with tsens := { live.tsens with last8 := last, lastRaw := last.head?, hotRun := hot, valid := true } }
/-- The lamp held in LIMP since a shutdown from a lamp state, with the restart timer running. -/
def tripped (l : LampState) : State :=
  { lamp .limp with
    aon := { live.aon with thermalHold := true }, tsens := { live.tsens with timerFrom := some 5, lampBefore := l, stopped := true } }

theorem witness_ThermalProtection :
    State.reset.tsensRuns = false ∧ live.tsensRuns = true ∧ (sensed [1199, 1150] 0).tsensRuns = true
    ∧ (sensed [1199, 1150] 0).tsens.broken = false ∧ (sensed [1199, 1150] 0).tsens.derating = false
    ∧ (sensed [1199, 1150] 0).aon.thermalHold = false
    ∧ (∀ l, (sensed [1199, 1150] 0).tsens.lastRaw = some l → ((1120 : Int) - l).natAbs ≤ 100)
    ∧ (∀ x ∈ (sensed [1199, 1150] 0).tsens.last8, -32768 < x ∧ x < 1200)
    ∧ (sensed [1400] 1).safety.power = .run ∧ (1 ≤ (sensed [1400] 1).tsens.hotRun) ∧ (sensed [1400] 1).tsensRuns = true
    ∧ (tripped .service).tsens.timerFrom = some 5 ∧ (tripped .service).aon.thermalHold = true
    ∧ (tripped .service).aon.fell = false ∧ (tripped .service).safety.power = .run ∧ live.tsens.timerFrom = none := by
  refine ⟨by decide, by decide, by decide, by decide, by decide, by decide, ?_, by decide, by decide, by decide, by decide,
    by decide, by decide, by decide, by decide, by decide⟩
  intro l h; cases h; decide

/-- The marker of slot 18 with an injected sequence that an edge started, or none. -/
def marked (busy : Bool) (from_ : Nat) : State :=
  { gridded with clock := 1000, adc := { gridded.adc with
      ready := true, injCfg := 0x501, injBusy := busy, injSource := 3, injFrom := from_, regRun := true } }

theorem witness_Conversions_marker :
    (∀ b, (marked b 999).adcRuns = true ∧ (marked b 999).adc.injCfg.getLsbD 8 = true ∧ (marked b 999).frame.running = true
      ∧ (marked b 999).frame.fresh = false ∧ (∀ n, ((marked b 999).link n).echo = none) ∧ (marked b 999).adc.injBusy = b)
    ∧ 1000 / 20 = 1000 / 20 ∧ 1000 / 20 ≠ 999 / 20
    ∧ adcCode 20 985108 = 2690 ∧ adcCode 20 984741 = 2689 ∧ adcCode 23 1500000 = 1024 ∧ adcCode 22 3000000 = 4095 := by
  decide +kernel

/-- A channel that has stopped and waits for its packets, or at the barrier of a write, with a head behind it or none. -/
def finishing (pend : Option Nat) : State :=
  withChan (fun c => { c with finishing := true, pendingHead := pend.map w32 }) (chained 4 0)
def atBarrier (finishing : Bool) (pend : Option Nat) (flags : Nat) : State :=
  withChan (fun c => { c with barrierWait := true, finishing := finishing, pendingHead := pend.map w32, moveErr := if finishing then 0xB else 0 })
    (chained 4 (w8 flags))
theorem witness_DmaChannels_finish :
    (∀ p ∈ [none, some 0x400], ((finishing p).channel 2).run = true ∧ ((finishing p).channel 2).barrierWait = false
      ∧ ((finishing p).channel 2).finishing = true ∧ (finishing p).unsent 2 = false ∧ ((finishing p).channel 2).pendingHead = p.map w32) := by
  decide +kernel
theorem witness_DmaChannels_barrier :
    (∀ f ∈ [false, true], ∀ p ∈ [none, some 0x400], ∀ b ∈ [0, 1], ((atBarrier f p b).channel 2).run = true
      ∧ ((atBarrier f p b).channel 2).barrierWait = true ∧ (atBarrier f p b).unsent 2 = false ∧ (atBarrier f p b).mem.wf = true
      ∧ (descOf ((atBarrier f p b).fmRead 0x200 32)).last = (b == 1)) := by decide +kernel
/-- A job of channel 5 in a space. -/
def jobIn (space : Nat) : State :=
  withChk 5 (fun c => { c with busy := true, jobLen := 4, jobCfg := w32 (space * 256) })
    { live with hedge := { live.hedge with locked := true } }
theorem witness_CheckUnits_spaces :
    (∀ k ∈ [0, 1, 3, 4], fld ((jobIn k).chk 5).jobCfg 8 3 = k ∧ ((jobIn k).chk 5).busy = true ∧ ((jobIn k).chk 5).feedOpen = false)
    ∧ (jobIn 4).hedge.locked = true ∧ ({ jobIn 0 with mem := { bad := [0] } }).badIn 0 4 = true := by decide +kernel
/-- The comparators of an ADC that samples: of a regular channel, of an injected slot, and off. -/
def compared (s : State) : State :=
  { s with adc := { s.adc with
      wcmp := #v[⟨0x80140101, 0x7D003E8, 0, false, false, 0⟩, ⟨0xC0000102, 0x7D003E8, 0, false, false, 0⟩, {}, {}, {}, {}, {}, {}] } }
theorem witness_Conversions_comparators :
    ((compared (sampling 0 2 false)).adc.wcmp[(0 : Fin 8)]).watched false 20
    ∧ ((compared (sampling 0 2 true)).adc.wcmp[(1 : Fin 8)]).watched true 0
    ∧ ¬((compared (sampling 0 2 false)).adc.wcmp[(2 : Fin 8)]).watched false 20
    ∧ fld ((compared (sampling 0 2 false)).adc.wcmp[(0 : Fin 8)]).cfg 0 2 = 1 ∧ (compared (sampling 0 2 false)).adcRuns = true := by
  refine ⟨⟨?_, ?_, ?_⟩, ⟨?_, ?_, ?_⟩, fun h => absurd h.1 ?_, ?_, ?_⟩ <;> decide +kernel
/-- The marker of slot 52. -/
def markedL (busy : Bool) (from_ : Nat) : State :=
  { marked busy from_ with adc := { (marked busy from_).adc with injCfg := 0x601 } }
theorem witness_Conversions_late_marker :
    (∀ b ∈ [false, true], (markedL b 999).adcRuns = true ∧ (markedL b 999).adc.injCfg.getLsbD 9 = true ∧ (markedL b 999).adc.injBusy = b)
    ∧ (markedL true 1000).adc.injSource = 3 := by decide +kernel
theorem witness_ThermalProtection_in_ticket :
    (sensed [] 0).inTicket .tsensNoConversion ∧ (tripped .start).inTicket .thermalRestart :=
  ⟨inTicket_of_no_grid _ _ rfl, inTicket_of_no_grid _ _ rfl⟩


/-! ### power states, supplies, storage and resets -/

def withPower (f : Power → Power) (s : State) : State := { s with power := f s.power }
/-- An entry to a power state at a handshake step. -/
def entering (x : PowerState) (step : Nat) (s : State) : State := withPower (fun p => { p with target := some x, step := step }) s
def powerQ (k : Nat) : Request := writeOf host 0x8000 1 1 k

theorem witness_PowerEntry :
    (∀ k ∈ [0, 1, 2, 3, 4, 5], live.accepts (powerQ k) = true ∧ (lamp .service).accepts (powerQ k) = true)
    ∧ live.safety.power = .run ∧ live.safety.lamp = .parked ∧ live.power.target = none
    ∧ (inPower .idle).accepts (powerQ 0) = true ∧ (inPower .idle).power.wakeEn.getLsbD 5 = true
    ∧ (live.net.can.queue = [] ∧ live.net.t1s.queue = [] ∧ live.net.svh.queue = [])
    ∧ (entering .sleep 1 live).power.step < 2 ∧ (entering .sleep 2 live).stepRefusal false 2 = none
    ∧ (2 : Nat) < lastStep .sleep ∧ (entering .idle 2 (tiled live)).stepRefusal false 2 = some (1, 9)
    ∧ (entering .idle 7 live).stepRefusal false 7 = none ∧ (entering .idle 7 live).power.target = some .idle := by decide +kernel

theorem witness_Wakes :
    live.aon.held = false ∧ live.safety.power = .run ∧ (withPower (fun p => { p with wakeEn := 0 }) live).power.wakeEn.getLsbD 6 = false
    ∧ (∀ x ∈ [PowerState.idle, .sleep, .deep], (inPower x).safety.power = x ∧ (inPower x).aon.held = false
      ∧ (inPower x).power.thermalWake = false ∧ (inPower x).power.heldReports = [])
    ∧ live.takes host 0x8040 3 1 1 = true
    ∧ ({ inPower .dew with adc := { live.adc with dewCfg := 0x80000000 } } : State).adc.dewCfg.getLsbD 31 = true
    ∧ (inPower .dew).adc.dewCfg.getLsbD 31 = false := by decide +kernel

/-- Supply 1 in a warning, or with a run of samples on the way to one or out of one. -/
def dipping (warn : Bool) (low high : Nat) : State :=
  withPower (fun p => { p with supplies := p.supplies.set 1 { warn := warn, lowRun := low, highRun := high } }) live

theorem witness_SuppliesAndClocks :
    State.reset.suppliesRun = false ∧ live.suppliesRun = true ∧ ((dipping false 1 0).power.supplies[(1 : Fin 4)]).warn = false
    ∧ 1 ≤ ((dipping false 1 0).power.supplies[(1 : Fin 4)]).lowRun ∧ ((dipping true 0 1).power.supplies[(1 : Fin 4)]).warn = true
    ∧ 1 ≤ ((dipping true 0 1).power.supplies[(1 : Fin 4)]).highRun ∧ ((dipping true 0 1).power.supplies[(1 : Fin 4)]).long = false
    ∧ (∀ j : Fin 4, j ≠ 1 → ((dipping true 0 1).power.supplies[j]).warn = false)
    ∧ (∀ p : Fin 8, ((dipping true 0 1).bank p).reverify = false) ∧ (dipping false 1 0).power.target = none
    ∧ (∀ i : Fin 11, 95 * nominalCount i ≤ 100 * nominalCount i ∧ 100 * nominalCount i ≤ 105 * nominalCount i)
    ∧ live.net.served = true ∧ live.clocks.lprcSuspect = false ∧ live.clocks.pllLocked = true ∧ live.aon.lockLossDue = false
    ∧ ({ live with aon := { live.aon with lockLossDue := true }, clocks := {} } : State).clocks.pllLocked = false := by
  decide +kernel

/-- A calibration set for no tile at the start of field memory. -/
def setHeader : List Byte := [0x43, 0x53, 0x45, 0x54, 1, 0, 0xFF, 0xFF] ++ zeros 24 ++ emptyDigest ++ emptyDigest
def withSet (writing : Bool) : State :=
  { live with mem := { fm := cellWrite fmReset (cellWrite fmReset [] 0 setHeader) 0xFFC (bytes32 0x5A5AA5A5) }
              mgmt := { live.mgmt with calsetWriting := writing } }

theorem witness_Persistence :
    (∀ k ∈ [1, 2], live.accepts (writeOf host 0x8800 1 1 k) = true ∧ (lamp .service).accepts (writeOf host 0x8800 1 1 k) = true)
    ∧ live.safety.lamp = .parked ∧ (lamp .service).safety.lamp ≠ .parked ∧ live.cairn.writing = none ∧ live.cairn.failing = false
    ∧ (live.net.can.queue = [] ∧ live.net.t1s.queue = [] ∧ live.net.svh.queue = [])
    ∧ live.accepts (writeOf host 0x8810 2 1 1) = true ∧ (withSet false).accepts (writeOf host 0x8810 2 1 1) = true
    ∧ live.setOk 0 = false ∧ (withSet true).mgmt.calsetWriting = true ∧ (withSet true).mem.wf = true := by decide +kernel
theorem witness_Persistence_set : (withSet false).setOk 0 = true := by decide +kernel

/-- What a boot finds with no tile fitted and an empty flash. -/
def env0 : BootEnv := ⟨[], [], .ok, .ok, 65536, 0, 100, 300, true, 1000, false, 1000⟩
def resetQ (value : Nat) : Request := { writeOf host 0x8830 1 4 value with env := some env0 }

theorem witness_Resets :
    State.reset.aon.held = true ∧ live.aon.held = false ∧ live.safety.power = .run
    ∧ ({ live with safety := { live.safety with power := .deep } } : State).safety.power ∈ [PowerState.deep, .dew, .off] ∧ live.gorse = true ∧ State.reset.gorse = false ∧ live.aon.pllResets = 0
    ∧ ({ live with aon := { live.aon with pllResets := 1 } } : State).aon.pllResets ≠ 0
    ∧ (∀ v ∈ [0, 0x5AA5C33C], live.accepts (resetQ v) = true ∧ (lamp .service).accepts (resetQ v) = true)
    ∧ live.safety.lamp ∈ [.parked, .test, .recovery, .limp] ∧ (lamp .service).safety.lamp ∉ [.parked, .test, .recovery, .limp] := by
  decide +kernel

/-- The entry of a power state at its last step, as the handshake leaves it, and a wake from it. -/
def slept (x : PowerState) (step : Nat) : State :=
  match exec (.handshakeAnswer ⟨true, false⟩) (entering x step live) with
  | .next t => t
  | _ => live

theorem witness_PowerEntry_ends :
    (∀ x ∈ [PowerState.idle, .sleep, .deep, .dew, .off],
      (entering x (lastStep x) live).stepRefusal false (lastStep x) = none
      ∧ (entering x (lastStep x) live).power.target = some x ∧ 2 ≤ lastStep x)
    ∧ (entering .deep 8 { live with cairn := { live.cairn with wroteAt := some 0 } }).stepRefusal true 8 = some (7, 3)
    ∧ (entering .idle 6 (lamp .service)).safety.lamp ≠ .parked ∧ (entering .idle 6 (lamp .service)).power.target = some .idle := by
  decide +kernel
theorem witness_Wakes_sources :
    (slept .idle 7).safety.power = .idle ∧ (slept .sleep 8).safety.power = .sleep ∧ (slept .off 9).safety.power = .off
    ∧ (slept .idle 7).wakeHolds 0 = true ∧ (slept .off 9).wakeHolds 0 = true
    ∧ (let s := withPower (fun p => { p with thermalWake := true }) (inPower .sleep)
       s.power.thermalWake = true ∧ s.aon.thermalHold = false ∧ s.aon.held = false)
    ∧ (let s := withPower (fun p => { p with wakeEn := 8, dewRun := 3, dewConfirm := 3 }) (inPower .dew)
       s.power.wakeEn.getLsbD 3 = true ∧ s.power.dewConfirm.toNat ≤ s.power.dewRun ∧ s.safety.power = .dew) := by decide +kernel
theorem witness_Wakes_bank : ((slept .sleep 8).power.ret[(0 : Fin 4)]).data.length = 4092 := by decide +kernel
theorem witness_SuppliesAndClocks_others :
    (let s := withPower (fun p => { p with supplies := p.supplies.set 2 { warn := true } }) (dipping true 0 1)
     (s.power.supplies[(2 : Fin 4)]).warn = true ∧ s.suppliesRun = true)
    ∧ ((withBank 3 (fun b => { b with reverify := true }) (dipping true 0 1)).bank 3).reverify = true := by decide +kernel
theorem witness_Persistence_checked :
    (let s : State := { withSet true with mgmt := { (withSet true).mgmt with calsetChecked := true } }
     s.mgmt.calsetWriting = true ∧ s.mgmt.calsetChecked = true ∧ s.mem.wf = true)
    ∧ (withSet true).mgmt.calsetChecked = false ∧ (stoppedGorse (withSet false)).blockStopped 5 = true
    ∧ (stoppedGorse live).accepts (writeOf host 0x8800 1 1 1) = true
    ∧ (stoppedGorse (withSet false)).accepts (writeOf host 0x8810 2 1 1) = true := by decide +kernel

/-- An entry whose handshake has idled lanes; a warning meets it on the second low sample of supply 1. -/
def idledEntry : State :=
  withPower (fun p => { p with stopped := [2, 3, 4], idledTx := true, supplies := p.supplies.set 1 { lowRun := 1 } })
    { entering .idle 5 (withLink (fun l => { l with fwdPs := 1 }) (tiled linked)) with svh := { linked.svh with txPs := 1 } }
theorem witness_PowerEntry_lanes :
    (2 ∈ idledEntry.power.stopped) ∧ (idledEntry.link 0).state = .up ∧ (idledEntry.link 0).fwdPs = 1 ∧ idledEntry.power.idledTx = true
    ∧ idledEntry.svh.txPs = 1 ∧ (idledEntry.link 1).state = .down ∧ idledEntry.power.target = some .idle ∧ 2 ≤ idledEntry.power.step
    ∧ ((withLink (fun l => { l with state := .lost }) idledEntry).link 0).state = .lost := by decide +kernel
theorem witness_SuppliesAndClocks_entry :
    idledEntry.suppliesRun = true ∧ idledEntry.safety.power = .run ∧ (idledEntry.power.supplies[(1 : Fin 4)]).warn = false
    ∧ 1 ≤ (idledEntry.power.supplies[(1 : Fin 4)]).lowRun ∧ idledEntry.power.target.isSome = true
    ∧ idledEntry.net.can.queue = [] ∧ idledEntry.net.t1s.queue = [] ∧ idledEntry.net.svh.queue = [] := by decide +kernel
/-- The windows of the clock monitor before this one failed. -/
def failedOnce (s : State) : State := { s with clocks := { s.clocks with failRun := .replicate 11 1 } }
theorem witness_SuppliesAndClocks_windows :
    (failedOnce linked).aon.held = false ∧ (failedOnce linked).net.served = true ∧ (failedOnce linked).counted 3 = true
    ∧ ¬95 * 610352 ≤ 100 * 0 ∧ 1 ≤ (failedOnce linked).clocks.failRun[(3 : Fin 11)]
    ∧ (∀ i : Fin 11, let n := nominalCount i; let c := n * 106 / 100
        (failedOnce linked).counted i = true → 105 * n < 100 * c ∧ 99 * n * (24414 * 106 / 100) ≤ 100 * c * 24414
          ∧ 100 * c * 24414 ≤ 101 * n * (24414 * 106 / 100))
    ∧ ({ linked with clocks := { linked.clocks with lprcSuspect := true } }).clocks.lprcSuspect = true := by decide +kernel
theorem witness_SuppliesAndClocks_in_ticket : (dipping true 0 0).inTicket (.longDip 1) := inTicket_of_no_grid _ _ rfl
theorem witness_Resets_released :
    ({ live with aon := { live.aon with porst := true, held := true } }).aon.porst = true ∧ 1000 ≤ env0.highNs
    ∧ ({ env0 with highNs := 999 }).highNs < 1000 ∧ ({ live with aon := { live.aon with porst := false } }).aon.porst = false := by decide


/-! ### the worked examples of the spec -/

/-- The check values of Table 15-6, over the bytes of "123456789". -/
def nine : List Byte := [0x31, 0x32, 0x33, 0x34, 0x35, 0x36, 0x37, 0x38, 0x39]
theorem test_crc_check_values :
    crcOf crc8 nine = 0xDF ∧ crcOf crc16 nine = 0x29B1 ∧ crc32Of nine = 0xCBF43926 ∧ crc32cOf nine = 0xE3069283
    ∧ crcOf crc64 nine = 0x995DC9BBDF1939FA := by decide +kernel
/-- The frame fold of R330 and of R228. -/
theorem test_fold :
    fold32 1000 = 0x08B35B68 ∧ foldResult crc64 1 1000 (crcOf crc64 nine) = 0x995DC9BBD7AA6292
    ∧ foldResult crc32c 1 1000 (crcOf crc32c nine) = 0xEBB5C9EB ∧ (0x5A3C91E2 : U32) ^^^ fold32 1000 = 0x528FCA8A
    ∧ (0x5A3C91E2 : U32) ^^^ fold32 999 = 0x30477055 := by decide +kernel

/-- Pixel (1234, 301) of tile 1 (chapters 2, 4 and 5): its four nodes, the two layers, their colour tables, the stamp entry
and box 9, the calibration word and the governor scale. -/
def tracedMem : List Host.Cell :=
  let mesh := 0x2F40000
  let lut := 0x2F80000
  let node (i j : Nat) : Nat := mesh + 0x20 + 4 * (j * 257 + i)
  let row (id : Nat) : Nat := lut + 2112 * id
  let entry (id k : Nat) : Nat := row id + 0x40 + 2 * k
  let w (v : Int) : List Byte := bytes16 (BitVec.ofInt 16 v)
  [(mesh + 8, w 0 ++ w (-128)), (node 154 37, w 3650 ++ w (-1240)), (node 155 37, w 3731 ++ w (-1244)),
   (node 154 38, w 3653 ++ w (-1320)), (node 155 38, w 3735 ++ w (-1324)),
   (0x2000000, w 40000), (row 0 + 0x20, w 4096), (entry 0 625, w 40000 ++ w 40064),
   (0xA605B4, [0xC8, 0xB4, 0x5A, 0x80]), (row 7 + 0x20, w 871 ++ w 2929 ++ w 296), (entry 7 358, w 6504 ++ w 6546),
   (0x2FC0004, [10, 20, 35, 50, 75, 110, 160]), (0x2FC04C0, [3, 3, 3, 3, 6, 0] ++ w 16384),
   (0x2800000 + 2 * (2048 * 301 + 1234), w 0x91A1)].foldl (fun m c => cellWrite fmReset m c.1 c.2) []
def traced : State :=
  let s := live
  let box : BoxVersion :=
    { cls := 3, range := 60, azLeft := 220, azRight := 250, elTop := -180, elBottom := -205, velAz := 6, velEl := -2
      margin := 2, capture := 1000, acceptedAt := 0, sinceSample := 0 }
  let on (v : BankPair) : BankPair := { v with bank0 := .active }
  let l0 : Layer := { s.layer 0 with hasBuffer := true, committed :=
    { cfg := 0x810000FF, bufAddr := 0x2000000, stride := 4096, width := 1, height := 1, placeU := 44656, placeV := 13319 } }
  let l1 : Layer := { s.layer 1 with hasBuffer := true, committed :=
    { cfg := 0x840007C0, bufAddr := 0xA00000, stride := 4096, width := 1024, height := 256, placeU := 36864, placeV := 11264
      stepU := 3072, stepV := 3072 } }
  { s with
    mem := { fm := tracedMem }
    links := s.links.set 1 upLink
    banks := (((s.banks.set 1 (on (s.bank 1))).set 3 (on (s.bank 3))).set 4 (on (s.bank 4))).set 5 (on (s.bank 5))
    layers := (s.layers.set 0 l0).set 1 l1
    warp := { s.warp with levelApplied := 300 }
    tb := { s.tb with locked := true }
    frame := { s.frame with
      number := 7, divUsed := 40, ticketTime := 0, aimAzUsed := #v[0, 24], aimElUsed := #v[0, -40] }
    stamp := { s.stamp with gateLive := s.stamp.gateLive.set 9 (some { box with capture := BitVec.ofInt 64 (slotsNs 40 54 - 3250400) }) }
    current := s.current.set 1 { s.cur 1 with govScale := 0x7333 } }

theorem test_traced_direction : traced.direction 1 1234 301 = .lit 3696 (-3079) := by decide +kernel
theorem test_traced_layer : (traced.layer 1).committed.sourceAt 3696 (-3079) = (5844, 1541) := by decide +kernel
theorem test_traced_stamp : traced.stampFactor 18 3696 (-3079) = 16384 := by decide +kernel
theorem test_traced_composed : traced.compose 0 1 3696 (-3079) = [29788] := by decide +kernel
theorem test_traced_codes : traced.pixelCodes 0 [] 1 18 1234 301 = ([⟨29, 12, false⟩], false) := by decide +kernel

/-- The line buffer of L2 and of the symbol layer (chapter 4), and the worked set-up of L2 (chapter 3). -/
def videoL2 : LayerConfig :=
  { cfg := 0x852404FF, bufAddr := 0x400000, stride := 1600, width := 640, height := 160, placeU := 20480, placeV := 8192
    stepU := 1024, stepV := 1024 }
def symbolLayer (cfg : U32) (stepV : U16) : LayerConfig :=
  { cfg := cfg, bufAddr := 0x400000, stride := 1536, width := 1536, height := 2, stepV := stepV }
theorem test_line_buffer :
    ({ config := videoL2 } : Snapshot).checkResult 2 { ctabValid := 0x10, span0 := some 960, span1 := some 1400 } = 0
    ∧ (symbolLayer 0x800400FF 1536).enabledChecks 1 (some 960) (some 1400) = 0x0C
    ∧ (symbolLayer 0x800000FF 1536).enabledChecks 1 (some 960) (some 1400) = 0x0C := by decide +kernel
theorem test_video_range : videoL2.rangeLen = 0x3E800 ∧ (videoL2.sourceAt (61440 - 40960) 0).1 = 10240 := by decide +kernel

/-- A calibration word (R199, Table 9-3 row 7). -/
theorem test_calibration_word :
    ageFactor 164 12 = 67504 ∧ baseGain 1984 67504 262 650 = 2370 ∧ calWordOf 255 64 0 0 2370 1 = (0xB931, false) := by
  decide +kernel
/-- CAP and its clamp value (R223). -/
theorem test_clamp_value : clampValue 29491 8000000000 0 9800000000 0xE000 = 21065 := by decide +kernel
/-- The junction limit and the scale of a hot device (R345, R212). -/
theorem test_governor_scale :
    junctionLimit 4000 0x4000 1275 = 3000 ∧ governorScale 0x8000 3000 3692000000 192000000 0x4000 = 0x66B1
    ∧ governorScale 0x8000 4000 210874368 192000000 0x4000 = 0x8000 := by decide +kernel
/-- A comparison of the flat-current pattern (R209). -/
def flat : State :=
  withCur (fun c => { c with markSkip := false, filter := some 0, markF := 210874368, offset := 20 }) (tiled live)
theorem test_compare_current :
    ((compareCurrent 0 126 flat).cur 0).dev = 1126 ∧ ((compareCurrent 0 126 flat).cur 0).consecFail = 0
    ∧ ((compareCurrent 0 300 flat).cur 0).dev = 349126 ∧ ((compareCurrent 0 300 flat).cur 0).consecFail = 1 := by decide +kernel
/-- The slew of a follower (Table 7-7): PHASE_ERROR, and the length of frame slot 0 in grid units of 1/204 ns, at a frame of
whole CORE cycles. -/
def follower (error : Int) : State :=
  let s := lamp .service
  let p : Int := 24 * 21250000
  { s with frame := { s.frame with
      running := true, fresh := false, alignUsed := 2, fsyncSeen := true, fsyncAt := some 0, divUsed := 24
      gridTime := p + 204 * error, closeAt := edgeOf (p + 204 * error) } }
theorem test_slew :
    (correctPhase (follower 5300)).frame.gridTime - (follower 5300).frame.gridTime = 204 * -2000
    ∧ (correctPhase (follower 1300)).frame.gridTime - (follower 1300).frame.gridTime = 204 * -1300
    ∧ (correctPhase (follower 1300)).frame.aligned = false ∧ (correctPhase (follower 5300)).frame.phaseError = 5300
    ∧ (correctPhase (follower 0)).frame.aligned = true := by decide +kernel
/-- The bound of a calibration set (R388). -/
theorem test_calset_bound :
    ({ live with clocks := { live.clocks with eraseMs := 2000, programUs := 1500 } } : State).calsetBound = 154700 := by
  decide +kernel
/-- Leveling around a ticket close (chapter 2). -/
theorem test_level_slew : slewLevel 64 300 200 = 264 ∧ slewLevel 64 300 264 = 300 := by decide +kernel


/-! ### what WellFormed refuses -/

/-- A CAN requester with a T1S envelope, a request longer than a frame, a descriptor longer than 4 KiB, a boot that takes no time. -/
def badHost : Requester := { host with envelope := ⟨1, none⟩ }
def longPdu : Pdu := pdu 0x3812 3 0 (zeros 57)
def badObs : TrainObs := ⟨true, true, false, zeros 4097⟩
def badEnv : BootEnv := { env0 with cycles := 0 }

theorem test_wf_requester :
    badHost.wf = false ∧ host.wf = true ∧ [Instr.commit badHost 0 0 0 0, .commitCancel badHost 0, .commitDiscard badHost 0,
      .groupCommit badHost 0 0 0 0, .lock badHost, .testSource badHost 0, .testCtrl badHost 0, .lampCmdOff badHost,
      .faultAck badHost 0, .bankOpen badHost 0, .activate badHost, .schedStop badHost, .fmapCommit badHost 0, .go badHost 0,
      .startMem badHost 3 0, .checkAlive (some badHost) 3 0, .powerCmdRun badHost, .wakeAck badHost, .calsetWrite badHost,
      .resetCmd badHost 0 env0, .unlock badHost [], .chkFeed badHost 3 [0], .read badHost (pdu 0 0 0 [])].any Instr.wf = false := by
  decide +kernel
theorem test_wf_data :
    longPdu.wf host = false ∧ (pdu 0x3812 3 0 (zeros 56)).wf host = true ∧ [Instr.read host longPdu, .write host longPdu,
      .readInit host longPdu, .writeInit host longPdu, .segment host longPdu, .segmentLast host longPdu, .abort host longPdu,
      .registerWrite host longPdu, .unlock host (zeros 33), .pwNew host (zeros 33), .chkFeed host 3 (zeros 57)].any Instr.wf = false := by
  decide +kernel
theorem test_wf_packets :
    [Instr.streamPacket (packet 0 (zeros 2052)), .bulkWrite (packet 0 (zeros 2052)), .bulkRead (packet 0 (zeros 2052)),
      .quickPacket (packet 0 (zeros 1060)), .objPacket (packet 0 (zeros 1028)), .diagReceive 0 (packet 0 (zeros 1028)),
      .statusReceive 0 (packet 0 (zeros 260)), .vfReceive 0 (packet 0 (zeros 260)), .tempReceive 0 (packet 0 (zeros 12)),
      .echoReceive 0 (packet 0 (zeros 8)), .echoReceive 0 (packet 0 (zeros 3)), .echoReceive 0 { packet 0 (zeros 4) with length := 8 }].any
      Instr.wf = false
    ∧ [Instr.streamPacket (packet 0 (zeros 2048)), .quickPacket (packet 0 (zeros 1056)), .diagReceive 0 (packet 0 (zeros 1024)),
      .statusReceive 0 (packet 0 (zeros 256)), .tempReceive 0 (packet 0 (zeros 8)), .echoReceive 0 (packet 0 (zeros 4)),
      .echoReceive 0 { packet 0 (zeros 5) with arrival := .badFrame }].all Instr.wf = true := by decide +kernel
theorem test_wf_outside :
    badEnv.wf = false ∧ badObs.wf = false ∧ env0.wf = true ∧ [Instr.porstNRelease badEnv, .supplyReset badEnv,
      .managementWatchdogExpiry badEnv, .pllNotLockedReset badEnv, .testReset true badEnv, .resetCmd host 0 badEnv,
      .wakeEvent 0 [] badEnv, .wakeEvent 0 [(0, 4096, 0)] env0, .dewSample [0], .prbsCheckerLock ⟨0, List.replicate 1025 true⟩, .trainingAttempt 0 badObs, .porstNRelease { env0 with train1 := [badObs] },
      .frameSlotStart 0 { quiet with late0 := 65537 }, .frameSlotStart 0 { quiet with residue1 := [65536] },
      .twinTelegram .svh { dest := 0, bytes := zeros 16 }, .twinTelegram .can { dest := 0, bytes := zeros 15 }, .eventTelegram .svh,
      .injectedSequenceEnd [0, 0, 0, 0, 0], .clockMonitorWindow [0]].any Instr.wf = false := by decide +kernel


end Sys2Proof.Tests
end

section
/-!
What a layer under check refuses (R54): the branch of each layer operation that a CHECKING slot, or a pending snapshot of a
group, takes, up to the write of its object; and the host command that such a write answers.
-/
namespace Sys2Proof.Machine

/-! ### a refused write of a host command -/

@[simp] theorem noted_layer (q : Request) (s : State) (n : Fin 8) : (s.noted q).layer n = s.layer n := by simp [State.layer]

/-- A write that is refused on the noted state changes nothing that outlasts its reply. -/
theorem refuses_of_run_noted (c : Instr) (q : Request) (a : Abort) (s : State) (h : s.accepts q = true)
    (hr : exec c s = .next (settle s (finishWrite q (.refused a (s.noted q))))) : Refuses c q a s :=
  refuses_of_run c q a s _ h hr (by simp) (noted_quiet q s)

/-! ### a CHECKING slot -/

section Checking
variable {s : State} {n : Fin 8} (h : (s.layer n).check.isSome = true)
include h

theorem commitLayer_checking (tag : U16) (kind num : BitVec 4) : commitLayer n tag kind num s = .error .stateConflict := if_pos h

theorem cancelLayer_checking : cancelLayer n s = .error .stateConflict := if_pos h

theorem discardLayer_checking : discardLayer n s = .error .stateConflict := if_pos h

theorem stageWrite_checking (index sub : Nat) (b : List Byte) : stageWrite n index sub b s = .refused .stateConflict s :=
  if_pos (by simp [h])

/-- Every action of Ln_COMMIT but action 0, which does nothing, is refused: a schedule that owns the layer refuses with the same
code (R139). -/
theorem commitWrite_checking (w : U32) (hw : fld w 0 2 ≠ 0) : commitWrite n w s = .refused .stateConflict s := by
  unfold commitWrite
  split
  case h_1 h0 => exact absurd h0 hw
  case h_2 =>
    split
    · rfl
    · split
      · exact congrArg (commitEffect _ s) (commitLayer_checking h _ _ _)
      · exact congrArg (effectOf s) (cancelLayer_checking h)
      · exact congrArg (effectOf s) (discardLayer_checking h)

end Checking

/-! ### a group with a member that is not free -/

/-- A layer whose pending snapshot belongs to a group shows that group's mask. -/
theorem groupMask_of_pending {l : Layer} {p : Snapshot} (h : l.pending = some p) : l.groupMask = p.group := by
  simp [Layer.groupMask, h]

section Group
variable {s : State} {mask : Byte} {n : Fin 8} (hn : inMask mask n = true)
  (h : (s.layer n).check.isSome = true ∨ (s.layer n).groupMask ≠ 0)
include hn h

theorem commitGroup_busy_member (tag : U16) (kind num : BitVec 4) :
    commitGroup mask tag kind num s = .error .stateConflict :=
  if_pos (List.any_eq_true.2 ⟨n, List.mem_finRange n, by simpa [hn] using h⟩)

/-- A GROUP_COMMIT that names such a member is refused, as one is that names a layer of a schedule (R139). -/
theorem groupWrite_busy_member (w : U32) (hw : BitVec.ofNat 8 (fld w 24 8) = mask) :
    groupWrite w s = .refused .stateConflict s := by
  simp only [groupWrite, hw, commitGroup_busy_member hn h]
  split
  · rfl
  · split <;> rfl

end Group

/-! ### the fields of the words that the host commands write (Tables 3-7 and 3-9) -/

theorem fld_w32_le_leBytes {v : Nat} (hv : v < 2 ^ 32) (lo len : Nat) :
    fld (w32 (le (leBytes 4 v))) lo len = v / 2 ^ lo % 2 ^ len := by
  rw [le_leBytes 4 v hv, fld, w32, BitVec.toNat_ofNat, Nat.mod_eq_of_lt hv, Nat.shiftRight_eq_div_pow]

theorem commit_action_field (tag : U16) (kind num : BitVec 4) :
    fld (w32 (le (leBytes 4 (commitWord tag.toNat kind.toNat num.toNat 1)))) 0 2 = 1 := by
  have := tag.isLt; have := kind.isLt; have := num.isLt
  rw [fld_w32_le_leBytes (by unfold commitWord; omega)]
  unfold commitWord; omega

theorem groupCommit_mask_field (mask : Byte) (kind num : BitVec 4) (tag : U16) :
    BitVec.ofNat 8 (fld (w32 (le (leBytes 4
      (mask.toNat * 2 ^ 24 + kind.toNat * 2 ^ 20 + num.toNat * 2 ^ 16 + tag.toNat)))) 24 8) = mask := by
  have := mask.isLt; have := tag.isLt; have := kind.isLt; have := num.isLt
  rw [fld_w32_le_leBytes (by omega)]
  have hfield : (mask.toNat * 2 ^ 24 + kind.toNat * 2 ^ 20 + num.toNat * 2 ^ 16 + tag.toNat) / 2 ^ 24 % 2 ^ 8 = mask.toNat := by
    omega
  rw [hfield, BitVec.ofNat_toNat, BitVec.setWidth_eq]

/-! ### a staging write -/

/-- The indices of layer `n`'s staging objects are members `n` of the rows 0x2100 and 0x2101. -/
theorem rowOf_staging {index : Nat} {n : Fin 8} (h : index ∈ [0x2100 + 16 * n.val, 0x2101 + 16 * n.val]) :
    ∃ row, rowOf index = some (row, n.val) ∧ row.index ∈ [0x2100, 0x2101] := by
  simp only [List.mem_cons, List.not_mem_nil, or_false] at h
  rcases h with rfl | rfl
  · fin_cases n <;> exact ⟨_, rfl, by decide⟩
  · fin_cases n <;> exact ⟨_, rfl, by decide⟩

/-- Every object of these rows is written by `stageWrite`; an RWL one would be refused with the same code before that, outside
PARKED. -/
theorem writeEffect_staging_checking {s : State} {n : Fin 8} (h : (s.layer n).check.isSome = true) (q : Request) (o : Obj)
    (index sub : Nat) {base : Nat} (hb : base ∈ [0x2100, 0x2101]) (b : List Byte) :
    writeEffect q o index base n.val sub b s = .refused .stateConflict s := by
  have hscene : writeScene index base n.val sub b s = some (.refused .stateConflict s) := by
    simp only [List.mem_cons, List.not_mem_nil, or_false] at hb
    rcases hb with rfl | rfl <;> simp [writeScene, fin8_val, stageWrite_checking h]
  simp [writeEffect, hscene]

theorem run_write_staging_checking {s : State} {n : Fin 8} (hc : (s.layer n).check.isSome = true) {r : Requester} {d : Pdu}
    {o : Obj} (h : s.accepts { r := r, cmd := 2, d := d } = true)
    (hi : d.index.toNat ∈ [0x2100 + 16 * n.val, 0x2101 + 16 * n.val]) (ho : objOf d.index.toNat d.sub.toNat = some o)
    (ha : o.acc ≠ .ro) (hl : d.data.length = o.ty.size) :
    exec (.write r d) s = .next (settle s (finishWrite { r := r, cmd := 2, d := d }
      (.refused .stateConflict (s.noted { r := r, cmd := 2, d := d })))) := by
  obtain ⟨row, hrow, hbase⟩ := rowOf_staging hi
  have hrun := takeRequest_effect { r := r, cmd := 2, d := d } _ _ s row n.val o (accepts_executesNow _ s h) rfl rfl rfl
    (accepts_romOnly _ s h) hrow ho ha (by split <;> simp [hl])
  rw [writeEffect_staging_checking (by simpa using hc) _ _ _ _ hbase] at hrun
  exact congrArg _ hrun

/-! ### each command of R54 is refused -/

section Refusals
variable {s : State} {n : Fin 8} (hc : (s.layer n).check.isSome = true) (r : Requester)

include hc in
theorem commit_refused_checking (tag : U16) (kind num : BitVec 4)
    (h : s.takes r (0x2102 + 16 * n.val) 1 4 (commitWord tag.toNat kind.toNat num.toNat 1) = true) :
    Refuses (.commit r n tag kind num)
      (writeOf r (0x2102 + 16 * n.val) 1 4 (commitWord tag.toNat kind.toNat num.toNat 1)) .stateConflict s := by
  refine refuses_of_run_noted _ _ _ s h ?_
  rw [run_commit r n tag kind num s h, commitWrite_checking (by simpa using hc) _ (by rw [commit_action_field]; decide)]

include hc in
theorem commitCancel_refused_checking (h : s.takes r (0x2102 + 16 * n.val) 1 4 (commitWord 0 0 0 2) = true) :
    Refuses (.commitCancel r n) (writeOf r (0x2102 + 16 * n.val) 1 4 (commitWord 0 0 0 2)) .stateConflict s := by
  refine refuses_of_run_noted _ _ _ s h ?_
  rw [run_commitCancel r n s h, commitWrite_checking (by simpa using hc) _ (by decide)]

include hc in
theorem commitDiscard_refused_checking (h : s.takes r (0x2102 + 16 * n.val) 1 4 (commitWord 0 0 0 3) = true) :
    Refuses (.commitDiscard r n) (writeOf r (0x2102 + 16 * n.val) 1 4 (commitWord 0 0 0 3)) .stateConflict s := by
  refine refuses_of_run_noted _ _ _ s h ?_
  rw [run_commitDiscard r n s h, commitWrite_checking (by simpa using hc) _ (by decide)]

theorem groupCommit_refused_busy_member {mask : Byte} (hn : inMask mask n = true)
    (hb : (s.layer n).check.isSome = true ∨ (s.layer n).groupMask ≠ 0) (kind num : BitVec 4) (tag : U16)
    (h : s.takes r 0x2010 1 4 (mask.toNat * 2 ^ 24 + kind.toNat * 2 ^ 20 + num.toNat * 2 ^ 16 + tag.toNat) = true) :
    Refuses (.groupCommit r mask kind num tag)
      (writeOf r 0x2010 1 4 (mask.toNat * 2 ^ 24 + kind.toNat * 2 ^ 20 + num.toNat * 2 ^ 16 + tag.toNat)) .stateConflict s := by
  refine refuses_of_run_noted _ _ _ s h ?_
  rw [run_groupCommit r mask kind num tag s h,
    groupWrite_busy_member hn (by simpa using hb) _ (groupCommit_mask_field mask kind num tag)]

end Refusals

/-- Settles O16: each command's write reaches the branch of a CHECKING slot, or of a member of a group, on the noted state. -/
theorem checkingRefuses : Obligations.CheckingRefuses := by
  intro r n s
  refine ⟨fun hc => ⟨fun tag kind num => commit_refused_checking hc r tag kind num, commitCancel_refused_checking hc r,
    commitDiscard_refused_checking hc r, ?_⟩, ?_⟩
  · rintro d o _ rfl h hi ho ha hl
    exact refuses_of_run_noted _ _ _ s h (run_write_staging_checking hc h hi ho ha hl)
  · intro mask kind num tag w h hn hb
    refine groupCommit_refused_busy_member r hn (hb.imp_right ?_) kind num tag h
    rintro ⟨p, hp, hne, -⟩
    rwa [groupMask_of_pending hp]

end Sys2Proof.Machine
end

section
/-!
What leaves the banks alone: of each function of the model that does not go through `State.modBank` or a reset, that the banks
pass through it unchanged, in the order of the model's files.
-/
namespace Sys2Proof.Machine

/-! ### folds and branches -/

@[simp] theorem ite_banks (c : Prop) [Decidable c] (s t : State) : (if c then s else t).banks = if c then s.banks else t.banks :=
  apply_ite State.banks c s t

@[simp] theorem ite_state (c : Prop) [Decidable c] (e f : Effect) : (if c then e else f).state = if c then e.state else f.state :=
  apply_ite Effect.state c e f

@[simp] theorem Effect.done_state (s : State) : (Effect.done s).state = s := rfl
@[simp] theorem Effect.refused_state (a : Abort) (s : State) : (Effect.refused a s).state = s := rfl
@[simp] theorem Effect.awaits_state (w : Awaits) (bound : Nat) (s : State) : (Effect.awaits w bound s).state = s := rfl
@[simp] theorem Effect.ended_state (op : LongOp) (bound : Nat) (a : Abort) (s : State) : (Effect.ended op bound a s).state = s := rfl
@[simp] theorem Effect.reset_state (env : BootEnv) (s : State) : (Effect.reset env s).state = s := rfl

/-- The banks beside a new memory, and beside new management registers. (A kernel that compares the states themselves runs
through what is written there.) -/
theorem with_mem_banks (s : State) (m : Mem) : ({ s with mem := m } : State).banks = s.banks := rfl
theorem with_mgmt_banks (s : State) (m : Mgmt) : ({ s with mgmt := m } : State).banks = s.banks := rfl

/-- A fold of updates that each keep the banks keeps them. -/
@[simp] theorem foldl_banks {α : Type} {f : State → α → State} (h : ∀ t a, (f t a).banks = t.banks) (l : List α) (s : State) :
    (l.foldl f s).banks = s.banks := by
  induction l generalizing s with
  | nil => rfl
  | cons a l ih => rw [List.foldl_cons, ih, h]

theorem foldl_apply_banks {l : List (State → State)} (h : ∀ f ∈ l, ∀ t, (f t).banks = t.banks) (s : State) :
    (l.foldl (fun t f => f t) s).banks = s.banks := by
  induction l generalizing s with
  | nil => rfl
  | cons f l ih => rw [List.foldl_cons, ih fun g hg => h g (List.mem_cons_of_mem _ hg), h f List.mem_cons_self]

@[simp] theorem forAll_banks {n : Nat} {f : Fin n → State → State} (h : ∀ i t, (f i t).banks = t.banks) (s : State) :
    (forAll f s).banks = s.banks := foldl_banks (fun t i => h i t) _ s

@[simp] theorem within_eq_some {lo hi v : Nat} {s t : State} : within lo hi v s = some t ↔ (lo ≤ v ∧ v ≤ hi) ∧ s = t := by
  simp [within]

@[simp] theorem withinInt_eq_some {lo hi v : Int} {s t : State} :
    withinInt lo hi v s = some t ↔ (lo ≤ v ∧ v ≤ hi) ∧ s = t := by
  simp [withinInt]

/-! ### Ops -/

@[simp] theorem State.drawSteer_banks (s : State) : (s.drawSteer).2.banks = s.banks := rfl
@[simp] theorem eventSvh_banks (code : Byte) (body : List Byte) (s : State) : (eventSvh code body s).banks = s.banks := by
  simp [eventSvh]

@[simp] theorem eventNet_banks (c : Carrier) (code : Byte) (body : List Byte) (s : State) :
    (eventNet c code body s).banks = s.banks := by simp [eventNet]

@[simp] theorem event_banks (code : Byte) (body : List Byte) (s : State) : (event code body s).banks = s.banks := by
  simp [event]

@[simp] theorem eventState_banks (s : State) : (eventState s).banks = s.banks := by simp [eventState]
@[simp] theorem eventLink_banks (n : Fin 2) (s : State) : (eventLink n s).banks = s.banks := by simp [eventLink]
@[simp] theorem report_banks (unit cause index : Byte) (cls : Nat) (scope : Scope) (s : State) :
    (report unit cause index cls scope s).banks = s.banks := by unfold report; split <;> simp

@[simp] theorem report1_banks (unit cause index : Byte) (s : State) : (report1 unit cause index s).banks = s.banks := by
  simp [report1]

@[simp] theorem dropCustom_banks (s : State) : (dropCustom s).banks = s.banks := by simp [dropCustom]
@[simp] theorem setLamp_banks (l : LampState) (s : State) : (setLamp l s).banks = s.banks := by simp [setLamp]
@[simp] theorem selectHedgerow_banks (s : State) : (selectHedgerow s).banks = s.banks := by simp [selectHedgerow]
@[simp] theorem darken_banks (s : State) : (darken s).banks = s.banks := rfl
@[simp] theorem setDemand_banks (i : Nat) (s : State) : (setDemand i s).banks = s.banks := by simp [setDemand]
@[simp] theorem clearDemand_banks (i : Nat) (s : State) : (clearDemand i s).banks = s.banks := rfl
@[simp] theorem cairnFailure_banks (s : State) : (cairnFailure s).banks = s.banks := by simp [cairnFailure]
@[simp] theorem logChange_banks (kind : Byte) (index : U16) (sub : Byte) (c : Carrier) (node : BitVec 10) (old new : U32)
    (s : State) :
    (logChange kind index sub c node old new s).1.banks = s.banks := by unfold logChange; split <;> simp

@[simp] theorem writeHistory_banks (kind : Byte) (r : Record) (s : State) : (writeHistory kind r s).banks = s.banks := by
  simp [writeHistory]

@[simp] theorem deviceJob_banks (k : Fin 8) (cfg addr len fold : U32) (spec : CrcSpec) (err : Byte) (crc : U64) (s : State) :
    (deviceJob k cfg addr len fold spec err crc s).banks = s.banks := rfl

@[simp] theorem startHead_banks (s : State) : (startHead s).banks = s.banks := by simp [startHead]
@[simp] theorem queueJob_banks (j : CheckJob) (s : State) : (queueJob j s).banks = s.banks := by simp [queueJob]
@[simp] theorem endHead_banks (s : State) : (endHead s).banks = s.banks := by simp [endHead]
@[simp] theorem dropJob_banks (j : CheckJob) (s : State) : (dropJob j s).banks = s.banks := by simp [dropJob]
@[simp] theorem reportBad_banks (words : List Nat) (s : State) : (reportBad words s).banks = s.banks := by simp [reportBad]
@[simp] theorem fmStore_banks (a : Nat) (bytes : List Byte) (s : State) : (fmStore a bytes s).banks = s.banks := by
  simp [fmStore]

@[simp] theorem noteLease_banks (a len : Nat) (s : State) : (noteLease a len s).banks = s.banks := by simp [noteLease]
@[simp] theorem hostStore_banks (index : Byte) (a : Nat) (bytes : List Byte) (s : State) :
    (hostStore index a bytes s).1.banks = s.banks := by unfold hostStore; split <;> simp

@[simp] theorem gorseStore_banks (a : Nat) (bytes : List Byte) (s : State) : (gorseStore a bytes s).banks = s.banks := by
  simp [gorseStore]

@[simp] theorem sendCmd_banks (n : Fin 2) (opcode : Byte) (params : List Byte) (s : State) :
    (sendCmd n opcode params s).banks = s.banks := rfl

/-! ### Layers -/

@[simp] theorem startCheck_banks (n : Fin 8) (tag : U16) (kind num : BitVec 4) (group : Byte) (s : State) :
    (startCheck n tag kind num group s).banks = s.banks := rfl

@[simp] theorem showGroup_banks (mask result : Byte) (s : State) : (showGroup mask result s).banks = s.banks := rfl
@[simp] theorem dropGroup_banks (m groupResult : Byte) (f : Fin 8 → Layer → Layer) (s : State) :
    (dropGroup m groupResult f s).banks = s.banks := by simp [dropGroup]

@[simp] theorem dropFailed_banks (m cause : Byte) (bad : Fin 8 → Bool) (s : State) :
    (dropFailed m cause bad s).banks = s.banks := by simp [dropFailed]

@[simp] theorem dropPending_banks (cause : Byte) (bad : Fin 8 → Bool) (s : State) :
    (dropPending cause bad s).banks = s.banks := by simp [dropPending]

theorem commitLayer_banks (n : Fin 8) (tag : U16) (kind num : BitVec 4) (s : State) :
    ∀ u, commitLayer n tag kind num s = .ok u → u.banks = s.banks := by unfold commitLayer; split <;> simp

theorem cancelLayer_banks (n : Fin 8) (s : State) : ∀ u, cancelLayer n s = .ok u → u.banks = s.banks := by
  unfold cancelLayer
  repeat' split
  all_goals simp

theorem discardLayer_banks (n : Fin 8) (s : State) : ∀ u, discardLayer n s = .ok u → u.banks = s.banks := by
  unfold discardLayer; split <;> simp

theorem commitGroup_banks (mask : Byte) (tag : U16) (kind num : BitVec 4) (s : State) :
    ∀ u, commitGroup mask tag kind num s = .ok u → u.banks = s.banks := by
  unfold commitGroup
  repeat' split
  all_goals simp

@[simp] theorem endLayerCheck_banks (n : Fin 8) (c : Check) (s : State) : (endLayerCheck n c s).2.banks = s.banks := by
  unfold endLayerCheck; dsimp only; split <;> simp

@[simp] theorem endGroupCheck_banks (mask : Byte) (s : State) : (endGroupCheck mask s).2.banks = s.banks := by
  unfold endGroupCheck
  dsimp only
  split
  · refine (showGroup_banks _ _ _).trans (foldl_banks (fun t m => ?_) _ _)
    rfl
  · split
    all_goals
      refine (showGroup_banks _ _ _).trans (foldl_banks (fun t m => ?_) _ _)
      rfl

theorem endCheck_banks (n : Fin 8) (s : State) : ∀ x, endCheck n s = some x → x.2.banks = s.banks := by
  simp only [endCheck, Option.map_eq_some_iff]
  rintro _ ⟨c, -, rfl⟩
  split <;> simp

@[simp] theorem gateEvent_banks (kind num : BitVec 4) (err : Bool) (s : State) :
    (gateEvent kind num err s).banks = s.banks := by simp [gateEvent]

@[simp] theorem handOver_banks (n : Fin 8) (p : Snapshot) (flip : U64) (s : State) :
    (handOver n p flip s).banks = s.banks := by unfold handOver; dsimp only; split <;> simp

@[simp] theorem recheckPending_banks (s : State) : (recheckPending s).banks = s.banks := by simp [recheckPending]
@[simp] theorem reportLayer_banks (n : Fin 8) (cause : Byte) (s : State) : (reportLayer n cause s).banks = s.banks := by
  simp [reportLayer]

@[simp] theorem reportUnfit_banks (s : State) : (reportUnfit s).banks = s.banks := by simp [reportUnfit]
@[simp] theorem closeSlot_banks (before : State) (flip : U64) (n : Fin 8) (s : State) :
    (closeSlot before flip n s).banks = s.banks := by unfold closeSlot; split <;> simp

@[simp] theorem handOverAll_banks (flip : U64) (s : State) : (handOverAll flip s).banks = s.banks := by simp [handOverAll]
@[simp] theorem copyPalettes_banks (s : State) : (copyPalettes s).banks = s.banks := by simp [copyPalettes]

/-! ### Stamp -/

@[simp] theorem setLevel_banks (v : U16) (s : State) : (setLevel v s).banks = s.banks := rfl
@[simp] theorem quickLevel_banks (v : Int) (s : State) : (quickLevel v s).banks = s.banks := by simp [quickLevel]
@[simp] theorem levelTicket_banks (s : State) : (levelTicket s).banks = s.banks := by simp [levelTicket]
@[simp] theorem removeLive_banks (id : Fin 64) (s : State) : (removeLive id s).banks = s.banks := by
  unfold removeLive; split <;> simp

@[simp] theorem putLive_banks (id : Fin 64) (v : BoxVersion) (s : State) : (putLive id v s).banks = s.banks := by simp [putLive]
@[simp] theorem gateSample_banks (s : State) : (gateSample s).banks = s.banks := by simp [gateSample]
@[simp] theorem stampTicket_banks (s : State) : (stampTicket s).banks = s.banks := rfl
@[simp] theorem boxParity_banks (id : Fin 64) (s : State) : (boxParity id s).banks = s.banks := by simp [boxParity]
theorem quickRecord_banks (b : List Byte) (capture : U64) (s : State) :
    ∀ u, quickRecord b capture s = some u → u.banks = s.banks := by unfold quickRecord; split <;> simp

@[simp] theorem quickRecords_banks (capture : U64) (l : List (List Byte)) (s : State) :
    (quickRecords capture l s).banks = s.banks := by
  induction l generalizing s with
  | nil => rfl
  | cons b l ih =>
    simp only [quickRecords]
    split
    next h => rw [ih, quickRecord_banks _ _ _ _ h]
    next => rw [ih]

@[simp] theorem quickPayload_banks (b : List Byte) (s : State) : (quickPayload b s).banks = s.banks := by simp [quickPayload]
@[simp] theorem quickStale_banks (s : State) : (quickStale s).banks = s.banks := by simp [quickStale]

/-! ### SvarnH -/

@[simp] theorem crcError_banks (s : State) : (crcError s).banks = s.banks := rfl
@[simp] theorem frameError_banks (s : State) : (frameError s).banks = s.banks := rfl
@[simp] theorem laneError_banks (e : Fin 4 × Bool) (s : State) : (laneError e s).banks = s.banks := rfl
@[simp] theorem symbolErrors_banks (p : Packet) (s : State) : (symbolErrors p s).banks = s.banks :=
  foldl_banks (fun t e => laneError_banks e t) _ _

/-- A packet of Svarn-H is dropped with a count, or taken in a state of the same banks. -/
theorem svhReceive_cases (kind : Byte) (limit : Nat) (p : Packet) (reserved : Bool) (act : State → State) (s : State) :
    (svhReceive kind limit p reserved act s).banks = s.banks
      ∨ ∃ t : State, t.banks = s.banks ∧ svhReceive kind limit p reserved act s = act t := by
  unfold svhReceive
  dsimp only
  repeat' split
  case isFalse.isFalse.isFalse.isFalse.isFalse => exact .inr ⟨_, by simp, rfl⟩
  all_goals exact .inl (by simp)

theorem svhReceive_banks (kind : Byte) (limit : Nat) (p : Packet) (reserved : Bool) {act : State → State}
    (h : ∀ t, (act t).banks = t.banks) (s : State) : (svhReceive kind limit p reserved act s).banks = s.banks := by
  obtain hs | ⟨t, ht, hs⟩ := svhReceive_cases kind limit p reserved act s
  · exact hs
  · rw [hs, h, ht]

@[simp] theorem windowError_banks (w : Fin 16) (s : State) : (windowError w s).banks = s.banks := rfl
@[simp] theorem endOfBuffer_banks (w : Fin 16) (err : Bool) (s : State) : (endOfBuffer w err s).banks = s.banks := by
  simp [endOfBuffer]

@[simp] theorem streamWrite_banks (w : Fin 16) (p : Packet) (s : State) : (streamWrite w p s).banks = s.banks := by
  unfold streamWrite
  dsimp only
  split
  · simp
  · have hb := hostStore_banks (BitVec.ofNat 8 w.val) ((s.window w).base.toNat + p.a.toNat) p.payload s
    split <;> simp_all

@[simp] theorem streamAccept_banks (p : Packet) (s : State) : (streamAccept p s).banks = s.banks := by simp [streamAccept]
@[simp] theorem bulkAck_banks (p : Packet) (status : Byte) (s : State) : (bulkAck p status s).banks = s.banks := by
  simp [bulkAck]

@[simp] theorem bulkDiscard_banks (p : Packet) (s : State) : (bulkDiscard p s).banks = s.banks := by simp [bulkDiscard]
@[simp] theorem bulkWriteAccept_banks (p : Packet) (s : State) : (bulkWriteAccept p s).banks = s.banks := by
  unfold bulkWriteAccept
  split
  · simp
  · have hb := hostStore_banks 0xFF p.a.toNat p.payload s
    split
    all_goals
      next h => rw [h] at hb; simpa using hb

@[simp] theorem bulkReadAccept_banks (p : Packet) (s : State) : (bulkReadAccept p s).banks = s.banks := by simp [bulkReadAccept]
@[simp] theorem transmit_banks (s : State) : (transmit s).banks = s.banks := by
  unfold transmit
  repeat' split
  all_goals simp

@[simp] theorem svhDown_banks (s : State) : (svhDown s).banks = s.banks := rfl

/-! ### Faults -/

@[simp] theorem faultFrameEnd_banks (s : State) : (faultFrameEnd s).banks = s.banks := rfl
@[simp] theorem healBuild_banks (tile : Byte) (s : State) : (healBuild tile s).banks = s.banks := rfl
@[simp] theorem replaceRecord_banks (r : Record) (s : State) : (replaceRecord r s).banks = s.banks := rfl
@[simp] theorem countClass3_banks (old : Nat) (r : Record) (s : State) : (countClass3 old r s).banks = s.banks := by
  simp [countClass3]

@[simp] theorem announce_banks (kind : Byte) (old : Nat) (r : Record) (s : State) :
    (announce kind old r s).banks = s.banks := by simp [announce]

@[simp] theorem absorbInto_banks (seq : U16) (isMerge : Bool) (rep : Report) (s : State) :
    (absorbInto seq isMerge rep s).banks = s.banks := by unfold absorbInto; split <;> simp

@[simp] theorem loseRecord_banks (r : Record) (s : State) : (loseRecord r s).banks = s.banks := by simp [loseRecord]
@[simp] theorem appendRecord_banks (r : Record) (s : State) : (appendRecord r s).banks = s.banks := by simp [appendRecord]
@[simp] theorem createRecord_banks (rep : Report) (s : State) : (createRecord rep s).banks = s.banks := by
  unfold createRecord
  repeat' split
  all_goals simp

@[simp] theorem react_banks (cls : Nat) (s : State) : (react cls s).banks = s.banks := by simp [react]
@[simp] theorem takeReport_banks (rep : Report) (s : State) : (takeReport rep s).banks = s.banks := by
  unfold takeReport; dsimp only; split <;> simp

@[simp] theorem acceptReport_banks (rep : Report) (s : State) : (acceptReport rep s).banks = s.banks := by simp [acceptReport]
@[simp] theorem loseHeld_banks (k : Nat) (s : State) : (loseHeld k s).banks = s.banks := by simp [loseHeld]
@[simp] theorem acceptHeld_banks (s : State) : (acceptHeld s).banks = s.banks := by simp [acceptHeld]
@[simp] theorem acceptUpTo_banks (unit : Byte) (fuel : Nat) (s : State) : (acceptUpTo unit fuel s).banks = s.banks := by
  induction fuel generalizing s with
  | zero => rfl
  | succ k ih =>
    simp only [acceptUpTo]
    repeat' split
    all_goals simp [ih]

@[simp] theorem liftRecord_banks (s : State) (r : Record) : (liftRecord s r).banks = s.banks := by simp [liftRecord]
@[simp] theorem faultTicket_banks (s : State) : (faultTicket s).banks = s.banks := by simp [faultTicket]
@[simp] theorem faultAck_banks (q : U16) (s : State) : (faultAck q s).banks = s.banks := rfl
@[simp] theorem faultClear_banks (q : U16) (s : State) : (faultClear q s).2.banks = s.banks := by
  unfold faultClear
  repeat' split
  all_goals simp

/-! ### Banks -/

@[simp] theorem copyBody_banks (e : DirEntry) (s : State) : (copyBody e s).banks = s.banks := by unfold copyBody; split <;> simp
@[simp] theorem loadBodies_banks (l : List (DirEntry × Nat)) (s : State) : (loadBodies l s).2.banks = s.banks := by
  induction l generalizing s with
  | nil => rfl
  | cons e l ih => simp only [loadBodies]; split <;> simp [ih]

@[simp] theorem finishLoad_banks (result entry : Byte) (s : State) : (finishLoad result entry s).banks = s.banks := rfl
@[simp] theorem loadPack_banks (flash : FlashRead) (s : State) : (loadPack flash s).banks = s.banks := by
  unfold loadPack
  repeat' split
  all_goals simp

@[simp] theorem packBusy_banks (s : State) : (packBusy s).banks = s.banks := rfl
@[simp] theorem packClose_banks (s : State) : (packClose s).2.banks = s.banks := by unfold packClose; split <;> rfl
@[simp] theorem stopSchedule_banks (result : Byte) (s : State) : (stopSchedule result s).banks = s.banks := by
  simp [stopSchedule]

@[simp] theorem schedStart_banks (start : U32) (s : State) : (schedStart start s).2.banks = s.banks := by
  unfold schedStart
  repeat' split
  all_goals simp

@[simp] theorem stageEntry_banks (e : SchedEntry) (s : State) : (stageEntry e s).banks = s.banks := rfl
@[simp] theorem markScheduled_banks (e : SchedEntry) (s : State) : (markScheduled e s).banks = s.banks := rfl
theorem commitEntries_banks (es : List SchedEntry) (s : State) : ∀ u, commitEntries es s = .ok u → u.banks = s.banks := by
  unfold commitEntries
  dsimp only
  split
  · simp
  · next s1 h =>
    have h1 : s1.banks = s.banks := by
      split at h
      · exact commitLayer_banks _ _ _ _ _ _ h
      · exact commitGroup_banks _ _ _ _ _ _ h
    rintro _ ⟨⟩
    rw [foldl_banks (fun t e => markScheduled_banks e t), h1]

@[simp] theorem schedRefused_banks (result layer : Byte) (s : State) : (schedRefused result layer s).banks = s.banks := by
  simp [schedRefused]

@[simp] theorem schedDropped_banks (before after s : State) : (schedDropped before after s).banks = s.banks := by
  unfold schedDropped; dsimp only; split <;> simp

@[simp] theorem scheduledCommit_banks (s : State) : (scheduledCommit s).banks = s.banks := by
  unfold scheduledCommit
  dsimp only
  have h1 (w : List Nat) : ((s.dueEntries).foldl (fun t e => stageEntry e t) (reportBad w s)).banks = s.banks := by
    rw [foldl_banks (fun t e => stageEntry_banks e t), reportBad_banks]
  split
  · rfl
  · split
    · rw [schedRefused_banks, h1]
    · next h => exact (commitEntries_banks _ _ _ h).trans (h1 _)

@[simp] theorem schedCheckEnd_banks (n : Fin 8) (result : Byte) (s : State) : (schedCheckEnd n result s).banks = s.banks := by
  simp [schedCheckEnd]

@[simp] theorem schedTicket_banks (s : State) : (schedTicket s).banks = s.banks := by simp [schedTicket]

/-! ### Diag -/

@[simp] theorem reportCode_banks (base i : Nat) (s : State) : (reportCode base i s).banks = s.banks := by simp [reportCode]
@[simp] theorem setMapCode_banks (base i c : Nat) (s : State) : (setMapCode base i c s).banks = s.banks := by simp [setMapCode]
@[simp] theorem strayFence_banks (n : Fin 2) (sectors : U16) (index : Byte) (s : State) :
    (strayFence n sectors index s).banks = s.banks := by simp [strayFence]

@[simp] theorem fenceListed_banks (n : Fin 2) (s : State) : (fenceListed n s).banks = s.banks := by
  unfold fenceListed
  dsimp only
  repeat' split
  all_goals simp

@[simp] theorem listStuck_banks (n : Fin 2) (p : Pos) (s : State) : (listStuck n p s).banks = s.banks := by simp [listStuck]
@[simp] theorem writeEntry_banks (n : Fin 2) (w : U32) (s : State) : (writeEntry n w s).banks = s.banks := by simp [writeEntry]
@[simp] theorem copyRange_banks (src dst len : Nat) (s : State) : (copyRange src dst len s).banks = s.banks := rfl
@[simp] theorem startCommit_banks (n : Fin 2) (s : State) : (startCommit n s).banks = s.banks := by simp [startCommit]
@[simp] theorem appendFaults_banks (n : Fin 2) (es : List U32) (s : State) : (appendFaults n es s).banks = s.banks := by
  simp [appendFaults]

@[simp] theorem commitMismatch_banks (n : Fin 2) (s : State) : (commitMismatch n s).banks = s.banks := by simp [commitMismatch]
theorem fmapRetire_banks (n : Fin 2) (p : Pos) (s : State) : ∀ u, fmapRetire n p s = .ok u → u.banks = s.banks := by
  unfold fmapRetire; dsimp only; split <;> simp

theorem fmapClear_banks (n : Fin 2) (s : State) : ∀ u, fmapClear n s = .ok u → u.banks = s.banks := by
  unfold fmapClear; split <;> simp

@[simp] theorem sendScan_banks (n : Fin 2) (mask : U16) (s : State) : (sendScan n mask s).banks = s.banks := rfl
@[simp] theorem scanNext_banks (n : Fin 2) (s : State) : (scanNext n s).banks = s.banks := by
  unfold scanNext
  dsimp only
  repeat' split
  all_goals simp

@[simp] theorem faultMapReplay_banks (n : Fin 2) (s : State) : (faultMapReplay n s).banks = s.banks := by simp [faultMapReplay]
@[simp] theorem diagPayload_banks (n : Fin 2) (tag : U16) (last : Bool) (payload : List Byte) (s : State) :
    (diagPayload n tag last payload s).banks = s.banks := by simp [diagPayload]

@[simp] theorem sampleSectors_banks (n : Fin 2) (baseline : Bool) (s : State) :
    (sampleSectors n baseline s).banks = s.banks := foldl_banks (fun _ _ => sendCmd_banks _ _ _ _) _ _

@[simp] theorem ageRound_banks (n : Fin 2) (s : State) : (ageRound n s).banks = s.banks := by simp [ageRound]
@[simp] theorem vfPayload_banks (n : Fin 2) (payload : List Byte) (s : State) : (vfPayload n payload s).banks = s.banks := by
  unfold vfPayload
  dsimp only
  repeat' split
  all_goals simp

/-! ### Current -/

@[simp] theorem countSlot_banks (n : Fin 2) (s : State) : (countSlot n s).banks = s.banks := rfl
@[simp] theorem predictSlot_banks (n : Fin 2) (s : State) : (predictSlot n s).banks = s.banks := by simp [predictSlot]
@[simp] theorem holdMarker_banks (n : Fin 2) (s : State) : (holdMarker n s).banks = s.banks := rfl
@[simp] theorem latchCurrent_banks (n : Fin 2) (s : State) : (latchCurrent n s).banks = s.banks := rfl
@[simp] theorem clearBands_banks (n : Fin 2) (s : State) : (clearBands n s).banks = s.banks := rfl
@[simp] theorem skipCurrent_banks (n : Fin 2) (s : State) : (skipCurrent n s).banks = s.banks := rfl
@[simp] theorem compareCurrent_banks (n : Fin 2) (code : Nat) (s : State) : (compareCurrent n code s).banks = s.banks := by
  simp [compareCurrent]

@[simp] theorem curFailLimit_banks (n : Fin 2) (s : State) : (curFailLimit n s).banks = s.banks := by simp [curFailLimit]
@[simp] theorem maxEpisode_banks (n : Fin 2) (s : State) : (maxEpisode n s).banks = s.banks := by simp [maxEpisode]
@[simp] theorem governTile_banks (n : Fin 2) (s : State) : (governTile n s).banks = s.banks := by
  unfold governTile; dsimp only; split <;> simp

@[simp] theorem governorTicket_banks (n : Fin 2) (s : State) : (governorTicket n s).banks = s.banks := rfl
@[simp] theorem tempLost_banks (n : Fin 2) (s : State) : (tempLost n s).banks = s.banks := by simp [tempLost]
@[simp] theorem tempFrameEnd_banks (n : Fin 2) (s : State) : (tempFrameEnd n s).banks = s.banks := by simp [tempFrameEnd]
@[simp] theorem pmbusFail_banks (n : Fin 2) (s : State) : (pmbusFail n s).banks = s.banks := by simp [pmbusFail]
@[simp] theorem pmbusRead_banks (n : Fin 2) (s : State) : (pmbusRead n s).banks = s.banks := rfl
@[simp] theorem pmbusReadLimit_banks (n : Fin 2) (limit : Option U16) (s : State) :
    (pmbusReadLimit n limit s).banks = s.banks := by unfold pmbusReadLimit; split <;> simp

@[simp] theorem pmbusReadStatus_banks (n : Fin 2) (status : Option U16) (s : State) :
    (pmbusReadStatus n status s).banks = s.banks := by unfold pmbusReadStatus; split <;> simp

@[simp] theorem pmbusPoll_banks (n : Fin 2) (limit status : Option U16) (s : State) :
    (pmbusPoll n limit status s).banks = s.banks := by simp [pmbusPoll]

/-! ### Guard -/

@[simp] theorem strayPixel_banks (forced : List Nat) (n : Fin 2) (p : Pos) (s : State) :
    (strayPixel forced n p s).banks = s.banks := by unfold strayPixel; split <;> simp

@[simp] theorem guardStart_banks (subL : Bool) (s : State) : (guardStart subL s).banks = s.banks := rfl
@[simp] theorem noteSource_banks (src : Source) (s : State) : (noteSource src s).banks = s.banks := rfl
@[simp] theorem guardBand_banks (forced : List Nat) (n : Fin 2) (b : Nat) (subL : Bool) (sent sward : List Byte) (s : State) :
    (guardBand forced n b subL sent sward s).banks = s.banks := by simp [guardBand]

@[simp] theorem strayCompare_banks (s : State) : (strayCompare s).banks = s.banks := by simp [strayCompare]
@[simp] theorem clampTile_banks (z : Fin 32) (r : ZoneRec) (n : Fin 2) (s : State) : (clampTile z r n s).banks = s.banks := by
  simp [clampTile]

@[simp] theorem capReact_banks (z : Fin 32) (r : ZoneRec) (s : State) : (capReact z r s).banks = s.banks := by
  unfold capReact; split <;> simp

@[simp] theorem floorReact_banks (z : Fin 32) (s : State) : (floorReact z s).banks = s.banks := by
  unfold floorReact; split <;> simp

@[simp] theorem compareZone_banks (z : Fin 32) (s : State) : (compareZone z s).banks = s.banks := by simp [compareZone]
@[simp] theorem shadowCompare_banks (s : State) : (shadowCompare s).banks = s.banks := by simp [shadowCompare]
@[simp] theorem guardCompare_banks (s : State) : (guardCompare s).banks = s.banks := by simp [guardCompare]
@[simp] theorem guardNewSet_banks (s : State) : (guardNewSet s).banks = s.banks := rfl
@[simp] theorem guardTicket_banks (s : State) : (guardTicket s).banks = s.banks := by simp [guardTicket]

/-! ### Stile -/

@[simp] theorem zoneRectReact_banks (cause i : Byte) (rec_ : RectRec) (s : State) :
    (zoneRectReact cause i rec_ s).banks = s.banks := by unfold zoneRectReact; split <;> simp

@[simp] theorem storeRectReact_banks (cause i : Byte) (s : State) : (storeRectReact cause i s).banks = s.banks := by
  simp [storeRectReact]

@[simp] theorem zoneRectOutcome_banks (cause : Byte) (r : Fin 32) (rec_ : RectRec) (ok : Bool) (s : State) :
    (zoneRectOutcome cause r rec_ ok s).banks = s.banks := by
  simp [zoneRectOutcome]

@[simp] theorem storeRectOutcome_banks (cause : Byte) (r : Fin 32) (rec_ : RectRec) (ok : Bool) (s : State) :
    (storeRectOutcome cause r rec_ ok s).banks = s.banks := by
  simp [storeRectOutcome]

@[simp] theorem zoneRectBand_banks (n : Fin 2) (b : Nat) (subL : Bool) (codes : List Byte) (s : State) (r : Fin 32) :
    (zoneRectBand n b subL codes s r).banks = s.banks := by
  simp [zoneRectBand]

@[simp] theorem storeRectBand_banks (n : Fin 2) (b : Nat) (subL : Bool) (codes : List Byte) (s : State) (r : Fin 32) :
    (storeRectBand n b subL codes s r).banks = s.banks := by
  simp [storeRectBand]

@[simp] theorem stileBand_banks (n : Fin 2) (b : Nat) (subL : Bool) (sward hedge : Option (List Byte)) (s : State) :
    (stileBand n b subL sward hedge s).banks = s.banks := by
  unfold stileBand
  repeat' split
  all_goals simp

@[simp] theorem echoOutcome_banks (e : EchoWait) (ok : Bool) (s : State) (r : Fin 32) :
    (echoOutcome e ok s r).banks = s.banks := by
  unfold echoOutcome; split <;> simp

@[simp] theorem echoCompare_banks (n : Fin 2) (s : State) : (echoCompare n s).banks = s.banks := by
  unfold echoCompare
  split
  · rfl
  · dsimp only
    split
    · rfl
    · rw [foldl_banks (fun t r => echoOutcome_banks _ _ t r)]
      split <;> rfl

@[simp] theorem echoArrives_banks (n : Fin 2) (p : Packet) (s : State) : (echoArrives n p s).banks = s.banks := by
  unfold echoArrives; split <;> simp

@[simp] theorem stileTicket_banks (load : Bool) (s : State) : (stileTicket load s).banks = s.banks := by simp [stileTicket]
@[simp] theorem hedgeFinding_banks (cause : Byte) (s : State) : (hedgeFinding cause s).banks = s.banks := by simp [hedgeFinding]
@[simp] theorem storeParity_banks (words : List Nat) (s : State) : (storeParity words s).banks = s.banks := by
  simp [storeParity]

@[simp] theorem hedgeJob_banks (image : List Byte) (parity : Bool) (crc : U64) (s : State) :
    (hedgeJob image parity crc s).banks = s.banks := rfl

@[simp] theorem hedgeRecheck_banks (parity : List Nat) (s : State) : (hedgeRecheck parity s).banks = s.banks := by
  simp [hedgeRecheck]

/-! ### Tiles -/

@[simp] theorem sendTiming_banks (n : Fin 2) (div : Byte) (frame : U32) (s : State) :
    (sendTiming n div frame s).banks = s.banks := rfl

@[simp] theorem runTile_banks (n : Fin 2) (s : State) : (runTile n s).banks = s.banks := rfl
@[simp] theorem parkTile_banks (n : Fin 2) (s : State) : (parkTile n s).banks = s.banks := rfl
@[simp] theorem resumeTile_banks (n : Fin 2) (s : State) : (resumeTile n s).banks = s.banks := rfl
@[simp] theorem powerSectors_banks (n : Fin 2) (s : State) : (powerSectors n s).banks = s.banks := by simp [powerSectors]
@[simp] theorem firstService_banks (n : Fin 2) (s : State) : (firstService n s).banks = s.banks := by
  unfold firstService; dsimp only; split <;> simp

@[simp] theorem setReturn_banks (n : Fin 2) (idle : Bool) (s : State) : (setReturn n idle s).banks = s.banks := by
  simp [setReturn]

@[simp] theorem settleLanes_banks (n : Fin 2) (s : State) : (settleLanes n s).banks = s.banks := by simp [settleLanes]
@[simp] theorem linkTiming_banks (n : Fin 2) (s : State) : (linkTiming n s).banks = s.banks := by simp [linkTiming]
@[simp] theorem linkUp_banks (n : Fin 2) (o : TrainObs) (s : State) : (linkUp n o s).banks = s.banks := by simp [linkUp]
@[simp] theorem tileChanged_banks (n : Fin 2) (s : State) : (tileChanged n s).banks = s.banks := by simp [tileChanged]
@[simp] theorem attemptFailed_banks (n : Fin 2) (r : Byte) (s : State) : (attemptFailed n r s).banks = s.banks := by
  simp [attemptFailed]

@[simp] theorem readDescriptor_banks (n : Fin 2) (s : State) : (readDescriptor n s).banks = s.banks :=
  foldl_banks (fun _ _ => sendCmd_banks _ _ _ _) _ _

@[simp] theorem attempt_banks (n : Fin 2) (o : TrainObs) (s : State) : (attempt n o s).banks = s.banks := by simp [attempt]
@[simp] theorem trainingRetry_banks (n : Fin 2) (s : State) : (trainingRetry n s).banks = s.banks := rfl
@[simp] theorem startTraining_banks (n : Fin 2) (s : State) : (startTraining n s).banks = s.banks := rfl
@[simp] theorem leaveDown_banks (n : Fin 2) (s : State) : (leaveDown n s).banks = s.banks := by simp [leaveDown]
theorem setSveCtrl_banks (n : Fin 2) (fwd ret : BitVec 2) (retrain : Bool) (s : State) :
    ∀ u, setSveCtrl n fwd ret retrain s = .ok u → u.banks = s.banks := by
  unfold setSveCtrl
  dsimp only
  repeat' split
  all_goals simp

@[simp] theorem wakeLanes_banks (n : Fin 2) (s : State) : (wakeLanes n s).banks = s.banks := by simp [wakeLanes]
@[simp] theorem lightTiles_banks (s : State) : (lightTiles s).banks = s.banks := by simp [lightTiles]
@[simp] theorem loseLink_banks (n : Fin 2) (s : State) : (loseLink n s).banks = s.banks := by simp [loseLink]
@[simp] theorem returnErrors_banks (n : Fin 2) (p : Packet) (s : State) : (returnErrors n p s).banks = s.banks := rfl
/-- A return packet is dropped with a count, or taken in a state of the same banks. -/
theorem tileReceive_cases (n : Fin 2) (kind : Byte) (limit : Nat) (p : Packet) (reserved : Bool) (act : State → State)
    (s : State) : (tileReceive n kind limit p reserved act s).banks = s.banks
      ∨ ∃ t : State, t.banks = s.banks ∧ tileReceive n kind limit p reserved act s = act t := by
  unfold tileReceive
  dsimp only
  repeat' split
  case isFalse.isFalse.isFalse => exact .inr ⟨_, by simp, rfl⟩
  all_goals exact .inl (by simp)

theorem tileReceive_banks (n : Fin 2) (kind : Byte) (limit : Nat) (p : Packet) (reserved : Bool) {act : State → State}
    (h : ∀ t, (act t).banks = t.banks) (s : State) : (tileReceive n kind limit p reserved act s).banks = s.banks := by
  obtain hs | ⟨t, ht, hs⟩ := tileReceive_cases n kind limit p reserved act s
  · exact hs
  · rw [hs, h, ht]

@[simp] theorem runAfterPark_banks (n : Fin 2) (s : State) : (runAfterPark n s).banks = s.banks := by simp [runAfterPark]
@[simp] theorem statusState_banks (n : Fin 2) (b : List Byte) (s : State) : (statusState n b s).banks = s.banks := by
  simp [statusState]

/-! ### Dma -/

@[simp] theorem drawn_banks (s : State) : (drawn s).banks = s.banks := rfl
theorem moveBeat_banks (d : Desc) (src : List Byte) (off len : Nat) (s : State) :
    ∀ u, moveBeat d src off len s = .ok u → u.banks = s.banks := by
  unfold moveBeat
  dsimp only
  repeat' split
  all_goals simp

theorem moveBeat_error_banks (d : Desc) (src : List Byte) (off len : Nat) (s : State) :
    ∀ e, moveBeat d src off len s = .error e → e.2.banks = s.banks := by
  unfold moveBeat
  dsimp only
  repeat' split
  all_goals rintro _ ⟨⟩
  all_goals simp

@[simp] theorem moveBeats_banks (d : Desc) (src : List Byte) (limit : Nat) (l : List (Nat × Nat)) (done : Nat) (s : State) :
    (moveBeats d src limit l done s).2.2.banks = s.banks := by
  induction l generalizing done s with
  | nil => rfl
  | cons b l ih =>
    simp only [moveBeats]
    split
    · rfl
    · split
      next h => exact moveBeat_error_banks _ _ _ _ _ _ h
      next h => rw [ih, moveBeat_banks _ _ _ _ _ _ h]

@[simp] theorem stageReadback_banks (k : Fin 8) (d : Desc) (src : List Byte) (done : Nat) (s : State) :
    (stageReadback k d src done s).banks = s.banks := rfl

@[simp] theorem transfer_banks (k : Fin 8) (d : Desc) (limit : Nat) (s : State) :
    (transfer k d limit s).2.2.banks = s.banks := by unfold transfer; dsimp only; split <;> simp

@[simp] theorem finishChain_banks (k : Fin 8) (s : State) : (finishChain k s).banks = s.banks := by simp [finishChain]
@[simp] theorem endChain_banks (k : Fin 8) (s : State) : (endChain k s).banks = s.banks := by unfold endChain; split <;> simp
@[simp] theorem badDescriptor_banks (k : Fin 8) (err : Byte) (s : State) : (badDescriptor k err s).banks = s.banks := by
  simp [badDescriptor]

@[simp] theorem writeBack_banks (k : Fin 8) (done : Nat) (err : Byte) (s : State) :
    (writeBack k done err s).banks = s.banks := by simp [writeBack]

@[simp] theorem nextDescriptor_banks (k : Fin 8) (d : Desc) (s : State) : (nextDescriptor k d s).banks = s.banks := by
  simp [nextDescriptor]

@[simp] theorem settleDescriptor_banks (k : Fin 8) (d : Desc) (done : Nat) (err : Byte) (s : State) :
    (settleDescriptor k d done err s).banks = s.banks := by simp [settleDescriptor]

@[simp] theorem fetchFails_banks (k : Fin 8) (err : Byte) (s : State) : (fetchFails k err s).banks = s.banks := by
  simp [fetchFails]

@[simp] theorem descriptorStep_banks (k : Fin 8) (source : FlashRead) (failAt : Nat) (s : State) :
    (descriptorStep k source failAt s).banks = s.banks := by simp [descriptorStep]

theorem goChannel_banks (k : Fin 8) (s : State) : ∀ u, goChannel k s = .ok u → u.banks = s.banks := by
  unfold goChannel
  dsimp only
  repeat' split
  all_goals simp

@[simp] theorem stopAt_banks (k : Fin 8) (moved : Nat) (err : Byte) (s : State) : (stopAt k moved err s).banks = s.banks := by
  simp [stopAt]

@[simp] theorem stopChannel_banks (k : Fin 8) (moved : Nat) (s : State) : (stopChannel k moved s).banks = s.banks := by
  simp [stopChannel]

/-! ### Check -/

@[simp] theorem endJob_banks (k : Fin 8) (f : Chk → Chk) (s : State) : (endJob k f s).banks = s.banks := by simp [endJob]
theorem startMem_banks (k : Fin 8) (s : State) : ∀ u, startMem k s = .ok u → u.banks = s.banks := by
  unfold startMem
  dsimp only
  repeat' split
  all_goals simp

theorem feedOpen_banks (k : Fin 8) (s : State) : ∀ u, feedOpen k s = .ok u → u.banks = s.banks := by
  unfold feedOpen
  dsimp only
  repeat' split
  all_goals simp

theorem chkFeed_banks (k : Fin 8) (bytes : List Byte) (s : State) : ∀ u, chkFeed k bytes s = .ok u → u.banks = s.banks := by
  unfold chkFeed
  repeat' split
  all_goals simp

theorem feedClose_banks (k : Fin 8) (s : State) : ∀ u, feedClose k s = .ok u → u.banks = s.banks := by
  unfold feedClose; dsimp only; split <;> simp

@[simp] theorem checkAbort_banks (k : Fin 8) (s : State) : (checkAbort k s).banks = s.banks := by simp [checkAbort]
theorem chkCtrl_banks (k : Fin 8) (w : U32) (s : State) : ∀ u, chkCtrl k w s = .ok u → u.banks = s.banks := by
  unfold chkCtrl
  split
  · simp
  · dsimp only
    split
    · simp
    · next s1 h =>
      have h1 : s1.banks = s.banks := by
        split at h
        · cases h; rfl
        · exact startMem_banks _ _ _ h
        · exact feedOpen_banks _ _ _ h
        · exact feedClose_banks _ _ _ h
        · cases h; simp
        · cases h
      rintro _ ⟨⟩
      exact h1

@[simp] theorem checkJobEnd_banks (k : Fin 8) (source : FlashRead) (s : State) : (checkJobEnd k source s).banks = s.banks := by
  unfold checkJobEnd
  dsimp only
  repeat' split
  all_goals simp

@[simp] theorem gorseAlive_banks (v : Byte) (s : State) : (gorseAlive v s).banks = s.banks := by simp [gorseAlive]
@[simp] theorem aliveStart_banks (s : State) : (aliveStart s).banks = s.banks := rfl
@[simp] theorem aliveEnd_banks (s : State) : (aliveEnd s).banks = s.banks := by simp [aliveEnd]

/-! ### Lamp -/

theorem lampOff_banks (s : State) : ∀ u, lampOff s = .ok u → u.banks = s.banks := by unfold lampOff; split <;> simp
theorem lampService_banks (s : State) : ∀ u, lampService s = .ok u → u.banks = s.banks := by unfold lampService; split <;> simp
theorem lampFallback_banks (s : State) : ∀ u, lampFallback s = .ok u → u.banks = s.banks := by
  unfold lampFallback; split <;> simp

theorem lampParked_banks (s : State) : ∀ u, lampParked s = .ok u → u.banks = s.banks := by unfold lampParked; split <;> simp
theorem lampTest_banks (holder : Bool) (s : State) : ∀ u, lampTest holder s = .ok u → u.banks = s.banks := by
  unfold lampTest
  repeat' split
  all_goals simp

theorem lampRecovery_banks (holder : Bool) (s : State) : ∀ u, lampRecovery holder s = .ok u → u.banks = s.banks := by
  unfold lampRecovery
  repeat' split
  all_goals simp

theorem lampCmd_banks (code : Byte) (holder : Bool) (s : State) : ∀ u, lampCmd code holder s = .ok u → u.banks = s.banks := by
  unfold lampCmd
  split
  · exact lampOff_banks s
  · exact lampService_banks s
  · exact lampFallback_banks s
  · exact lampParked_banks s
  · exact lampTest_banks holder s
  · exact lampRecovery_banks holder s
  · simp

theorem setTestSource_banks (v : Byte) (s : State) : ∀ u, setTestSource v s = .ok u → u.banks = s.banks := by
  unfold setTestSource
  dsimp only
  repeat' split
  all_goals simp

@[simp] theorem sendTest_banks (n : Fin 2) (w : U32) (s : State) : (sendTest n w s).banks = s.banks := rfl
theorem setTestCtrl_banks (w0 : U32) (s : State) : ∀ u, setTestCtrl w0 s = .ok u → u.banks = s.banks := by
  unfold setTestCtrl
  dsimp only
  repeat' split
  all_goals simp

/-! ### Twin -/

@[simp] theorem acceptTwin_banks (c : Carrier) (b : List Byte) (s : State) : (acceptTwin c b s).banks = s.banks := by
  unfold acceptTwin; split <;> rfl

@[simp] theorem dropTwin_banks (s : State) : (dropTwin s).banks = s.banks := rfl
@[simp] theorem actGlareSafe_banks (s : State) : (actGlareSafe s).banks = s.banks := by simp [actGlareSafe]
@[simp] theorem confirmTwin_banks (glare : Bool) (seq : U16) (s : State) : (confirmTwin glare seq s).banks = s.banks := by
  simp [confirmTwin]

@[simp] theorem unconfirmTwin_banks (w : TwinWindow) (s : State) : (unconfirmTwin w s).banks = s.banks := by
  simp [unconfirmTwin]

@[simp] theorem compareTwin_banks (w : TwinWindow) (b : List Byte) (s : State) : (compareTwin w b s).banks = s.banks := by
  simp [compareTwin]

@[simp] theorem lateTwin_banks (b : List Byte) (s : State) : (lateTwin b s).banks = s.banks := by simp [lateTwin]
@[simp] theorem openTwin_banks (c : Carrier) (b : List Byte) (s : State) : (openTwin c b s).banks = s.banks := rfl
@[simp] theorem windowTwin_banks (c : Carrier) (b : List Byte) (s : State) : (windowTwin c b s).banks = s.banks := by
  unfold windowTwin
  repeat' split
  all_goals simp

@[simp] theorem twinCopy_banks (c : Carrier) (b : List Byte) (s : State) : (twinCopy c b s).banks = s.banks := by
  unfold twinCopy
  repeat' split
  all_goals simp

@[simp] theorem countRx_banks (c : Carrier) (s : State) : (countRx c s).banks = s.banks := by simp [countRx]
@[simp] theorem dropFrame_banks (c : Carrier) (s : State) : (dropFrame c s).banks = s.banks := by simp [dropFrame]
@[simp] theorem takeTwin_banks (c : Carrier) (copy : TwinCopy) (s : State) : (takeTwin c copy s).banks = s.banks := by
  simp [takeTwin]

@[simp] theorem windowExpiry_banks (s : State) : (windowExpiry s).banks = s.banks := by unfold windowExpiry; split <;> simp
@[simp] theorem reportTwinTimeout_banks (s : State) : (reportTwinTimeout s).banks = s.banks := by simp [reportTwinTimeout]
@[simp] theorem twinTimeout_banks (s : State) : (twinTimeout s).banks = s.banks := by simp [twinTimeout]
@[simp] theorem twinTicket_banks (s : State) : (twinTicket s).banks = s.banks := by simp [twinTicket]

/-! ### TimeBase -/

@[simp] theorem settleUnlocked_banks (s : State) : (settleUnlocked s).banks = s.banks := rfl
@[simp] theorem setLocked_banks (locked : Bool) (s : State) : (setLocked locked s).banks = s.banks := rfl
@[simp] theorem steerRate_banks (s : State) : (steerRate s).banks = s.banks := rfl
@[simp] theorem steer_banks (offset : Int) (s : State) : (steer offset s).banks = s.banks := by simp [steer]
@[simp] theorem judgeLock_banks (offset : Int) (s : State) : (judgeLock offset s).banks = s.banks := by simp [judgeLock]
@[simp] theorem timeBaseSync_banks (gm : U64) (priority1 : Byte) (interval offset : Int) (s : State) :
    (timeBaseSync gm priority1 interval offset s).banks = s.banks := by simp [timeBaseSync]

@[simp] theorem unlockTimeout_banks (s : State) : (unlockTimeout s).banks = s.banks := rfl
@[simp] theorem grandmasterSync_banks (s : State) : (grandmasterSync s).banks = s.banks := rfl
@[simp] theorem setPriority1_banks (v : Byte) (s : State) : (setPriority1 v s).banks = s.banks := by simp [setPriority1]

/-! ### Analog -/

@[simp] theorem offerResult_banks (injected : Bool) (n code : Nat) (i : Fin 8) (s : State) :
    (offerResult injected n code i s).banks = s.banks := by
  unfold offerResult
  dsimp only
  repeat' split
  all_goals simp

@[simp] theorem offerAll_banks (injected : Bool) (n code : Nat) (s : State) :
    (offerAll injected n code s).banks = s.banks := by simp [offerAll]

@[simp] theorem checkReference_banks (code : Nat) (s : State) : (checkReference code s).banks = s.banks := by
  simp [checkReference]

@[simp] theorem putResult_banks (ch code : Nat) (s : State) : (putResult ch code s).banks = s.banks := by
  unfold putResult; split <;> rfl

@[simp] theorem regularConversionEnd_banks (microvolts : Nat) (s : State) :
    (regularConversionEnd microvolts s).banks = s.banks := by simp [regularConversionEnd]

@[simp] theorem startInjected_banks (src : BitVec 2) (s : State) : (startInjected src s).banks = s.banks := rfl
@[simp] theorem dropTrigger_banks (src : BitVec 2) (s : State) : (dropTrigger src s).banks = s.banks := by simp [dropTrigger]
@[simp] theorem injectedTrigger_banks (src : BitVec 2) (s : State) : (injectedTrigger src s).banks = s.banks := by
  simp [injectedTrigger]

@[simp] theorem skipBoth_banks (s : State) : (skipBoth s).banks = s.banks := rfl
@[simp] theorem midMarker_banks (subL : Bool) (s : State) : (midMarker subL s).banks = s.banks := by simp [midMarker]
@[simp] theorem injectedResult_banks (src : BitVec 2) (k : Fin 4) (code : Nat) (s : State) :
    (injectedResult src k code s).banks = s.banks := by simp [injectedResult]

@[simp] theorem injectedCompare_banks (src : BitVec 2) (code : Fin 4 → Nat) (n : Fin 2) (s : State) :
    (injectedCompare src code n s).banks = s.banks := by simp [injectedCompare]

@[simp] theorem injectedSequenceEnd_banks (microvolts : List Nat) (s : State) :
    (injectedSequenceEnd microvolts s).banks = s.banks := by simp [injectedSequenceEnd]

@[simp] theorem writeThermal_banks (kind cause : Byte) (trip : Int) (holdMs : Nat) (s : State) :
    (writeThermal kind cause trip holdMs s).banks = s.banks := by simp [writeThermal]

@[simp] theorem tilesInLimp_banks (s : State) : (tilesInLimp s).banks = s.banks := by
  refine forAll_banks (fun n t => ?_) s
  rw [clearBands_banks, State.modLink_banks]

@[simp] theorem thermalShutdown_banks (trip : Int) (broken : Bool) (s : State) :
    (thermalShutdown trip broken s).banks = s.banks := by simp [thermalShutdown]

@[simp] theorem noteTripPeak_banks (r : Int) (s : State) : (noteTripPeak r s).banks = s.banks := by simp [noteTripPeak]
@[simp] theorem derating_banks (s : State) : (derating s).banks = s.banks := by simp [derating]
@[simp] theorem tsensReading_banks (raw : Int) (railCode : Bool) (s : State) :
    (tsensReading raw railCode s).banks = s.banks := by simp [tsensReading]

@[simp] theorem noConversion_banks (s : State) : (noConversion s).banks = s.banks := by simp [noConversion]
@[simp] theorem thermalRestart_banks (s : State) : (thermalRestart s).banks = s.banks := by simp [thermalRestart]

/-! ### Frame -/

@[simp] theorem fsyncLoss_banks (s : State) : (fsyncLoss s).banks = s.banks := by simp [fsyncLoss]
@[simp] theorem noteUncorrectable_banks (words : List Nat) (s : State) : (noteUncorrectable words s).banks = s.banks := by
  simp [noteUncorrectable]

@[simp] theorem underrun_banks (n : Fin 8) (s : State) : (underrun n s).banks = s.banks := by simp [underrun]
@[simp] theorem residue_banks (n : Fin 2) (bad : List Nat) (s : State) : (residue n bad s).banks = s.banks := by simp [residue]
@[simp] theorem lateBand_banks (late : Nat) (s : State) : (lateBand late s).banks = s.banks := by simp [lateBand]
@[simp] theorem startCounts_banks (s : State) : (startCounts s).banks = s.banks := rfl
@[simp] theorem countBand_banks (n : Fin 2) (b : Nat) (subL : Bool) (r : BandCodes) (current : Nat) (s : State) :
    (countBand n b subL r current s).banks = s.banks := by simp [countBand]

@[simp] theorem renderUp_banks (left : Byte) (bad residues : List Nat) (late b : Nat) (subL : Bool) (n : Fin 2) (s : State) :
    (renderUp left bad residues late b subL n s).banks = s.banks := by simp [renderUp]

@[simp] theorem renderTile_banks (left : Byte) (bad residues : List Nat) (late b : Nat) (subL : Bool) (n : Fin 2) (s : State) :
    (renderTile left bad residues late b subL n s).banks = s.banks := by simp [renderTile]

@[simp] theorem renderSlot_banks (b : Nat) (subL : Bool) (obs : SlotObs) (s : State) :
    (renderSlot b subL obs s).banks = s.banks := by simp [renderSlot]

@[simp] theorem noteLatch_banks (src : Source) (s : State) : (noteLatch src s).banks = s.banks := by
  unfold noteLatch; split <;> rfl

@[simp] theorem latchBand_banks (n : Fin 2) (b : Nat) (subL : Bool) (p : Band) (s : State) :
    (latchBand n b subL p s).banks = s.banks := by simp [latchBand]

@[simp] theorem syncTile_banks (n : Fin 2) (s : State) : (syncTile n s).banks = s.banks := by
  unfold syncTile
  dsimp only
  repeat' split
  all_goals simp

@[simp] theorem slotCommands_banks (s : State) : (slotCommands s).banks = s.banks := by simp [slotCommands]
@[simp] theorem slotDiv_banks (s : State) : (slotDiv s).banks = s.banks := by
  refine (forAll_banks (fun n t => ?_) _).trans rfl
  split
  · exact foldl_banks (fun _ _ => sendTiming_banks _ _ _ _) _ _
  · rfl

@[simp] theorem publishCounts_banks (s : State) : (publishCounts s).banks = s.banks := rfl
@[simp] theorem slotHolds_banks (s : State) : (slotHolds s).banks = s.banks := by unfold slotHolds; split <;> rfl
@[simp] theorem slotMarkers_banks (s : State) : (slotMarkers s).banks = s.banks := by unfold slotMarkers; split <;> simp
@[simp] theorem slotRender_banks (obs : SlotObs) (s : State) : (slotRender obs s).banks = s.banks := by
  unfold slotRender; split <;> simp

@[simp] theorem frameSlotStart_banks (j : Fin 68) (obs : SlotObs) (s : State) : (frameSlotStart j obs s).banks = s.banks := by
  unfold frameSlotStart
  split
  · rfl
  · simp [forAll_banks countSlot_banks]

theorem swardFindings_banks (s : State) : ∀ f ∈ swardFindings s, ∀ t, (f t).banks = t.banks := by
  simp only [swardFindings, List.mem_append, List.mem_map]
  rintro _ ((⟨n, -, rfl⟩ | ⟨n, -, rfl⟩) | ⟨n, -, rfl⟩) t <;> simp

@[simp] theorem chooseService_banks (s : State) : (chooseService s).2.banks = s.banks := by
  unfold chooseService
  dsimp only
  split
  · simp
  · rw [setLamp_banks, foldl_apply_banks (swardFindings_banks s)]

@[simp] theorem chooseTestSward_banks (s : State) : (chooseTestSward s).2.banks = s.banks :=
  foldl_apply_banks (swardFindings_banks s) s

@[simp] theorem chooseSource_banks (s : State) : (chooseSource s).2.banks = s.banks := by
  unfold chooseSource
  repeat' split
  all_goals simp

@[simp] theorem selectTicket_banks (s : State) : (selectTicket s).banks = s.banks := by simp [selectTicket]
@[simp] theorem openFrame_banks (s : State) : (openFrame s).banks = s.banks := by simp [openFrame]
@[simp] theorem latchAlign_banks (s : State) : (latchAlign s).banks = s.banks := rfl
@[simp] theorem correctPhase_banks (s : State) : (correctPhase s).banks = s.banks := by
  unfold correctPhase; dsimp only; split <;> simp

@[simp] theorem stampFrame_banks (s : State) : (stampFrame s).banks = s.banks := rfl
@[simp] theorem latchSettings_banks (s : State) : (latchSettings s).banks = s.banks := rfl
@[simp] theorem handOverTicket_banks (meshSwap : Bool) (s : State) : (handOverTicket meshSwap s).banks = s.banks := by
  simp [handOverTicket]

@[simp] theorem engageSpares_banks (s : State) : (engageSpares s).banks = s.banks := rfl
@[simp] theorem thaw_banks (s : State) : (thaw s).banks = s.banks := by simp [thaw]
@[simp] theorem freshFrame_banks (s : State) : (freshFrame s).banks = s.banks := rfl
@[simp] theorem referenceTicket_banks (s : State) : (referenceTicket s).banks = s.banks := rfl
@[simp] theorem lightTicket_banks (s : State) : (lightTicket s).banks = s.banks := rfl
@[simp] theorem bootStage_banks (s : State) : (bootStage s).banks = s.banks := rfl
@[simp] theorem handshakeTicket_banks (s : State) : (handshakeTicket s).banks = s.banks := by simp [handshakeTicket]

/-! ### Params -/

theorem paramNet_banks (base sub v : Nat) (s : State) : ∀ u, paramNet base sub v s = some u → u.banks = s.banks := by
  unfold paramNet; split <;> simp

@[simp] theorem stage_eq_some {n : Fin 8} {f : LayerConfig → LayerConfig} {s t : State} : stage n f s = some t
    ↔ (s.modLayer n fun l => { l with staging := (f l.staging).unreserved, edited := true }) = t := by
  simp [stage]

theorem paramLayers_banks (base m sub v : Nat) (s : State) :
    ∀ u, paramLayers base m sub v s = some u → u.banks = s.banks := by unfold paramLayers; split <;> simp

theorem paramWarp_banks (base sub v : Nat) (s : State) : ∀ u, paramWarp base sub v s = some u → u.banks = s.banks := by
  unfold paramWarp
  dsimp only
  split
  case h_10 =>
    intro _ h
    obtain ⟨-, rfl⟩ := within_eq_some.1 h
    rfl
  all_goals simp

theorem paramFrame_banks (base sub v : Nat) (s : State) : ∀ u, paramFrame base sub v s = some u → u.banks = s.banks := by
  unfold paramFrame; split <;> simp

theorem paramLinks_banks (base m sub v : Nat) (s : State) : ∀ u, paramLinks base m sub v s = some u → u.banks = s.banks := by
  unfold paramLinks; split <;> simp

theorem paramGuard_banks (base sub v : Nat) (s : State) : ∀ u, paramGuard base sub v s = some u → u.banks = s.banks := by
  unfold paramGuard; split <;> simp

theorem paramSafety_banks (base sub v : Nat) (s : State) : ∀ u, paramSafety base sub v s = some u → u.banks = s.banks := by
  unfold paramSafety; split <;> simp

theorem paramMgmt_banks (base m sub v : Nat) (s : State) : ∀ u, paramMgmt base m sub v s = some u → u.banks = s.banks := by
  unfold paramMgmt; split <;> simp

theorem paramAnalog_banks (base m sub v : Nat) (s : State) : ∀ u, paramAnalog base m sub v s = some u → u.banks = s.banks := by
  unfold paramAnalog
  repeat' split
  all_goals simp

theorem paramPower_banks (base sub v : Nat) (s : State) : ∀ u, paramPower base sub v s = some u → u.banks = s.banks := by
  unfold paramPower; split <;> simp

/-! ### Power -/

theorem enterPower_banks (t : PowerState) (s : State) : ∀ u, enterPower t s = .ok u → u.banks = s.banks := by
  unfold enterPower; split <;> simp

@[simp] theorem acknowledge_banks (step : Nat) (s : State) : (acknowledge step s).banks = s.banks := by
  unfold acknowledge
  dsimp only [State.modPower_banks]
  split
  · exact forAll_banks (fun _ _ => State.modLink_banks _ _ _) _
  · split <;> rfl
  · rfl

@[simp] theorem idleLanes_banks (s : State) : (idleLanes s).banks = s.banks := by
  unfold idleLanes
  dsimp only
  split <;> exact forAll_banks (fun _ _ => State.modLink_banks _ _ _) _

@[simp] theorem relightLanes_banks (s : State) : (relightLanes s).banks = s.banks := by unfold relightLanes; split <;> rfl
@[simp] theorem refuseEntry_banks (code : Byte) (domain : BitVec 4) (s : State) :
    (refuseEntry code domain s).banks = s.banks := by simp [refuseEntry]

@[simp] theorem saveRetention_banks (s : State) : (saveRetention s).banks = s.banks := rfl
@[simp] theorem flushReply_banks (s : State) : (flushReply s).banks = s.banks := by unfold flushReply; split <;> rfl
@[simp] theorem sleepDomains_banks (s : State) : (sleepDomains s).banks = s.banks := by simp [sleepDomains]
@[simp] theorem setPower_banks (t : PowerState) (s : State) : (setPower t s).banks = s.banks := rfl
@[simp] theorem noteWake_banks (source : BitVec 4) (s : State) : (noteWake source s).banks = s.banks := rfl
@[simp] theorem startGrid_banks (s : State) : (startGrid s).banks = s.banks := rfl
@[simp] theorem startAdc_banks (s : State) : (startAdc s).banks = s.banks := rfl
@[simp] theorem wakeIdle_banks (source : BitVec 4) (s : State) : (wakeIdle source s).banks = s.banks := by simp [wakeIdle]
@[simp] theorem restoreLevel_banks (s : State) : (restoreLevel s).banks = s.banks := rfl
@[simp] theorem restoreLayers_banks (s : State) : (restoreLayers s).banks = s.banks := rfl
@[simp] theorem settleQueue_banks (s : State) : (settleQueue s).banks = s.banks := by simp [settleQueue]
@[simp] theorem restoreDiag_banks (s : State) : (restoreDiag s).banks = s.banks := by
  refine (settleQueue_banks _).trans (forAll_banks (fun n t => ?_) _)
  rfl

@[simp] theorem loseDiag_banks (s : State) : (loseDiag s).banks = s.banks := by
  refine (settleQueue_banks _).trans (forAll_banks (fun n t => ?_) _)
  rfl

@[simp] theorem restoreSupplies_banks (s : State) : (restoreSupplies s).banks = s.banks := by simp [restoreSupplies]
@[simp] theorem restoreBank_banks (b : Fin 4) (ok : Bool) (s : State) : (restoreBank b ok s).banks = s.banks := by
  unfold restoreBank; split <;> simp

@[simp] theorem noteBanks_banks (ok : BitVec 4) (s : State) : (noteBanks ok s).banks = s.banks := rfl
@[simp] theorem reportBanks_banks (ok : BitVec 4) (s : State) : (reportBanks ok s).banks = s.banks := by simp [reportBanks]

/-! ### Boot -/

@[simp] theorem bootImage_banks (env : BootEnv) (s : State) : (bootImage env s).1.banks = s.banks := by
  unfold bootImage; dsimp only; split <;> simp

@[simp] theorem bootCounters_banks (code : Byte) (s : State) : (bootCounters code s).banks = s.banks := by simp [bootCounters]
@[simp] theorem bootLockout_banks (s : State) : (bootLockout s).banks = s.banks := rfl
@[simp] theorem trainAttempts_banks (n : Fin 2) (l : List TrainObs) (s : State) : (trainAttempts n l s).banks = s.banks := by
  induction l generalizing s with
  | nil => rfl
  | cons o l ih => simp only [trainAttempts]; split <;> simp [ih]

@[simp] theorem trainLinks_banks (env : BootEnv) (s : State) : (trainLinks env s).banks = s.banks := by simp [trainLinks]
@[simp] theorem loadHedge_banks (read : FlashRead) (parity : Bool) (s : State) :
    (loadHedge read parity s).banks = s.banks := by simp [loadHedge]

@[simp] theorem readCalset_banks (s : State) : (readCalset s).banks = s.banks := rfl
@[simp] theorem bootReports_banks (failed : Nat) (s : State) : (bootReports failed s).banks = s.banks := by simp [bootReports]
@[simp] theorem startClocks_banks (code : Byte) (env : BootEnv) (s : State) : (startClocks code env s).banks = s.banks := rfl
@[simp] theorem startServices_banks (s : State) : (startServices s).banks = s.banks := rfl
@[simp] theorem bootGridStage_banks (s : State) : (bootGridStage s).banks = s.banks := rfl
@[simp] theorem clearAon_banks (s : State) : (clearAon s).banks = s.banks := rfl
@[simp] theorem stagingOnly_banks (s : State) : (stagingOnly s).banks = s.banks := rfl

/-! ### ObjAccess -/

theorem effectOf_banks {s : State} {r : Except Abort State} (h : ∀ u, r = .ok u → u.banks = s.banks) :
    (effectOf s r).state.banks = s.banks := by
  cases r with
  | ok t => exact h t rfl
  | error a => rfl

@[simp] theorem effectOfBool_state (r : Bool × State) : (effectOfBool r).state = r.2 := by
  unfold effectOfBool; split <;> rfl

@[simp] theorem activateEffect_state (r : Bool × State) : (activateEffect r).state = r.2 := by
  unfold activateEffect; split <;> [rfl; split <;> rfl]

theorem boolEffect_banks (b : List Byte) {s : State} {act : Effect} (h : act.state.banks = s.banks) :
    (boolEffect b s act).state.banks = s.banks := by
  simp [boolEffect, h]

@[simp] theorem setPassword_banks (pw : List Byte) (s : State) : (setPassword pw s).banks = s.banks := rfl
@[simp] theorem logAccess_banks (kind : Byte) (index : U16) (sub : Byte) (r : Requester) (s : State) :
    (logAccess kind index sub r s).1.banks = s.banks := by simp [logAccess]

@[simp] theorem storeFails_banks (s : State) : (storeFails s).banks = s.banks := by simp [storeFails]
@[simp] theorem grantUnlock_banks (r : Requester) (s : State) : (grantUnlock r s).state.banks = s.banks := by
  have hb := logAccess_banks 2 0 0 r s
  unfold grantUnlock
  split
  all_goals
    next h => rw [h] at hb; simpa using hb

@[simp] theorem failUnlock_banks (r : Requester) (s : State) : (failUnlock r s).state.banks = s.banks := by simp [failUnlock]
@[simp] theorem changePassword_banks (r : Requester) (pw : List Byte) (s : State) :
    (changePassword r pw s).1.banks = s.banks := by
  have hb := logAccess_banks 7 0x6020 3 r s
  unfold changePassword
  split
  all_goals
    next h => rw [h] at hb; simpa using hb

@[simp] theorem unlockWrite_banks (r : Requester) (pw : List Byte) (s : State) : (unlockWrite r pw s).state.banks = s.banks := by
  have h := changePassword_banks r pw s
  unfold unlockWrite
  repeat' split
  all_goals simp_all

@[simp] theorem lockWrite_banks (r : Requester) (b : List Byte) (s : State) : (lockWrite r b s).state.banks = s.banks := by
  unfold lockWrite
  split
  · rfl
  · exact boolEffect_banks b (by simp)

@[simp] theorem pwNewWrite_banks (r : Requester) (pw : List Byte) (s : State) : (pwNewWrite r pw s).state.banks = s.banks := by
  have h := changePassword_banks r pw s
  unfold pwNewWrite
  repeat' split
  all_goals simp_all

@[simp] theorem persist_banks (index sub : Nat) (b : List Byte) (s : State) : (persist index sub b s).banks = s.banks := by
  simp [persist]

theorem commitEffect_banks (w : Awaits) {s : State} {r : Except Abort State} (h : ∀ u, r = .ok u → u.banks = s.banks) :
    (commitEffect w s r).state.banks = s.banks := by
  cases r with
  | ok t => exact h t rfl
  | error a => rfl

@[simp] theorem commitWrite_banks (n : Fin 8) (w : U32) (s : State) : (commitWrite n w s).state.banks = s.banks := by
  unfold commitWrite
  dsimp only
  split
  · rfl
  · split
    · rfl
    · split
      · exact commitEffect_banks _ (commitLayer_banks _ _ _ _ _)
      · exact effectOf_banks (cancelLayer_banks n s)
      · exact effectOf_banks (discardLayer_banks n s)

@[simp] theorem groupWrite_banks (w : U32) (s : State) : (groupWrite w s).state.banks = s.banks := by
  unfold groupWrite
  dsimp only
  split
  · rfl
  · split
    · exact effectOf_banks (commitGroup_banks _ _ _ _ s)
    · exact commitEffect_banks _ (commitGroup_banks _ _ _ _ s)

@[simp] theorem svhWrite_banks (w : U32) (s : State) : (svhWrite w s).state.banks = s.banks := by simp [svhWrite]
@[simp] theorem sveWrite_banks (n : Fin 2) (w : U32) (s : State) : (sveWrite n w s).state.banks = s.banks := by
  unfold sveWrite
  split
  · rfl
  · split
    next => rfl
    next h => exact setSveCtrl_banks _ _ _ _ _ _ h

@[simp] theorem schedStartWrite_banks (w : U32) (s : State) : (schedStartWrite w s).state.banks = s.banks := by
  unfold schedStartWrite
  split <;> simp

@[simp] theorem testCtrlWrite_banks (w : U32) (s : State) : (testCtrlWrite w s).state.banks = s.banks := by
  unfold testCtrlWrite
  split
  · rfl
  · exact effectOf_banks (setTestCtrl_banks w s)

@[simp] theorem commandWake_banks (s : State) : (commandWake s).banks = s.banks := by simp [commandWake]
@[simp] theorem lampWrite_banks (r : Requester) (v : Byte) (s : State) : (lampWrite r v s).state.banks = s.banks := by
  unfold lampWrite
  split
  next => rfl
  next h =>
    split
    · exact lampCmd_banks _ _ _ _ h
    · exact effectOf_banks fun u hu => (lampCmd_banks _ _ _ u hu).trans (commandWake_banks s)

@[simp] theorem powerWrite_banks (v : Nat) (s : State) : (powerWrite v s).state.banks = s.banks := by
  unfold powerWrite
  split
  · rfl
  · simp
  · split
    next h => exact enterPower_banks _ _ _ h
    next => rfl

@[simp] theorem clearWrite_banks (q : U16) (s : State) : (clearWrite q s).state.banks = s.banks := by
  have h := faultClear_banks q s
  unfold clearWrite
  split <;> simp_all

@[simp] theorem chWrite_banks (k : Fin 8) (w : U32) (moved : Option Nat) (s : State) :
    (chWrite k w moved s).state.banks = s.banks := by
  unfold chWrite
  split
  · rfl
  · exact effectOf_banks (goChannel_banks k s)
  · split <;> simp
  · rfl

@[simp] theorem nvmWrite_banks (v : Nat) (s : State) : (nvmWrite v s).state.banks = s.banks := by
  unfold nvmWrite; split <;> simp

@[simp] theorem openCalset_banks (len : Nat) (s : State) : (openCalset len s).banks = s.banks := rfl
@[simp] theorem programCalset_banks (h : List Byte) (s : State) : (programCalset h s).banks = s.banks := by
  rw [programCalset, with_mem_banks, openCalset_banks]

@[simp] theorem calsetWrite_banks (s : State) : (calsetWrite s).state.banks = s.banks := by
  unfold calsetWrite
  dsimp only
  split
  · rw [Effect.refused_state]
  · rw [Effect.awaits_state, with_mgmt_banks, ite_banks, programCalset_banks, reportBad_banks, ite_self]

@[simp] theorem resetWrite_banks (v : U32) (env : Option BootEnv) (s : State) : (resetWrite v env s).state.banks = s.banks := by
  unfold resetWrite
  repeat' split
  all_goals simp

@[simp] theorem descSelWrite_banks (c : Carrier) (w : U32) (s : State) : (descSelWrite c w s).state.banks = s.banks := by
  simp [descSelWrite]

@[simp] theorem noteRead_banks (index sub : Nat) (b : List Byte) (s : State) : (noteRead index sub b s).banks = s.banks := by
  unfold noteRead; split <;> simp

/-! ### Ports -/

@[simp] theorem sendResponse_banks (c : Carrier) (x : Response) (s : State) : (sendResponse c x s).banks = s.banks := by
  simp [sendResponse]

@[simp] theorem answer_banks (q : Request) (cmd : Byte) (data : List Byte) (s : State) :
    (answer q cmd data s).banks = s.banks := by simp [answer]

@[simp] theorem answerAbort_banks (q : Request) (a : Abort) (s : State) : (answerAbort q a s).banks = s.banks := by
  simp [answerAbort]

@[simp] theorem answerDone_banks (q : Request) (s : State) : (answerDone q s).banks = s.banks := by simp [answerDone]
@[simp] theorem noteRequest_banks (q : Request) (s : State) : (noteRequest q s).banks = s.banks := by simp [noteRequest]
@[simp] theorem sendBusy_banks (q : Request) (v : Service) (op : LongOp) (s : State) :
    (sendBusy q v op s).banks = s.banks := by simp [sendBusy]

@[simp] theorem endTransfer_banks (c : Carrier) (s : State) : (endTransfer c s).banks = s.banks := by simp [endTransfer]
@[simp] theorem noteLockout_banks (q : Request) (s : State) : (noteLockout q s).banks = s.banks := by simp [noteLockout]
@[simp] theorem openTransfer_banks (q : Request) (isWrite : Bool) (total : Nat) (bytes : List Byte) (s : State) :
    (openTransfer q isWrite total bytes s).banks = s.banks := by simp [openTransfer]

@[simp] theorem runReadInit_banks (q : Request) (s : State) : (runReadInit q s).banks = s.banks := by
  unfold runReadInit; split <;> simp

@[simp] theorem runWriteInit_banks (q : Request) (s : State) : (runWriteInit q s).banks = s.banks := by
  unfold runWriteInit; dsimp only; split <;> simp

@[simp] theorem runRead_banks (q : Request) (s : State) : (runRead q s).banks = s.banks := by unfold runRead; split <;> simp
@[simp] theorem readSegment_banks (q : Request) (t : Transfer) (s : State) : (readSegment q t s).banks = s.banks := by
  simp [readSegment]

@[simp] theorem runAbort_banks (q : Request) (s : State) : (runAbort q s).banks = s.banks := by simp [runAbort]
@[simp] theorem answerService_banks (c : Carrier) (refusal : Option Abort) (s : State) :
    (answerService c refusal s).banks = s.banks := by
  unfold answerService
  repeat' split
  all_goals simp

@[simp] theorem touchTransfer_banks (q : Request) (s : State) : (touchTransfer q s).banks = s.banks := by simp [touchTransfer]
@[simp] theorem resend_banks (q : Request) (s : State) : (resend q s).banks = s.banks := by
  unfold resend
  repeat' split
  all_goals simp

@[simp] theorem noteTid_banks (q : Request) (s : State) : (noteTid q s).banks = s.banks := by simp [noteTid]
@[simp] theorem settleBoot_banks (before after : State) : (settleBoot before after).banks = after.banks := by simp [settleBoot]
@[simp] theorem segTimeout_banks (c : Carrier) (s : State) : (segTimeout c s).banks = s.banks := by
  unfold segTimeout; split <;> simp

@[simp] theorem busyTick_banks (c : Carrier) (s : State) : (busyTick c s).banks = s.banks := by unfold busyTick; split <;> simp
@[simp] theorem sendTelegram_banks (c : Carrier) (s : State) : (sendTelegram c s).banks = s.banks := by
  unfold sendTelegram
  repeat' split
  all_goals simp

/-! ### Completions -/

@[simp] theorem writeCalset_banks (src : Nat) (h : List Byte) (s : State) : (writeCalset src h s).banks = s.banks := rfl
@[simp] theorem answerPower_banks (s : State) : (answerPower s).banks = s.banks := by simp [answerPower]
@[simp] theorem timerWake_banks (source : Fin 7) (s : State) : (timerWake source s).banks = s.banks := by simp [timerWake]
@[simp] theorem dewSample_banks (ain : List Nat) (s : State) : (dewSample ain s).banks = s.banks := by simp [dewSample]

/-! ### Supplies -/

@[simp] theorem longDip_banks (i : Fin 4) (s : State) : (longDip i s).banks = s.banks := by simp [longDip]
@[simp] theorem finding_banks (i : Fin 11) (cls : Nat) (s : State) : (finding i cls s).banks = s.banks := by simp [finding]
@[simp] theorem raiseFindings_banks (s : State) : (raiseFindings s).banks = s.banks := by simp [raiseFindings]
@[simp] theorem clockWindow_banks (counts : List U32) (s : State) : (clockWindow counts s).banks = s.banks := by
  simp [clockWindow]

@[simp] theorem pllLockLoss_banks (s : State) : (pllLockLoss s).banks = s.banks := by simp [pllLockLoss]
@[simp] theorem safeClockReturn_banks (s : State) : (safeClockReturn s).banks = s.banks := by simp [safeClockReturn]
@[simp] theorem spareBank_banks (bank : Fin 48) (s : State) : (spareBank bank s).banks = s.banks := by simp [spareBank]
@[simp] theorem acceptBefore_banks (cause index : Byte) (s : State) : (acceptBefore cause index s).banks = s.banks := by
  simp [acceptBefore]

@[simp] theorem scrubWord_banks (s : State) (w : Nat) : (scrubWord s w).banks = s.banks := by simp [scrubWord]
@[simp] theorem scrubBank_banks (corrected : List (Fin 48 × Nat)) (words : List Nat) (b : Fin 48) (s : State) :
    (scrubBank corrected words b s).banks = s.banks := by simp [scrubBank]

@[simp] theorem scrubPass_banks (corrected : List (Fin 48 × Nat)) (uncorrectable : List Nat) (s : State) :
    (scrubPass corrected uncorrectable s).banks = s.banks := by simp [scrubPass]

end Sys2Proof.Machine
end

section
/-!
At most one bank of a pair is ACTIVE (R118): kept by every update of a pair, and from there by each function of the model that
reaches one, up to a step.
-/
namespace Sys2Proof.Machine

/-! ### one ACTIVE bank of a pair (R118) -/

def BankPair.OneActive (b : BankPair) : Prop := ¬(b.bank0 = .active ∧ b.bank1 = .active)

/-- At most one bank of each pair is ACTIVE. -/
def OneActive (v : Vector BankPair 8) : Prop := ∀ p : Fin 8, v[p].OneActive

theorem oneActive_replicate : OneActive (.replicate 8 {}) := by
  intro p
  simp [BankPair.OneActive]

theorem OneActive.congr {s t : State} (h : OneActive s.banks) (e : t.banks = s.banks) : OneActive t.banks := e ▸ h

/-- A pair of which one bank goes into another state than ACTIVE has at most the other one ACTIVE. -/
theorem BankPair.setState_oneActive (b : BankPair) (i : Nat) {x : BankState} (hx : x ≠ .active) :
    (b.setState i x).OneActive := by
  unfold BankPair.setState
  split <;> simp [BankPair.OneActive, hx]

/-- Of a pair without an ACTIVE bank one may become ACTIVE. -/
theorem BankPair.oneActive_activate {b : BankPair} (h0 : b.bank0 ≠ .active) (h1 : b.bank1 ≠ .active) (i : Nat) :
    (b.setState i .active).OneActive := by
  unfold BankPair.setState
  split <;> simp [BankPair.OneActive, h0, h1]

theorem BankPair.activeBank_eq_none {b : BankPair} (h : b.activeBank = none) : b.bank0 ≠ .active ∧ b.bank1 ≠ .active := by
  unfold BankPair.activeBank at h
  split at h
  · cases h
  next h0 =>
    split at h
    · cases h
    next h1 => exact ⟨h0, h1⟩

/-- The ACTIVE bank leaves its state: none is left. -/
theorem BankPair.OneActive.retire {b : BankPair} (h : b.OneActive) {a : Nat} (ha : b.activeBank = some a) {x : BankState}
    (hx : x ≠ .active) : (b.setState a x).bank0 ≠ .active ∧ (b.setState a x).bank1 ≠ .active := by
  unfold BankPair.activeBank at ha
  split at ha
  next h0 =>
    cases ha
    exact ⟨hx, fun h1 => h ⟨h0, h1⟩⟩
  next h0 =>
    split at ha <;> cases ha
    exact ⟨h0, hx⟩

theorem modBank_oneActive {s : State} (h : OneActive s.banks) (p : Fin 8) {f : BankPair → BankPair}
    (hf : ∀ b, b.OneActive → (f b).OneActive) : OneActive (s.modBank p f).banks := by
  intro q
  by_cases hq : p = q
  · subst hq
    rw [State.modBank, vmod_same]
    exact hf _ (h p)
  · rw [State.modBank, vmod_other _ _ _ _ hq]
    exact h q

theorem foldl_oneActive {α : Type} {f : State → α → State} (hf : ∀ t a, OneActive t.banks → OneActive (f t a).banks)
    (l : List α) {s : State} (h : OneActive s.banks) : OneActive (l.foldl f s).banks := by
  induction l generalizing s with
  | nil => exact h
  | cons a l ih => exact ih (hf s a h)

theorem forAll_oneActive {n : Nat} {f : Fin n → State → State} (hf : ∀ i t, OneActive t.banks → OneActive (f i t).banks)
    {s : State} (h : OneActive s.banks) : OneActive (forAll f s).banks :=
  foldl_oneActive (fun t i => hf i t) _ h

/-! ### banks, packs and the ticket close (chapter 6) -/

theorem openBank_oneActive (p : Fin 8) {s : State} (h : OneActive s.banks) : OneActive (openBank p s).banks := by
  refine modBank_oneActive h p fun b hb => ?_
  have hs := b.setState_oneActive b.inactive (x := .opened) nofun
  dsimp only
  split <;> exact hs

theorem bankOpen_oneActive (p : Fin 8) {s : State} (h : OneActive s.banks) :
    ∀ u, bankOpen p s = .ok u → OneActive u.banks := by
  unfold bankOpen
  split
  · rintro _ ⟨⟩
  · rintro _ ⟨⟩
    exact openBank_oneActive p h

theorem requestSwap_oneActive (p : Fin 8) (group : Bool) {s : State} (h : OneActive s.banks) :
    ∀ u, requestSwap p group s = .ok u → OneActive u.banks := by
  unfold requestSwap
  dsimp only
  split
  case h_4 => rintro _ ⟨⟩
  all_goals
    rintro _ ⟨⟩
    rw [queueJob_banks]
    exact modBank_oneActive h p fun b _ => b.setState_oneActive _ (x := .verifying) nofun

theorem bankSwap_oneActive (p : Fin 8) {s : State} (h : OneActive s.banks) :
    ∀ u, bankSwap p s = .ok u → OneActive u.banks := by
  unfold bankSwap
  extract_lets i okState
  split
  · rintro _ ⟨⟩
  · split
    · rintro _ ⟨⟩
    · exact requestSwap_oneActive p _ h

theorem bankCancel_oneActive (p : Fin 8) {s : State} (h : OneActive s.banks) : OneActive (bankCancel p s).banks := by
  unfold bankCancel
  split
  · exact h
  · rw [dropJob_banks]
    refine modBank_oneActive h p fun b hb => ?_
    dsimp only
    split
    · exact b.setState_oneActive _ (x := .opened) nofun
    · exact hb

theorem cancelGroup_oneActive {s : State} (h : OneActive s.banks) : OneActive (cancelGroup s).banks := by
  refine forAll_oneActive (fun p t ht => ?_) h
  split
  · exact bankCancel_oneActive p ht
  · exact ht

theorem endActivation_oneActive (result entry : Byte) (x : PackState) {s : State} (h : OneActive s.banks) :
    OneActive (endActivation result entry x s).banks := by
  dsimp only [endActivation]
  exact cancelGroup_oneActive h

theorem settleVerification_oneActive (p : Fin 8) (v : Verdict) {s : State} (h : OneActive s.banks) :
    OneActive (settleVerification p v s).banks := by
  unfold settleVerification
  extract_lets i ok member s1 s2 warp s3
  have hs : OneActive s1.banks := by
    refine modBank_oneActive h p fun b hb => ?_
    have hx := b.setState_oneActive i (x := if ok then .valid else .failed) (by split <;> nofun)
    dsimp only
    split <;> exact hx
  split
  · exact hs
  · have hs3 : OneActive s3.banks := hs.congr (by simp [s3, s2])
    split
    · exact endActivation_oneActive _ _ _ hs3
    · exact hs3

/-- A swap (R122): the ACTIVE bank becomes VALID before the other one becomes ACTIVE. -/
theorem closePair_oneActive (before : State) (p : Fin 8) {s : State} (h : OneActive s.banks) :
    OneActive (closePair before p s).banks := by
  unfold closePair
  extract_lets r i s1
  have hs : OneActive s1.banks := by
    refine modBank_oneActive h p fun b hb => ?_
    dsimp only
    split
    next a ha =>
      obtain ⟨h0, h1⟩ := hb.retire ha (x := .valid) nofun
      exact BankPair.oneActive_activate h0 h1 i
    next ha =>
      obtain ⟨h0, h1⟩ := BankPair.activeBank_eq_none ha
      exact BankPair.oneActive_activate h0 h1 i
  split
  · exact h
  · split
    · split <;> exact hs
    · exact modBank_oneActive h p fun b hb => hb

theorem swapBanks_oneActive {s : State} (h : OneActive s.banks) : OneActive (swapBanks s).banks := by
  have hs := forAll_oneActive (closePair_oneActive s) h
  unfold swapBanks
  dsimp only
  split
  · split <;> exact hs
  · exact hs

theorem deferLimitReached_oneActive (p : Fin 8) {s : State} (h : OneActive s.banks) :
    OneActive (deferLimitReached p s).banks := by
  unfold deferLimitReached
  dsimp only
  split
  · rw [report1_banks]
    exact modBank_oneActive h p fun b hb => hb
  · exact h

theorem openPackBanks_oneActive {s : State} (h : OneActive s.banks) : OneActive (openPackBanks s).banks := by
  refine forAll_oneActive (fun p t ht => ?_) h
  split
  · exact openBank_oneActive p ht
  · exact ht

theorem packOpen_oneActive (slot : Option Byte) {s : State} (h : OneActive s.banks) : OneActive (packOpen slot s).2.banks := by
  unfold packOpen
  dsimp only
  split
  · exact h
  · dsimp only
    exact openPackBanks_oneActive h

theorem requestGroup_oneActive (l : List (Fin 8)) {s : State} (h : OneActive s.banks) :
    ∀ u, requestGroup l s = .ok u → OneActive u.banks := by
  induction l generalizing s with
  | nil => rintro _ ⟨⟩; exact h
  | cons p l ih =>
    unfold requestGroup
    split
    next hs => exact ih (requestSwap_oneActive p true h _ hs)
    next => rintro _ ⟨⟩

theorem packActivate_oneActive {s : State} (h : OneActive s.banks) : OneActive (packActivate s).2.banks := by
  unfold packActivate
  split
  · exact h
  · dsimp only
    split
    · exact endActivation_oneActive _ _ _ (h.congr (by simp))
    · split
      next hs => exact requestGroup_oneActive _ (h.congr (by simp)) _ hs
      next => exact endActivation_oneActive _ _ _ (h.congr (by simp))

theorem cancelPackPairs_oneActive {s : State} (h : OneActive s.banks) : OneActive (cancelPackPairs s).banks := by
  refine forAll_oneActive (fun p t ht => ?_) h
  split
  · exact bankCancel_oneActive p ht
  · exact ht

theorem packCancel_oneActive {s : State} (h : OneActive s.banks) : OneActive (packCancel s).2.banks := by
  unfold packCancel
  split
  case h_5 => exact h
  all_goals exact endActivation_oneActive _ _ _ (cancelPackPairs_oneActive h)

theorem activateTimeout_oneActive {s : State} (h : OneActive s.banks) : OneActive (activateTimeout s).banks := by
  unfold activateTimeout
  split
  · exact endActivation_oneActive _ _ _ h
  · exact h

/-! ### calibration banks and fault maps (chapter 9) -/

theorem startBuild_oneActive (n : Fin 2) {s : State} (h : OneActive s.banks) : OneActive (startBuild n s).banks := by
  unfold startBuild
  extract_lets d ok len b s1 s2
  split
  · exact h
  · have hs : OneActive s2.banks := openBank_oneActive (calPair n) (h.congr (reportBad_banks _ s))
    split
    · exact hs
    · exact hs.congr (by simp)

theorem requestBuild_oneActive (n : Fin 2) {s : State} (h : OneActive s.banks) : OneActive (requestBuild n s).banks := by
  unfold requestBuild
  split
  · exact h
  · exact startBuild_oneActive n h

theorem trigger_oneActive (n : Fin 2) (code : BitVec 4) {s : State} (h : OneActive s.banks) :
    OneActive (trigger n code s).banks := by
  unfold trigger
  split
  · exact h
  · exact requestBuild_oneActive n h

theorem buildBank_oneActive (n : Fin 2) (b : CalBuild) {s : State} (h : OneActive s.banks) :
    OneActive (buildBank n b s).banks := by
  unfold buildBank
  dsimp only [State.modDiag_banks]
  refine modBank_oneActive (h.congr (gorseStore_banks _ _ s)) (calPair n) fun x hx => ?_
  split <;> exact hx

theorem calBuildFailed_oneActive (n : Fin 2) {s : State} (h : OneActive s.banks) : OneActive (calBuildFailed n s).banks := by
  have hc := bankCancel_oneActive (calPair n) h
  unfold calBuildFailed
  dsimp only
  split
  · exact openBank_oneActive _ hc
  · have hr := hc.congr (report_banks 0x1A 0x1B (BitVec.ofNat 8 n.val) 2 {} _)
    split
    · exact startBuild_oneActive n hr
    · exact hr

theorem calBankActive_oneActive (n : Fin 2) {s : State} (h : OneActive s.banks) : OneActive (calBankActive n s).banks := by
  unfold calBankActive
  dsimp only
  split
  · exact startBuild_oneActive n (h.congr (by simp))
  · exact h.congr (by simp)

theorem commitMatched_oneActive (n : Fin 2) {s : State} (h : OneActive s.banks) : OneActive (commitMatched n s).banks := by
  unfold commitMatched
  dsimp only
  split
  · exact trigger_oneActive n _ (h.congr (by simp))
  · split
    · exact trigger_oneActive n _ (h.congr (by simp))
    · split
      · exact requestBuild_oneActive n (h.congr (by simp))
      · exact h.congr (by simp)

theorem fmapCopyEnd_oneActive (n : Fin 2) (corrupt : List (Nat × Byte)) {s : State} (h : OneActive s.banks) :
    OneActive (fmapCopyEnd n corrupt s).banks := by
  unfold fmapCopyEnd
  dsimp only
  split
  · exact h
  · split
    · split
      · rw [startCommit_banks]
        exact commitMatched_oneActive n (h.congr (by simp))
      · exact commitMatched_oneActive n (h.congr (by simp))
    · exact h.congr (by simp)

theorem fmapCtrl_oneActive (n : Fin 2) (w : U32) {s : State} (h : OneActive s.banks) :
    ∀ u, fmapCtrl n w s = .ok u → OneActive u.banks := by
  unfold fmapCtrl
  split
  · rintro _ ⟨⟩; exact h.congr (startCommit_banks n s)
  · exact fun u hu => h.congr (fmapRetire_banks _ _ _ u hu)
  · exact fun u hu => h.congr (fmapClear_banks _ _ u hu)
  · rintro _ ⟨⟩; exact trigger_oneActive n 5 h
  · rintro _ ⟨⟩

theorem releaseBuild_oneActive (n : Fin 2) {s : State} (h : OneActive s.banks) : OneActive (releaseBuild n s).banks := by
  unfold releaseBuild
  split
  · exact requestBuild_oneActive n h
  · exact h

theorem tempPayload_oneActive (n : Fin 2) (b : List Byte) {s : State} (h : OneActive s.banks) :
    OneActive (tempPayload n b s).banks := by
  unfold tempPayload
  dsimp only
  refine releaseBuild_oneActive n (h.congr ?_)
  rw [maxEpisode_banks]
  split <;> simp

theorem verificationEnd_oneActive (p : Fin 8) {s : State} (h : OneActive s.banks) : OneActive (verificationEnd p s).banks := by
  unfold verificationEnd
  split
  · exact h
  · dsimp only
    have hs (t : State) (e : t.banks = s.banks) (v : Verdict) : OneActive (settleVerification p v t).banks :=
      settleVerification_oneActive p v (h.congr e)
    split
    · exact modBank_oneActive (hs _ (by simp) _) p fun b hb => hb
    · split
      · exact hs _ (by simp) _
      · split
        · rw [healBuild_banks]; exact hs _ (by simp) _
        · exact calBuildFailed_oneActive _ (hs _ (by simp) _)

theorem afterSwaps_oneActive (swaps : List (Fin 8)) {s : State} (h : OneActive s.banks) : OneActive (afterSwaps swaps s).banks := by
  unfold afterSwaps
  extract_lets s2 s3 s4 s5
  have hs : OneActive s4.banks := by
    refine forAll_oneActive (fun n t ht => ?_) (h.congr (by simp [s3, s2]))
    split
    · exact calBankActive_oneActive n ht
    · exact ht
  exact hs.congr (by simp [s5])

/-- A ticket close changes the banks in its swaps alone. -/
theorem ticketClose_oneActive {s : State} (h : OneActive s.banks) : OneActive (ticketClose s).banks := by
  unfold ticketClose
  split
  · exact h
  · dsimp only
    have hs (t : State) (e : t.banks = s.banks) : OneActive (afterSwaps t.swapping (swapBanks t)).banks :=
      afterSwaps_oneActive _ (swapBanks_oneActive (h.congr e))
    refine (hs (referenceTicket (faultTicket (freshFrame (stampFrame (correctPhase (latchAlign
      (if s.frame.fresh then acceptHeld (openFrame s) else openFrame s))))))) (by simp)).congr ?_
    simp [forAll_banks governorTicket_banks]

/-! ### parameters -/

theorem within_oneActive {lo hi v : Nat} {s : State} (h : OneActive s.banks) :
    ∀ u, within lo hi v s = some u → OneActive u.banks := by
  intro u hu
  obtain ⟨-, rfl⟩ := within_eq_some.1 hu
  exact h

theorem paramPacks_oneActive (base m sub v : Nat) (b : List Byte) {s : State} (h : OneActive s.banks) :
    ∀ u, paramPacks base m sub v b s = some u → OneActive u.banks := by
  unfold paramPacks
  split
  case h_3 => rintro _ ⟨⟩; exact modBank_oneActive h _ fun x hx => hx
  case h_5 => rintro _ ⟨⟩; exact h
  all_goals exact within_oneActive h

theorem retrigger_oneActive {s : State} (h : OneActive s.banks) : OneActive (retrigger s).banks :=
  trigger_oneActive 1 6 (trigger_oneActive 0 6 h)

theorem paramDiag_oneActive (base m sub v : Nat) {s : State} (h : OneActive s.banks) :
    ∀ u, paramDiag base m sub v s = some u → OneActive u.banks := by
  have hr (f : DiagCfg → DiagCfg) : OneActive (retrigger (s.modCfg f)).banks := retrigger_oneActive h
  unfold paramDiag
  dsimp only
  split
  case h_1 | h_2 => exact within_oneActive (hr _)
  case h_8 | h_9 => rintro _ ⟨⟩; exact hr _
  case h_3 | h_4 | h_5 | h_6 | h_7 | h_13 => exact within_oneActive h
  all_goals rintro _ ⟨⟩; exact h

theorem ite_some_oneActive {c : Prop} [Decidable c] {o p : Option State} (ho : ∀ u, o = some u → OneActive u.banks)
    (hp : ∀ u, p = some u → OneActive u.banks) : ∀ u, (if c then o else p) = some u → OneActive u.banks := by
  split
  · exact ho
  · exact hp

theorem setBase_oneActive (base m sub : Nat) (b : List Byte) {s : State} (h : OneActive s.banks) :
    ∀ u, setBase base m sub b s = some u → OneActive u.banks := by
  have hb {o : Option State} (ho : ∀ u, o = some u → u.banks = s.banks) : ∀ u, o = some u → OneActive u.banks :=
    fun u hu => h.congr (ho u hu)
  unfold setBase
  exact ite_some_oneActive (hb (paramNet_banks _ _ _ s)) <| ite_some_oneActive (hb (paramLayers_banks _ _ _ _ s)) <|
    ite_some_oneActive (hb (paramWarp_banks _ _ _ s)) <| ite_some_oneActive (paramPacks_oneActive _ _ _ _ _ h) <|
    ite_some_oneActive (hb (paramFrame_banks _ _ _ s)) <| ite_some_oneActive (hb (paramLinks_banks _ _ _ _ s)) <|
    ite_some_oneActive (paramDiag_oneActive _ _ _ _ h) <| ite_some_oneActive (hb (paramGuard_banks _ _ _ s)) <|
    ite_some_oneActive (hb (paramSafety_banks _ _ _ s)) <| ite_some_oneActive (hb (paramMgmt_banks _ _ _ _ s)) <|
    ite_some_oneActive (hb (paramAnalog_banks _ _ _ _ s)) (hb (paramPower_banks _ _ _ s))

theorem setParam_oneActive (index sub : Nat) (b : List Byte) {s : State} (h : OneActive s.banks) :
    ∀ u, setParam index sub b s = some u → OneActive u.banks := by
  unfold setParam
  split
  · rintro _ ⟨⟩
  · exact setBase_oneActive _ _ _ _ h

theorem tryParam_oneActive (index sub : Nat) (b : List Byte) {s : State} (h : OneActive s.banks) :
    OneActive (tryParam index sub b s).banks := by
  unfold tryParam
  cases hs : setParam index sub b s with
  | none => exact h
  | some t => exact setParam_oneActive _ _ _ h t hs

theorem takeParams_oneActive (l : List (Nat × Nat × List Byte)) {s : State} (h : OneActive s.banks) :
    OneActive (takeParams l s).banks := foldl_oneActive (fun _ _ ht => tryParam_oneActive _ _ _ ht) _ h

theorem loadStored_oneActive (v : Stored) {s : State} (h : OneActive s.banks) : OneActive (loadStored v s).banks := by
  unfold loadStored
  split
  next hs =>
    split at hs
    · exact setParam_oneActive _ _ _ h _ hs
    · cases hs
  next => exact h.congr (by simp)

theorem defaultParam_oneActive (o : Nat × Nat × Obj) {s : State} (h : OneActive s.banks) :
    OneActive (defaultParam o s).banks := by
  unfold defaultParam
  dsimp only
  split
  next hs =>
    obtain ⟨v, -, hv⟩ := Option.bind_eq_some_iff.1 hs
    exact setParam_oneActive _ _ _ h _ hv
  next => exact tryParam_oneActive _ _ _ h

theorem defaultParams_oneActive (b : Fin 4) {s : State} (h : OneActive s.banks) : OneActive (defaultParams b s).banks :=
  foldl_oneActive (fun _ o ht => defaultParam_oneActive o ht) _ h

/-! ### power states, resets and the boot (chapters 17 and 18) -/

/-- Without power every bank is EMPTY. -/
theorem coldState_oneActive (s : State) : OneActive (coldState s).banks := oneActive_replicate

theorem deepDomains_oneActive (t : PowerState) (s : State) : OneActive (deepDomains t s).banks := by
  unfold deepDomains
  dsimp only
  split <;> exact coldState_oneActive (flushReply s)

theorem powerDown_oneActive (t : PowerState) {s : State} (h : OneActive s.banks) : OneActive (powerDown t s).banks := by
  unfold powerDown
  dsimp only
  split
  · exact h
  · exact h.congr (by simp)
  · exact h.congr (by simp)
  · exact deepDomains_oneActive _ _

theorem takeBank_oneActive (b : Fin 4) {s : State} (h : OneActive s.banks) : OneActive (takeBank b s).banks :=
  takeParams_oneActive _ h

theorem restoreBanks_oneActive (ok : BitVec 4) {s : State} (h : OneActive s.banks) : OneActive (restoreBanks ok s).banks := by
  unfold restoreBanks
  extract_lets s1 s2
  have hs : OneActive s1.banks := by
    refine forAll_oneActive (fun b t ht => ?_) h
    have hd := defaultParams_oneActive b (ht.congr (restoreBank_banks b (ok.getLsbD b.val) t))
    dsimp only
    split
    · exact takeBank_oneActive b hd
    · exact hd
  exact hs.congr (by simp [s2])

theorem wakeSleep_oneActive (source ok : BitVec 4) {s : State} (h : OneActive s.banks) :
    OneActive (wakeSleep source ok s).banks := by
  have hr := restoreBanks_oneActive ok h
  unfold wakeSleep
  dsimp only
  split <;> exact hr.congr (by simp [forAll_banks startTraining_banks])

theorem loadPersisted_oneActive {s : State} (h : OneActive s.banks) : OneActive (loadPersisted s).banks :=
  foldl_oneActive (fun _ v ht => loadStored_oneActive v ht) _ (foldl_oneActive (fun _ _ ht => tryParam_oneActive _ _ _ ht) _ h)

theorem bootPack_oneActive {s : State} (h : OneActive s.banks) : OneActive (bootPack s).banks := by
  unfold bootPack
  split
  · exact h
  · split
    · exact h.congr (by simp)
    · have ho := packOpen_oneActive (some s.clocks.bootPackSlot) h
      dsimp only
      split
      · exact ho
      · exact ho.congr (by simp)

theorem bootFrom_oneActive (code : Byte) (parked : Bool) (env : BootEnv) {cold : State} (h : OneActive cold.banks) :
    OneActive (bootFrom code parked env cold).banks := by
  have hl := loadPersisted_oneActive (s := bootCounters code (bootImage env (startClocks code env cold)).1) (h.congr (by simp))
  exact bootPack_oneActive (hl.congr (by simp))

theorem resetKeep_oneActive (code : Byte) (env : BootEnv) (s : State) : OneActive (resetKeep code env s).banks :=
  bootFrom_oneActive _ _ _ (coldState_oneActive s)

theorem resetClear_oneActive (code : Byte) (env : BootEnv) (s : State) : OneActive (resetClear code env s).banks :=
  bootFrom_oneActive _ _ _ ((coldState_oneActive s).congr (clearAon_banks _))

theorem restoreDeep_oneActive (ok : BitVec 4) {s : State} (h : OneActive s.banks) : OneActive (restoreDeep ok s).banks := by
  unfold restoreDeep
  extract_lets s1 s2
  have hs : OneActive s1.banks := by
    refine forAll_oneActive (fun b t ht => ?_) h
    have hd : OneActive (if b.val = 1 then t else defaultParams b (restoreBank b (ok.getLsbD b.val) t)).banks := by
      split
      · exact ht
      · exact defaultParams_oneActive b (ht.congr (restoreBank_banks _ _ t))
    dsimp only
    split
    · exact takeBank_oneActive b hd
    · exact hd
  exact hs.congr (by simp [s2])

theorem wakeDeep_oneActive (source ok : BitVec 4) (env : BootEnv) (s : State) : OneActive (wakeDeep source ok env s).banks := by
  have hl := loadPersisted_oneActive (s := bootCounters 7 (bootImage env (startClocks 7 env (wakeCold s))).1)
    ((coldState_oneActive s).congr (by simp [wakeCold]))
  exact bootPack_oneActive ((restoreDeep_oneActive ok hl).congr (by simp))

theorem reverifyBanks_oneActive {s : State} (h : OneActive s.banks) : OneActive (reverifyBanks s).banks := by
  refine forAll_oneActive (fun p t ht => ?_) h
  split
  · rw [queueJob_banks]
    exact modBank_oneActive ht p fun b _ => b.setState_oneActive _ (x := .verifying) nofun
  · exact ht

theorem recovery_oneActive (i : Fin 4) {s : State} (h : OneActive s.banks) : OneActive (recovery i s).banks := by
  unfold recovery
  dsimp only
  split
  · exact h
  · exact reverifyBanks_oneActive h

/-! ### the effect of a write (chapter 13) -/

theorem effectOf_oneActive {s : State} (h : OneActive s.banks) {r : Except Abort State} (hr : ∀ u, r = .ok u → OneActive u.banks) :
    OneActive (effectOf s r).state.banks := by
  cases r with
  | ok t => exact hr t rfl
  | error a => exact h

theorem plainWrite_oneActive (index sub : Nat) (b : List Byte) {s : State} (h : OneActive s.banks) :
    OneActive (plainWrite index sub b s).state.banks := by
  unfold plainWrite
  split
  next hs => exact setParam_oneActive _ _ _ h _ hs
  next => exact h

theorem rwpWrite_oneActive (r : Requester) (index sub : Nat) (isDomain : Bool) (b : List Byte) {s : State}
    (h : OneActive s.banks) : OneActive (rwpWrite r index sub isDomain b s).state.banks := by
  unfold rwpWrite
  split
  · exact h
  · split
    · exact h
    · next t _ =>
      dsimp only
      have hb := logChange_banks 1 (w16 index) (w8 sub) r.carrier r.src (logValue (s.objectValue r.carrier index sub) isDomain)
        (logValue (t.objectValue r.carrier index sub) isDomain) s
      split
      next hl => rw [hl] at hb; exact h.congr hb
      next hl =>
        rw [hl] at hb
        split
        · exact h.congr hb
        next hs => exact (setParam_oneActive _ _ _ (h.congr hb) _ hs).congr (by simp)

theorem stageWrite_oneActive (n : Fin 8) (index sub : Nat) (b : List Byte) {s : State} (h : OneActive s.banks) :
    OneActive (stageWrite n index sub b s).state.banks := by
  unfold stageWrite
  split
  · exact h
  · exact plainWrite_oneActive _ _ _ h

theorem loadFlashEffect_oneActive (slot : Byte) {s : State} (h : OneActive s.banks) :
    OneActive (loadFlashEffect slot s).state.banks := by
  have ho := packOpen_oneActive (some slot) h
  unfold loadFlashEffect
  dsimp only
  split
  · exact ho
  · split
    · exact h
    · exact ho

theorem packWrite_oneActive (w : U32) {s : State} (h : OneActive s.banks) : OneActive (packWrite w s).state.banks := by
  unfold packWrite
  split
  · exact h
  · split
    · exact h
    · split
      · exact loadFlashEffect_oneActive _ h
      · rw [effectOfBool_state]; exact packOpen_oneActive none h
      · rw [effectOfBool_state]; exact h.congr (packClose_banks s)
      · rw [activateEffect_state]; exact packActivate_oneActive h
      · rw [effectOfBool_state]; exact packCancel_oneActive h
      · exact h

theorem bankWrite_oneActive (p : Fin 8) (w : U32) {s : State} (h : OneActive s.banks) :
    OneActive (bankWrite p w s).state.banks := by
  unfold bankWrite
  dsimp only
  split
  · exact h
  · split
    · exact effectOf_oneActive h (bankOpen_oneActive p h)
    · exact effectOf_oneActive h (bankSwap_oneActive p h)
    · exact bankCancel_oneActive p h
    · exact h

theorem fmapWrite_oneActive (n : Fin 2) (w : U32) {s : State} (h : OneActive s.banks) :
    OneActive (fmapWrite n w s).state.banks := by
  unfold fmapWrite
  split
  · exact h
  · exact effectOf_oneActive h (fmapCtrl_oneActive n w h)

theorem chkCfgWrite_oneActive (k : Fin 8) (index : Nat) (b : List Byte) {s : State} (h : OneActive s.banks) :
    OneActive (chkCfgWrite k index b s).state.banks := by
  unfold chkCfgWrite
  split
  · exact h
  · exact plainWrite_oneActive _ _ _ h

theorem chkWrite_oneActive (k : Fin 8) (index sub : Nat) (b : List Byte) {s : State} (h : OneActive s.banks) :
    OneActive (chkWrite k index sub b s).state.banks := by
  have hp := plainWrite_oneActive index sub b h
  unfold chkWrite
  split
  · exact effectOf_oneActive h fun u hu => h.congr (chkCtrl_banks _ _ _ u hu)
  · exact chkCfgWrite_oneActive _ _ _ h
  · split <;> [exact h; exact hp]
  · split <;> [exact h; exact hp]
  · exact effectOf_oneActive h fun u hu => h.congr (chkFeed_banks _ _ _ u hu)
  · split <;> [exact h; exact hp]
  · split <;> [exact h; exact hp]

theorem windowWrite_oneActive (w : Fin 16) (index sub : Nat) (b : List Byte) {s : State} (h : OneActive s.banks) :
    OneActive (windowWrite w index sub b s).state.banks := by
  unfold windowWrite
  split
  · exact h
  next hs => exact (setParam_oneActive _ _ _ h _ hs).congr (by simp)

theorem writeScene_oneActive (index base m sub : Nat) (b : List Byte) {s : State} (h : OneActive s.banks) :
    ∀ e, writeScene index base m sub b s = some e → OneActive e.state.banks := by
  unfold writeScene
  dsimp only
  split <;> rintro _ ⟨⟩
  · exact h.congr (groupWrite_banks _ s)
  · exact stageWrite_oneActive _ _ _ _ h
  · exact stageWrite_oneActive _ _ _ _ h
  · exact h.congr (commitWrite_banks _ _ s)
  · exact packWrite_oneActive _ h
  · exact bankWrite_oneActive _ _ h
  · exact h.congr (schedStartWrite_banks _ s)
  · exact h.congr (boolEffect_banks b (by simp))
  · exact h.congr (svhWrite_banks _ s)
  · exact windowWrite_oneActive _ _ _ _ h
  · exact windowWrite_oneActive _ _ _ _ h
  · exact h.congr (sveWrite_banks _ _ s)
  · exact h.congr (testCtrlWrite_banks _ s)
  · exact fmapWrite_oneActive _ _ h

theorem writeControl_oneActive (q : Request) (index base m sub : Nat) (b : List Byte) {s : State} (h : OneActive s.banks) :
    ∀ e, writeControl q index base m sub b s = some e → OneActive e.state.banks := by
  unfold writeControl
  dsimp only
  split <;> rintro _ ⟨⟩
  · exact h.congr (descSelWrite_banks _ _ s)
  · exact h.congr (lampWrite_banks _ _ s)
  · exact h.congr (effectOf_banks (setTestSource_banks _ s))
  · exact h.congr (unlockWrite_banks _ _ s)
  · exact h.congr (lockWrite_banks _ _ s)
  · exact h.congr (pwNewWrite_banks _ _ s)
  · exact h.congr (faultAck_banks _ s)
  · exact h.congr (clearWrite_banks _ s)
  · exact h.congr (chWrite_banks _ _ _ s)
  · exact chkWrite_oneActive _ _ _ _ h
  · exact h.congr (powerWrite_banks _ s)
  · exact h.congr (boolEffect_banks b rfl)
  · exact h.congr (nvmWrite_banks _ s)
  · exact h.congr (boolEffect_banks b (calsetWrite_banks s))
  · exact h.congr (resetWrite_banks _ _ s)

theorem writeEffect_oneActive (q : Request) (o : Obj) (index base m sub : Nat) (b : List Byte) {s : State}
    (h : OneActive s.banks) : OneActive (writeEffect q o index base m sub b s).state.banks := by
  have hs : ∀ e, ((writeScene index base m sub b s).orElse fun _ => writeControl q index base m sub b s) = some e →
      OneActive e.state.banks := by
    cases hw : writeScene index base m sub b s with
    | none => exact writeControl_oneActive _ _ _ _ _ _ h
    | some e =>
      rintro _ ⟨⟩
      exact writeScene_oneActive _ _ _ _ _ h _ hw
  unfold writeEffect
  split
  · exact h
  · split
    next he => exact hs _ he
    next =>
      split
      · exact rwpWrite_oneActive _ _ _ _ _ h
      · exact plainWrite_oneActive _ _ _ h

theorem executeWrite_oneActive (q : Request) {s : State} (h : OneActive s.banks) : OneActive (executeWrite q s).state.banks := by
  unfold executeWrite
  dsimp only
  split
  · exact h
  · split
    · exact writeEffect_oneActive _ _ _ _ _ _ _ h
    · exact h

/-! ### ports and long operations (chapter 13) -/

theorem finishWrite_oneActive (q : Request) {e : Effect} (h : OneActive e.state.banks) : OneActive (finishWrite q e).banks := by
  cases e with
  | done s => exact h.congr (answerDone_banks q s)
  | refused a s => exact h.congr (answerAbort_banks q a s)
  | reset env s => exact resetKeep_oneActive 5 env _
  | ended op bound a s => exact h.congr (by simp [finishWrite])
  | awaits w bound s =>
    refine h.congr ?_
    unfold finishWrite
    dsimp only
    split
    · simp
    · simp

theorem writeSegment_oneActive (q : Request) (t : Transfer) {s : State} (h : OneActive s.banks) :
    OneActive (writeSegment q t s).banks := by
  unfold writeSegment
  dsimp only
  split
  · exact h.congr (by simp)
  · split
    · exact h.congr (by simp)
    · exact finishWrite_oneActive q (executeWrite_oneActive _ (h.congr (endTransfer_banks _ s)))

theorem runSegment_oneActive (q : Request) {s : State} (h : OneActive s.banks) : OneActive (runSegment q s).banks := by
  unfold runSegment
  split
  · exact h.congr (answerAbort_banks _ _ s)
  · exact h.congr (answerAbort_banks _ _ s)
  · split
    · exact h.congr (answerAbort_banks _ _ s)
    · split
      · exact h.congr (by simp)
      · split
        · exact writeSegment_oneActive q _ h
        · exact h.congr (readSegment_banks _ _ s)

theorem runRequest_oneActive (q : Request) {s : State} (h : OneActive s.banks) : OneActive (runRequest q s).banks := by
  unfold runRequest
  split
  · exact h.congr (by simp)
  · split
    · exact h.congr (runAbort_banks q s)
    · exact h.congr (runRead_banks q s)
    · exact finishWrite_oneActive q (executeWrite_oneActive q h)
    · exact h.congr (runReadInit_banks q s)
    · exact h.congr (runWriteInit_banks q s)
    · exact runSegment_oneActive q h

theorem drain_oneActive (fuel : Nat) {s : State} (h : OneActive s.banks) : OneActive (drain fuel s).banks := by
  induction fuel generalizing s with
  | zero => exact h
  | succ k ih =>
    unfold drain
    split
    · exact h
    · exact ih (runRequest_oneActive _ (h.congr (by simp)))

theorem completeService_oneActive (c : Carrier) (refusal : Option Abort) {s : State} (h : OneActive s.banks) :
    OneActive (completeService c refusal s).banks := by
  unfold completeService
  split
  · exact h
  · exact drain_oneActive 24 (h.congr (by simp))

theorem completeAll_oneActive (w : Awaits) (refusal : Option Abort) {s : State} (h : OneActive s.banks) :
    OneActive (completeAll w refusal s).banks := by
  refine foldl_oneActive (fun t c ht => ?_) _ h
  split
  · exact completeService_oneActive c refusal ht
  · exact ht

theorem acceptRequest_oneActive (q : Request) {s : State} (h : OneActive s.banks) : OneActive (acceptRequest q s).banks := by
  unfold acceptRequest
  dsimp only
  split
  · exact h.congr (by simp)
  · split
    · exact h.congr (by simp)
    · split
      · exact runRequest_oneActive q (h.congr (noteRequest_banks q s))
      · exact h.congr (by simp)

theorem takeFrame_oneActive (q : Request) {s : State} (h : OneActive s.banks) : OneActive (takeFrame q s).banks := by
  unfold takeFrame
  split
  · exact h.congr (by simp)
  · exact acceptRequest_oneActive q (h.congr (noteTid_banks q s))

theorem receive_oneActive (q : Request) {s : State} (h : OneActive s.banks) : OneActive (receive q s).banks := by
  unfold receive
  split
  · exact h
  · dsimp only
    split
    · exact h.congr (countRx_banks _ s)
    · split
      · exact h.congr (countRx_banks _ s)
      · exact h.congr (by simp)
      · exact takeFrame_oneActive q (h.congr (countRx_banks _ s))

theorem settle_oneActive (before : State) {after : State} (h : OneActive after.banks) : OneActive (settle before after).banks := by
  have hb := h.congr (settleBoot_banks before after)
  unfold settle
  dsimp only
  split
  · exact completeAll_oneActive _ _ hb
  · exact hb

theorem takeRequest_oneActive (q : Request) {s : State} (h : OneActive s.banks) : OneActive (takeRequest q s).banks :=
  settle_oneActive s (receive_oneActive q h)

theorem objPayload_oneActive (b : List Byte) {s : State} (h : OneActive s.banks) : OneActive (objPayload b s).banks :=
  receive_oneActive _ (h.congr (by simp))

theorem refusePower_oneActive (code : Byte) (domain : BitVec 4) {s : State} (h : OneActive s.banks) :
    OneActive (refusePower code domain s).banks := completeAll_oneActive _ _ (h.congr (refuseEntry_banks _ _ s))

/-! ### the clock (chapter 0) -/

theorem closeTicket_oneActive {s : State} (h : OneActive s.banks) : OneActive (closeTicket s).banks :=
  settle_oneActive s (ticketClose_oneActive h)

theorem closeBefore_oneActive (due : Nat) {s : State} (h : OneActive s.banks) : OneActive (closeBefore due s).banks := by
  unfold closeBefore
  split
  · exact closeTicket_oneActive h
  · exact h

theorem timed_oneActive (due : State → Option Nat) {act : State → State} (hact : ∀ t, OneActive t.banks → OneActive (act t).banks)
    {s : State} (h : OneActive s.banks) : OneActive (timed due act s).banks := by
  unfold timed
  split
  · exact h
  · dsimp only
    split
    · exact closeBefore_oneActive _ h
    · exact hact _ (closeBefore_oneActive _ h)

/-- A command with a date whose action leaves the banks alone. -/
theorem timed_oneActive_of_banks (due : State → Option Nat) {act : State → State} (hact : ∀ t, (act t).banks = t.banks)
    {s : State} (h : OneActive s.banks) : OneActive (timed due act s).banks :=
  timed_oneActive due (fun t ht => ht.congr (hact t)) h

theorem tick_oneActive {s : State} (h : OneActive s.banks) : OneActive (tick s).banks := closeBefore_oneActive _ h

/-! ### the ends of what a request waits for -/

theorem commitCheckEnd_oneActive (n : Fin 8) {s : State} (h : OneActive s.banks) : OneActive (commitCheckEnd n s).banks := by
  unfold commitCheckEnd
  split
  next he =>
    have hb := endCheck_banks _ _ _ he
    exact completeAll_oneActive _ _ (h.congr ((schedCheckEnd_banks _ _ _).trans hb))
  next => exact h

theorem packLoadEnd_oneActive (flash : FlashRead) {s : State} (h : OneActive s.banks) : OneActive (packLoadEnd flash s).banks := by
  have hl := h.congr (loadPack_banks flash s)
  unfold packLoadEnd
  dsimp only
  split
  · exact h
  · split
    · exact packActivate_oneActive hl
    · exact hl

theorem storeEnd_oneActive (writeOk : Bool) {s : State} (h : OneActive s.banks) : OneActive (storeEnd writeOk s).banks := by
  unfold storeEnd
  split
  · exact h
  · split
    · exact completeAll_oneActive _ _ h
    · exact completeAll_oneActive _ _ (h.congr (cairnFailure_banks _))

theorem calsetWriteEnd_oneActive (programmed : Bool) {s : State} (h : OneActive s.banks) :
    OneActive (calsetWriteEnd programmed s).banks := by
  unfold calsetWriteEnd
  extract_lets old src hd good s1 t mgmt u
  have hu : OneActive u.banks := by
    refine h.congr ((with_mgmt_banks t _).trans ?_)
    rw [ite_banks, writeCalset_banks, openCalset_banks, ite_self, reportBad_banks]
  split
  · exact h
  · split
    · exact completeAll_oneActive _ _ h
    · split
      · exact completeAll_oneActive _ _ (trigger_oneActive 1 4 (trigger_oneActive 0 4 hu))
      · exact completeAll_oneActive _ _ (hu.congr (report1_banks _ _ _ u))

theorem completeEntry_oneActive (saveOk : Bool) (t : PowerState) {s : State} (h : OneActive s.banks) :
    OneActive (completeEntry saveOk t s).banks := by
  unfold completeEntry
  split
  · exact refusePower_oneActive _ _ h
  · dsimp only
    have hp : OneActive (powerDown t (answerPower (if t.saves then saveRetention s else s))).banks :=
      powerDown_oneActive t (h.congr (by simp))
    split
    · exact drain_oneActive 24 hp
    · exact hp

theorem handshakeAnswer_oneActive (saveOk writing : Bool) {s : State} (h : OneActive s.banks) :
    OneActive (handshakeAnswer saveOk writing s).banks := by
  unfold handshakeAnswer
  split
  · exact h
  · dsimp only
    split
    · exact h
    · split
      · exact refusePower_oneActive _ _ h
      · split
        · exact refusePower_oneActive _ _ h
        · have ha := h.congr (acknowledge_banks s.power.step s)
          split
          · exact completeEntry_oneActive _ _ ha
          · exact ha

theorem wakeEvent_oneActive (source : Fin 7) (decay : List (Fin 4 × Nat × Byte)) (env : BootEnv) {s : State}
    (h : OneActive s.banks) : OneActive (wakeEvent source decay env s).banks := by
  unfold wakeEvent
  split
  · exact h
  · have ht := h.congr (timerWake_banks source s)
    dsimp only
    split
    · exact h
    · exact ht.congr (wakeIdle_banks _ _)
    · exact drain_oneActive 24 (wakeSleep_oneActive _ _ ht)
    · exact wakeDeep_oneActive _ _ _ _
    · exact wakeDeep_oneActive _ _ _ _
    · exact resetClear_oneActive _ _ _

theorem warningEvent_oneActive (i : Fin 4) {s : State} (h : OneActive s.banks) : OneActive (warningEvent i s).banks := by
  unfold warningEvent
  dsimp only
  split
  · exact refusePower_oneActive _ _ (h.congr (by simp))
  · exact h.congr (by simp)

theorem supplySample_oneActive (i : Fin 4) (mv : U16) {s : State} (h : OneActive s.banks) :
    OneActive (supplySample i mv s).banks := by
  unfold supplySample
  split
  · exact h
  · dsimp only
    split
    · exact warningEvent_oneActive i h
    · split
      · exact recovery_oneActive i h
      · exact h

/-! ### every command -/

theorem exec_calBuildStart_oneActive (n : Fin 2) (code : BitVec 4) {s : State} (h : OneActive s.banks) :
    ∃ t, exec (.calBuildStart n code) s = .next t ∧ OneActive t.banks := by
  refine ⟨_, rfl, ?_⟩
  split
  · exact h
  · split
    · exact h
    · split
      · exact h
      · exact trigger_oneActive n code h

theorem exec_calBuildComplete_oneActive (n : Fin 2) {s : State} (h : OneActive s.banks) :
    ∃ t, exec (.calBuildComplete n) s = .next t ∧ OneActive t.banks := by
  refine ⟨_, rfl, ?_⟩
  split
  · exact h
  next b _ =>
    have hb := buildBank_oneActive n b h
    dsimp only
    split
    next hs => exact requestSwap_oneActive _ _ hb _ hs
    next => exact hb

theorem exec_tempMissing_oneActive (n : Fin 2) {s : State} (h : OneActive s.banks) :
    ∃ t, exec (.tempMissing n) s = .next t ∧ OneActive t.banks := by
  refine ⟨_, rfl, ?_⟩
  split
  · exact releaseBuild_oneActive n (h.congr (by simp))
  · exact h

theorem exec_tempReceive_oneActive (n : Fin 2) (p : Packet) {s : State} (h : OneActive s.banks) :
    ∃ t, exec (.tempReceive n p) s = .next t ∧ OneActive t.banks := by
  refine ⟨_, rfl, ?_⟩
  obtain hs | ⟨t, ht, hs⟩ := tileReceive_cases n 0x24 8 p (p.flags != 0)
    (fun t => if p.payload.length = 8 then tempPayload n p.payload t else t) s
  · exact h.congr hs
  · rw [hs]
    split
    · exact tempPayload_oneActive n _ (h.congr ht)
    · exact h.congr ht

theorem exec_objPacket_oneActive (p : Packet) {s : State} (h : OneActive s.banks) :
    ∃ t, exec (.objPacket p) s = .next t ∧ OneActive t.banks := by
  refine ⟨_, rfl, settle_oneActive s ?_⟩
  obtain hs | ⟨t, ht, hs⟩ := svhReceive_cases 4 1024 p (headerReserved p) (objPayload p.payload) s
  · exact h.congr hs
  · rw [hs]
    exact objPayload_oneActive _ (h.congr ht)

theorem exec_trainingAttempt_oneActive (n : Fin 2) (obs : TrainObs) {s : State} (h : OneActive s.banks) :
    ∃ t, exec (.trainingAttempt n obs) s = .next t ∧ OneActive t.banks := by
  refine ⟨_, rfl, h.congr ?_⟩
  repeat' split
  all_goals simp

theorem exec_faultReportAccept_oneActive (parityError : Bool) {s : State} (h : OneActive s.banks) :
    ∃ t, exec (.faultReportAccept parityError) s = .next t ∧ OneActive t.banks := by
  refine ⟨_, rfl, h.congr ?_⟩
  rw [ite_banks, report_banks, ite_self]
  split <;> simp

theorem exec_ticketClose_oneActive {s : State} (h : OneActive s.banks) :
    ∃ t, exec .ticketClose s = .next t ∧ OneActive t.banks := by
  refine ⟨_, rfl, ?_⟩
  split
  · exact closeTicket_oneActive h
  · exact h

theorem exec_checkAlive_oneActive (r : Option Requester) (k : Fin 8) (alive : Byte) {s : State} (h : OneActive s.banks) :
    ∃ t, exec (.checkAlive r k alive) s = .next t ∧ OneActive t.banks := by
  cases r with
  | some q => exact ⟨_, rfl, takeRequest_oneActive _ h⟩
  | none => exact ⟨_, rfl, h.congr (by simp)⟩

theorem exec_pllNotLockedReset_oneActive (env : BootEnv) {s : State} (h : OneActive s.banks) :
    ∃ t, exec (.pllNotLockedReset env) s = .next t ∧ OneActive t.banks := by
  refine ⟨_, rfl, ?_⟩
  split
  · exact h
  · split
    · exact resetKeep_oneActive _ _ _
    · exact coldState_oneActive s

theorem exec_supplyReset_oneActive (env : BootEnv) {s : State} (h : OneActive s.banks) :
    ∃ t, exec (.supplyReset env) s = .next t ∧ OneActive t.banks := by
  refine ⟨_, rfl, ?_⟩
  split
  · exact h
  · split
    · exact coldState_oneActive s
    · exact resetClear_oneActive _ _ _

theorem ite_oneActive (c : Bool) {s t : State} (h : OneActive s.banks) (ht : OneActive t.banks) :
    OneActive (if c then s else t).banks := by
  split
  · exact h
  · exact ht

theorem exec_porstNAssert_oneActive (lowNs : Nat) {s : State} (h : OneActive s.banks) :
    ∃ t, exec (.porstNAssert lowNs) s = .next t ∧ OneActive t.banks := by
  refine ⟨_, rfl, ?_⟩
  split
  · exact h
  · exact coldState_oneActive s

theorem exec_handshakeTimeout_oneActive {s : State} (h : OneActive s.banks) :
    ∃ t, exec .handshakeTimeout s = .next t ∧ OneActive t.banks := by
  refine ⟨_, rfl, ?_⟩
  split
  · exact refusePower_oneActive _ _ h
  · exact h

/-- Every command keeps at most one bank of a pair ACTIVE. -/
theorem exec_oneActive (c : Instr) {s : State} (h : OneActive s.banks) : ∃ t, exec c s = .next t ∧ OneActive t.banks := by
  cases c
  -- requests at the ports
  case resetCmd | commit | commitCancel | commitDiscard | groupCommit | sveRetrain | svhRetrain | read | write | readInit
      | writeInit | segment | segmentLast | abort | registerWrite | unlock | lock | pwNew | lampCmdOff | lampCmdService
      | lampCmdFallback | lampCmdParked | lampCmdTest | lampCmdRecovery | testSource | testCtrl | faultAck | faultClear
      | bankOpen | swapRequest | bankCancel | loadFlash | openHost | closeHost | activate | packCancel | schedStart
      | schedStop | fmapCommit | fmapRetire | fmapClear | fmapRebuild | go | stop | startMem | feedOpen | chkFeed
      | feedClose | checkAbort | powerCmdRun | powerCmdIdle | powerCmdSleep | powerCmdDeep | powerCmdDew | powerCmdOff
      | wakeAck | store | restoreDefaults | calsetWrite =>
    exact ⟨_, rfl, takeRequest_oneActive _ h⟩
  -- commands with a date
  case boxExpiry | quickChannelStale | twinWindowExpiry | twinTimeout | timeBaseUnlockTimeout | grandmasterSyncSend
      | fsyncLoss | tsensNoConversion | thermalRestart | echoDeadline | trainingRetry | svarnELinkLoss | segTimeout
      | busyResponse | unlockIdleExpiry | lockoutEnd | longDip =>
    exact ⟨_, rfl, timed_oneActive_of_banks _ (fun t => by simp) h⟩
  case commitCheckEnd n => exact ⟨_, rfl, timed_oneActive _ (fun t ht => commitCheckEnd_oneActive n ht) h⟩
  -- packets
  case streamPacket p => exact ⟨_, rfl, h.congr (svhReceive_banks _ _ _ _ (streamAccept_banks p) s)⟩
  case bulkWrite p => exact ⟨_, rfl, h.congr (svhReceive_banks _ _ _ _ (bulkWriteAccept_banks p) s)⟩
  case bulkRead p => exact ⟨_, rfl, h.congr (svhReceive_banks _ _ _ _ (bulkReadAccept_banks p) s)⟩
  case quickPacket p => exact ⟨_, rfl, h.congr (svhReceive_banks _ _ _ _ (quickPayload_banks _) s)⟩
  case objPacket p => exact exec_objPacket_oneActive p h
  case echoReceive n p => exact ⟨_, rfl, h.congr (tileReceive_banks _ _ _ _ _ (echoArrives_banks n p) s)⟩
  case statusReceive n p => exact ⟨_, rfl, h.congr (tileReceive_banks _ _ _ _ _ (fun t => by simp) s)⟩
  case tempReceive n p => exact exec_tempReceive_oneActive n p h
  case diagReceive n p => exact ⟨_, rfl, h.congr (tileReceive_banks _ _ _ _ _ (diagPayload_banks n _ _ _) s)⟩
  case vfReceive n p => exact ⟨_, rfl, h.congr (tileReceive_banks _ _ _ _ _ (fun t => by simp) s)⟩
  -- resets, power states and supplies
  case porstNAssert lowNs => exact exec_porstNAssert_oneActive lowNs h
  case porstNRelease env => exact ⟨_, rfl, ite_oneActive _ h (resetClear_oneActive _ _ _)⟩
  case supplyReset env => exact exec_supplyReset_oneActive env h
  case managementWatchdogExpiry env => exact ⟨_, rfl, ite_oneActive _ h (resetKeep_oneActive _ _ _)⟩
  case pllNotLockedReset env => exact exec_pllNotLockedReset_oneActive env h
  case testReset testEn env => exact ⟨_, rfl, ite_oneActive _ h (resetKeep_oneActive _ _ _)⟩
  case handshakeAnswer found => exact ⟨_, rfl, handshakeAnswer_oneActive _ _ h⟩
  case handshakeTimeout => exact exec_handshakeTimeout_oneActive h
  case wakeEvent source decay env => exact ⟨_, rfl, wakeEvent_oneActive source decay env h⟩
  case supplySample i mv => exact ⟨_, rfl, supplySample_oneActive i mv h⟩
  -- banks, packs, calibration and what a request waits for
  case ticketClose => exact exec_ticketClose_oneActive h
  case verificationEnd p => exact ⟨_, rfl, settle_oneActive s (verificationEnd_oneActive p h)⟩
  case deferLimitReached p => exact ⟨_, rfl, deferLimitReached_oneActive p h⟩
  case packLoadEnd flash => exact ⟨_, rfl, settle_oneActive s (packLoadEnd_oneActive flash h)⟩
  case activateTimeout => exact ⟨_, rfl, settle_oneActive s (activateTimeout_oneActive h)⟩
  case calBuildStart n code => exact exec_calBuildStart_oneActive n code h
  case calBuildComplete n => exact exec_calBuildComplete_oneActive n h
  case fmapCopyEnd n corrupt => exact ⟨_, rfl, fmapCopyEnd_oneActive n corrupt h⟩
  case tempMissing n => exact exec_tempMissing_oneActive n h
  case storeEnd writeOk => exact ⟨_, rfl, storeEnd_oneActive writeOk h⟩
  case calsetWriteEnd programmed => exact ⟨_, rfl, calsetWriteEnd_oneActive programmed h⟩
  case checkAlive r k alive => exact exec_checkAlive_oneActive r k alive h
  -- commands that leave the banks alone
  case trainingAttempt n obs => exact exec_trainingAttempt_oneActive n obs h
  case faultReportAccept parityError => exact exec_faultReportAccept_oneActive parityError h
  all_goals exact ⟨_, rfl, h.congr (by simp)⟩

theorem step_oneActive {s t : State} (h : OneActive s.banks) (ht : step s = .next t) : OneActive t.banks := by
  unfold step at ht
  split at ht
  · cases ht
    exact tick_oneActive h
  next c rest _ =>
    obtain ⟨u, hu, ho⟩ := exec_oneActive c (s := { s with pending := rest }) h
    cases hu.symm.trans ht
    exact ho

/-- Settles O4: a reset leaves every bank EMPTY; of every command, and of the idle cycle, at most one bank of a pair is ACTIVE
afterwards, as the swap alone makes a bank ACTIVE and retires the one that was. -/
theorem stepKeepsOneActiveBank : Obligations.StepKeepsOneActiveBank :=
  ⟨by decide, fun _ _ h ht => step_oneActive h ht⟩

end Sys2Proof.Machine
end
